-- ==== Sys2Proof/Word.lean ====
section
/-! DEFINITION. The word types of the hub (spec/00_scope.md, R4) and their plainest arithmetic. -/

namespace Sys2Proof

/-- A byte. -/
abbrev Byte := BitVec 8

/-- A word: "Word on its own means 32 bits" (00_scope.md). -/
abbrev Word := BitVec 32

end Sys2Proof
end

