-- ==== Sys2Proof/Syntax.lean ====
section
/-! DEFINITION. The commands and events of spec/opcode_table.json as one inductive type, with their operands. -/

namespace Sys2Proof

/-- What a mailbox command carries beside its payload: its source (R411: 0 LINK, 1 CSPI, 2 PAIR), SEQ, TARGET and CRC (R413). -/
structure Hdr where
  src : Fin 3
  seq : BitVec 16
  target : BitVec 8
  crc : BitVec 16
  deriving DecidableEq, Repr

/-- What the environment gives the hub at a frame tick: how many 40 MHz XO cycles have passed since the last tick, how far
the tick lies past the last XO edge in 1/256 ns (the interpolator of R296), and the levels of the pins that the hub
samples at a tick (R49, R213, R106), and the partner's SYS_PREP [4:0] (R433). -/
structure TickIn where
  xo : Nat
  sub : Fin 6400
  blank : Bool
  trigIn : Bool
  sealEn : Bool
  partner : BitVec 5
  deriving DecidableEq, Repr

/-- One channel at one hold instant: the held signal of each path in LSB0 (compared with UP_r of R69), the code the
serving ADC gives for each path and the code the ADC connected beside it gives (R86). -/
structure SampleIn where
  ch : Fin 256
  held : Int × Int × Int
  code : BitVec 14 × BitVec 14 × BitVec 14
  other : BitVec 14 × BitVec 14 × BitVec 14
  deriving DecidableEq, Repr

/-- What a resting ADC's calibration measures (R116): the offset of each comparator, the differential non-linearity of each upper bit
weight with each choice of capacitor units, the deviation of the full-scale gain in ppm with each trim, and the sum of the codes of the
4096 conversions of the mid-scale reference. -/
structure AdcCalIn where
  offsets : List Int
  dnl : List (List Int)
  gains : List Int
  codes : Nat
  deriving DecidableEq, Repr

/-- A lane whose CDR has locked, and the PRECODE_EN with which the far end sends (R268). -/
structure CdrIn where
  lane : Fin 11
  far : Bool
  deriving DecidableEq, Repr

/-- The register in which bits have inverted, and which bits of its first, second and third copy have (R398). -/
structure Upset where
  addr : BitVec 32
  first : BitVec 32
  second : BitVec 32
  third : BitVec 32
  deriving DecidableEq, Repr

/-- The levels in mV at which VDD_CORE, VDD_AFE, VDD_LINK and VDD_IO have stayed for 1 us (R443). -/
structure RailLevels where
  core : BitVec 12
  afe : BitVec 12
  link : BitVec 12
  io : BitVec 12
  deriving DecidableEq, Repr

/-- What the sink of one LED measured at the end of its row (R378, R379): the current carried in percent of the one set, VLED
less the sink voltage in mV, and the headroom in mV. -/
structure LedMeas where
  row : Fin 8
  col : Fin 16
  percent : Nat
  across : Nat
  headroom : Nat
  deriving DecidableEq, Repr

/-- A guard of a feature-engine instruction: predicate GP, inverted when GN = 1 (R168). -/
structure Guard where
  p : Fin 8
  neg : Bool
  deriving DecidableEq, Repr

/-- The guard P0 with GN = 1 is reserved (R168). -/
def Guard.ok (g : Guard) : Bool := !(g.p == 0 && g.neg)

/-- A 5-bit source code of R164 that is not reserved. -/
abbrev FeSrc := Fin 28

/-- One feature-engine instruction with its fields (R170, R171). -/
inductive FeIns where
  | nop (gd : Guard)
  | mov (gd : Guard) (d : Fin 16) (a : FeSrc)
  | movi (gd : Guard) (d : Fin 16) (imm : BitVec 18)
  | ldk (gd : Guard) (d : Fin 16) (k : Fin 252)
  | ldl (gd : Guard) (d : Fin 16) (j : Fin 16)
  | ldw (gd : Guard) (d : Fin 16) (a : FeSrc)
  | ldwi (gd : Guard) (d : Fin 16) (i : Fin 32)
  | add (gd : Guard) (d : Fin 16) (a b : FeSrc)
  | sub (gd : Guard) (d : Fin 16) (a b : FeSrc)
  | addi (gd : Guard) (d : Fin 16) (a : FeSrc) (imm : BitVec 13)
  | mul (gd : Guard) (d : Fin 16) (a b : FeSrc)
  | mulsh (gd : Guard) (d : Fin 16) (a b : FeSrc) (sh : Fin 32)
  | max (gd : Guard) (d : Fin 16) (a b : FeSrc)
  | min (gd : Guard) (d : Fin 16) (a b : FeSrc)
  | abs (gd : Guard) (d : Fin 16) (a : FeSrc)
  | shl (gd : Guard) (d : Fin 16) (a : FeSrc) (sh : Fin 32)
  | shr (gd : Guard) (d : Fin 16) (a : FeSrc) (sh : Fin 32)
  | and (gd : Guard) (d : Fin 16) (a b : FeSrc)
  | or (gd : Guard) (d : Fin 16) (a b : FeSrc)
  | xor (gd : Guard) (d : Fin 16) (a b : FeSrc)
  | wsum (gd : Guard) (d : Fin 16) (first : Fin 32) (cntm1 : Fin 32)
  | wpeak (gd : Guard) (d : Fin 16) (first : Fin 32) (cntm1 : Fin 32)
  | wmin (gd : Guard) (d : Fin 16) (first : Fin 32) (cntm1 : Fin 32)
  | interp (gd : Guard) (d : Fin 16) (a : FeSrc) (first : Fin 32) (edge : Bool) (cntm1 : Fin 32)
  | cmpgt (gd : Guard) (pd : Fin 8) (a b : FeSrc)
  | cmpge (gd : Guard) (pd : Fin 8) (a b : FeSrc)
  | cmpeq (gd : Guard) (pd : Fin 8) (a b : FeSrc)
  | ptst (gd : Guard) (pd : Fin 8) (a : FeSrc) (mask : BitVec 13)
  | plog (gd : Guard) (pd pa pb : Fin 8) (fn : Fin 4)
  | feat (gd : Guard) (slot : Fin 16) (a : FeSrc)
  | tower (gd : Guard) (a : FeSrc) (uq : Fin 4)
  | trig (gd : Guard) (tvalid : Bool) (tslot : Fin 8)
  | skipz (gd : Guard) (pc : Fin 8) (n : BitVec 8)
  | endRun (gd : Guard)
  deriving DecidableEq, Repr

/-- The commands and events that reach the hub: one constructor per row of spec/opcode_table.json, named by its mnemonic, with the rule
that the row names. A host command carries its header and payload; an event carries what the environment gives with it. -/
inductive Instr where
  /-- FRAME_TICK (R36). -/
  | frameTick (i : TickIn)
  /-- SAMPLE_CONVERSION (R70). -/
  | sampleConversion (k : Fin 4) (xs : List SampleIn)
  /-- RANGE_STEP_DOWN (R70). -/
  | rangeStepDown (ch : Fin 256)
  /-- RESET_SWITCH_OPEN (R79). -/
  | resetSwitchOpen (ch : Fin 256)
  /-- CHAN_RECOVERY_END (R83). -/
  | chanRecoveryEnd (ch : Fin 256)
  /-- TRIM_RAMP_STEP (R67). -/
  | trimRampStep (ch : Fin 256)
  /-- HANDOVER_ATTEMPT (R118). -/
  | handoverAttempt (q : Fin 4)
  /-- HANDOVER_TAKEOVER (R86). -/
  | handoverTakeover (q : Fin 4)
  /-- HANDOVER_WITHDRAW (R87). -/
  | handoverWithdraw (q : Fin 4)
  /-- ADC_CAL_COMPLETE (R116). -/
  | adcCalComplete (q : Fin 4) (r : AdcCalIn)
  /-- TNOW_UPDATE (R121). -/
  | tnowUpdate (t0 t1 t2 t3 : BitVec 16)
  /-- CAL_RUN_START (R122). -/
  | calRunStart
  /-- CAL_RUN_END (R129). -/
  | calRunEnd (q : Fin 4)
  /-- CAL_RUN_TIMEOUT (R123). -/
  | calRunTimeout (q : Fin 4)
  /-- NOP (R171). -/
  | feNop (g : Fin 8) (gd : Guard)
  /-- MOV (R171). -/
  | feMov (g : Fin 8) (gd : Guard) (d : Fin 16) (a : FeSrc)
  /-- MOVI (R171). -/
  | feMovi (g : Fin 8) (gd : Guard) (d : Fin 16) (imm : BitVec 18)
  /-- LDK (R171). -/
  | feLdk (g : Fin 8) (gd : Guard) (d : Fin 16) (k : Fin 252)
  /-- LDL (R171). -/
  | feLdl (g : Fin 8) (gd : Guard) (d : Fin 16) (j : Fin 16)
  /-- LDW (R171). -/
  | feLdw (g : Fin 8) (gd : Guard) (d : Fin 16) (a : FeSrc)
  /-- LDWI (R171). -/
  | feLdwi (g : Fin 8) (gd : Guard) (d : Fin 16) (i : Fin 32)
  /-- ADD (R168). -/
  | feAdd (g : Fin 8) (gd : Guard) (d : Fin 16) (a b : FeSrc)
  /-- SUB (R168). -/
  | feSub (g : Fin 8) (gd : Guard) (d : Fin 16) (a b : FeSrc)
  /-- ADDI (R168). -/
  | feAddi (g : Fin 8) (gd : Guard) (d : Fin 16) (a : FeSrc) (imm : BitVec 13)
  /-- MUL (R168). -/
  | feMul (g : Fin 8) (gd : Guard) (d : Fin 16) (a b : FeSrc)
  /-- MULSH (R168). -/
  | feMulsh (g : Fin 8) (gd : Guard) (d : Fin 16) (a b : FeSrc) (sh : Fin 32)
  /-- MAX (R171). -/
  | feMax (g : Fin 8) (gd : Guard) (d : Fin 16) (a b : FeSrc)
  /-- MIN (R171). -/
  | feMin (g : Fin 8) (gd : Guard) (d : Fin 16) (a b : FeSrc)
  /-- ABS (R171). -/
  | feAbs (g : Fin 8) (gd : Guard) (d : Fin 16) (a : FeSrc)
  /-- SHL (R171). -/
  | feShl (g : Fin 8) (gd : Guard) (d : Fin 16) (a : FeSrc) (sh : Fin 32)
  /-- SHR (R168). -/
  | feShr (g : Fin 8) (gd : Guard) (d : Fin 16) (a : FeSrc) (sh : Fin 32)
  /-- AND (R171). -/
  | feAnd (g : Fin 8) (gd : Guard) (d : Fin 16) (a b : FeSrc)
  /-- OR (R171). -/
  | feOr (g : Fin 8) (gd : Guard) (d : Fin 16) (a b : FeSrc)
  /-- XOR (R171). -/
  | feXor (g : Fin 8) (gd : Guard) (d : Fin 16) (a b : FeSrc)
  /-- WSUM (R172). -/
  | feWsum (g : Fin 8) (gd : Guard) (d : Fin 16) (first cnt : Fin 32)
  /-- WPEAK (R172). -/
  | feWpeak (g : Fin 8) (gd : Guard) (d : Fin 16) (first cnt : Fin 32)
  /-- WMIN (R172). -/
  | feWmin (g : Fin 8) (gd : Guard) (d : Fin 16) (first cnt : Fin 32)
  /-- INTERP (R173). -/
  | feInterp (g : Fin 8) (gd : Guard) (d : Fin 16) (a : FeSrc) (first : Fin 32) (edge : Bool) (cnt : Fin 32)
  /-- CMPGT (R171). -/
  | feCmpgt (g : Fin 8) (gd : Guard) (pd : Fin 8) (a b : FeSrc)
  /-- CMPGE (R171). -/
  | feCmpge (g : Fin 8) (gd : Guard) (pd : Fin 8) (a b : FeSrc)
  /-- CMPEQ (R171). -/
  | feCmpeq (g : Fin 8) (gd : Guard) (pd : Fin 8) (a b : FeSrc)
  /-- PTST (R171). -/
  | fePtst (g : Fin 8) (gd : Guard) (pd : Fin 8) (a : FeSrc) (mask : BitVec 13)
  /-- PLOG (R171). -/
  | fePlog (g : Fin 8) (gd : Guard) (pd pa pb : Fin 8) (fn : Fin 4)
  /-- FEAT (R174). -/
  | feFeat (g : Fin 8) (gd : Guard) (slot : Fin 16) (a : FeSrc)
  /-- TOWER (R175). -/
  | feTower (g : Fin 8) (gd : Guard) (a : FeSrc) (uq : Fin 4)
  /-- TRIG (R176). -/
  | feTrig (g : Fin 8) (gd : Guard) (tvalid : Bool) (tslot : Fin 8)
  /-- SKIPZ (R177). -/
  | feSkipz (g : Fin 8) (gd : Guard) (pc : Fin 8) (n : BitVec 8)
  /-- END (R162). -/
  | feEnd (g : Fin 8) (gd : Guard)
  /-- FE_OVERRUN (R59). -/
  | feOverrun (g : Fin 8)
  /-- JUNCTION_IMAGE_APPLY (R199). -/
  | junctionImageApply
  /-- BOUNDARY_BLOCK_MISSING (R205). -/
  | boundaryBlockMissing
  /-- REC_TRIGGER_EVALUATE (R215). -/
  | recTriggerEvaluate (g : Fin 8)
  /-- REC_CAPTURE_CLOSE (R217). -/
  | recCaptureClose (g : Fin 8)
  /-- REC_REARM (R217). -/
  | recRearm (g : Fin 8)
  /-- REC_HOLDOFF_END (R217). -/
  | recHoldoffEnd (g : Fin 8)
  /-- REC_HELD_MARKER_WRITE (R225). -/
  | recHeldMarkerWrite (g : Fin 8)
  /-- DISPATCHER_SEND_ITEM (R228). -/
  | dispatcherSendItem (lane : Fin 6)
  /-- INGOT_CLOSE (R236). -/
  | ingotClose (g : Fin 8)
  /-- INGOT_COMMIT (R252). -/
  | ingotCommit (g : Fin 8)
  /-- INGOT_SELFCHECK (R256). -/
  | ingotSelfcheck (g : Fin 8) (damage : List Nat)
  /-- SELFCHECK_ABANDON (R256). -/
  | selfcheckAbandon (g : Fin 8)
  /-- INGOT_RETENTION_EXPIRE (R289). -/
  | ingotRetentionExpire
  /-- CARRIAGE_RECEIVE (R269). -/
  | carriageReceive (lane : Fin 11) (levels : BitVec 1600) (after margin : Int)
  /-- TURN_MARKER_RECEIVE (R37). -/
  | turnMarkerReceive (lane : Fin 11) (turn : BitVec 32)
  /-- COMMAND_RECEIVE (R416). -/
  | commandReceive (port : Fin 4) (m : List Byte)
  /-- HELD_COMMAND_TIMEOUT (R417). -/
  | heldCommandTimeout (src : Fin 3) (seq : BitVec 16)
  /-- DEFERRED_COMMAND_TIMEOUT (R422). -/
  | deferredCommandTimeout (src : Fin 3) (seq : BitVec 16)
  /-- LANE_STATE_RECEIVE (R273). -/
  | laneStateReceive (rx lane : Fin 11) (state flags : BitVec 8) (control status : BitVec 32)
  /-- TRAINING_FRAME_RECEIVE (R275). -/
  | trainingFrameReceive (lane : Fin 11) (control status : BitVec 32)
  /-- TXEQ_STEP (R275). -/
  | txeqStep (lane : Fin 8)
  /-- CAPS_RECEIVE (R277). -/
  | capsReceive (lane : Fin 11) (role laneNo hubId flags : BitVec 8) (deviceId : BitVec 64)
  /-- LANE_DETECT_PASS (R276). -/
  | laneDetectPass (lane : Fin 11)
  /-- RX_ADAPT_DONE (R276). -/
  | rxAdaptDone (lane : Fin 11) (ctle : BitVec 4) (dfe eye : BitVec 8)
  /-- CDR_LOCK (R276). -/
  | cdrLock (i : CdrIn)
  /-- LANE_STATE_TIMEOUT (R276). -/
  | laneStateTimeout (lane : Fin 11)
  /-- LANE_SIGNAL_LOSS (R276). -/
  | laneSignalLoss (lane : Fin 11)
  /-- LANE_BACKOFF_END (R278). -/
  | laneBackoffEnd (lane : Fin 11)
  /-- LANE_BLIND_LIMIT (R279). -/
  | laneBlindLimit (lane : Fin 11)
  /-- CLOCK_SOURCE_SWITCH (R33). -/
  | clockSourceSwitch
  /-- CLOCK_FAILURE_RESET (R34). -/
  | clockFailureReset (pllLost : Bool)
  /-- SYNC_RECEIVE (R302). -/
  | syncReceive (lane : Fin 11) (domain version : BitVec 8) (seq : BitVec 16) (after : Int)
  /-- FOLLOW_UP_RECEIVE (R304). -/
  | followUpReceive (lane : Fin 11) (domain version : BitVec 8) (seq : BitVec 16) (lo hi : BitVec 32) (frac : BitVec 8) (correction : BitVec 32)
  /-- DELAY_RESP_RECEIVE (R304). -/
  | delayRespReceive (lane : Fin 11) (domain version : BitVec 8) (seq : BitVec 16) (lo hi : BitVec 32) (frac : BitVec 8) (correction : BitVec 32)
  /-- DELAY_REQ_SEND (R303). -/
  | delayReqSend
  /-- DELAY_STALE (R303). -/
  | delayStale
  /-- TIME_STEP_APPLY (R307). -/
  | timeStepApply
  /-- SYNC_TIMEOUT (R308). -/
  | syncTimeout
  /-- TIME_NS_WRAP (R294). -/
  | timeNsWrap
  /-- EV_TIME_EPOCH (R298). -/
  | evTimeEpoch
  /-- PHASE_TARGET_UPDATE (R310). -/
  | phaseTargetUpdate
  /-- PHASE_SLEW_STEP (R311). -/
  | phaseSlewStep
  /-- PAIR_CARRIAGE_RECEIVE (R333). -/
  | pairCarriageReceive (payload : BitVec 1472) (after margin : Int)
  /-- SHADOW_HASH_TIMEOUT (R336). -/
  | shadowHashTimeout
  /-- SWITCHOVER_GAP_END (R328). -/
  | switchoverGapEnd
  /-- PAIR_HEARTBEAT (R327). -/
  | pairHeartbeat
  /-- REVERT_HOLDOFF_EXPIRE (R332). -/
  | revertHoldoffExpire
  /-- ROLE_REVERT (R332). -/
  | roleRevert
  /-- PAIR_MODE_MISMATCH (R319). -/
  | pairModeMismatch (partner : Fin 8)
  /-- SEAL_EN_FALL (R109). -/
  | sealEnFall
  /-- NONCE_EXPIRE (R112). -/
  | nonceExpire
  /-- ASSAY_REQUEST_TIMEOUT (R94). -/
  | assayRequestTimeout
  /-- STORE_PENDING_START (R101). -/
  | storePendingStart
  /-- ASSAY_STORE_COMPLETE (R99). -/
  | assayStoreComplete (good : Bool)
  /-- HK_SEQ_PASS_START (R349). -/
  | hkSeqPassStart (q : Fin 4)
  /-- HK_ENTRY_START (R352). -/
  | hkEntryStart
  /-- HK_CONVERSION (R347). -/
  | hkConversion (value : Int) (clip : Bool)
  /-- HK_ENTRY_END (R351). -/
  | hkEntryEnd
  /-- CROSSPOINT_SETTLE_END (R342). -/
  | crosspointSettleEnd
  /-- EXC_SETTLE_END (R345). -/
  | excSettleEnd (x : Fin 2)
  /-- EXC_FAULT_ONSET (R344). -/
  | excFaultOnset (x : Fin 2) (sense : Bool)
  /-- MON_PIN_LIMIT (R342). -/
  | monPinLimit (n : Fin 32)
  /-- AONC_TRIP (R358). -/
  | aoncTrip (k : Fin 4)
  /-- AONC_RELEASE (R357). -/
  | aoncRelease (k : Fin 4)
  /-- LOOP_UPDATE (R361). -/
  | loopUpdate (n : Fin 4)
  /-- LOOP_READBACK (R363). -/
  | loopReadback (n : Fin 4) (current : BitVec 16)
  /-- LOOP_FW_WRITE (R361). -/
  | loopFwWrite (n : Fin 4)
  /-- LED_BURST_END (R375). -/
  | ledBurstEnd (q : Nat) (xs : List LedMeas)
  /-- VLED_READY_SET (R377). -/
  | vledReadySet
  /-- VLED_OUT_OF_RANGE (R377). -/
  | vledOutOfRange
  /-- MEMORY_READ (R390). -/
  | memoryRead (memory : Fin 15) (addr : BitVec 32) (requester : Fin 17) (fetch : Bool) (errors : Fin 3)
  /-- ECC_BUCKET_LEAK (R392). -/
  | eccBucketLeak
  /-- TMR_REPAIR (R399). -/
  | tmrRepair (i : Upset)
  /-- INTERCONNECT_ACCESS (R400). -/
  | interconnectAccess (master : Fin 6) (acc : Fin 4) (addr : BitVec 32) (bytes : List Byte)
  /-- ASSAY_WINDOW_WRITE (R402). -/
  | assayWindowWrite (master : Fin 6) (addr : BitVec 32)
  /-- EV_LOG_LOST (R388). -/
  | evLogLost (s41 : Bool)
  /-- MEM_SCRUB_COMPLETE (R397). -/
  | memScrubComplete
  /-- SUPPLY_WARN_LATCH (R459). -/
  | supplyWarnLatch (i : RailLevels)
  /-- SUPPLY_WARN_CLEAR (R459). -/
  | supplyWarnClear
  /-- POWER_ON_RESET (R447). -/
  | powerOnReset
  /-- BROWN_OUT_RESET (R447). -/
  | brownOutReset
  /-- RESET_N_ASSERT (R447). -/
  | resetNAssert
  /-- WATCHDOG_TIMEOUT (R449). -/
  | watchdogTimeout
  /-- DEBUG_RESET_REQUEST (R447). -/
  | debugResetRequest
  /-- LOCKUP_RESET (R450). -/
  | lockupReset
  /-- DOMAIN_RESET_RELEASE (R452). -/
  | domainResetRelease (d : Fin 10) (straps : BitVec 3)
  /-- OPTION_LOAD_COMPLETE (R453). -/
  | optionLoadComplete
  /-- QUADRANT_POWER_ON (R445). -/
  | quadrantPowerOn (q : Fin 4)
  /-- MODE_CHANGE_APPLY (R432). -/
  | modeChangeApply
  /-- PREPARE_TARGET_ENTRY (R433). -/
  | prepareTargetEntry
  /-- PREP_LIMIT_TIMEOUT (R433). -/
  | prepLimitTimeout
  /-- DORMANT_WAKE (R435). -/
  | dormantWake (cause : Fin 3) (elapsed : Nat)
  /-- TT_BANK_SWAP_APPLY (R46). -/
  | ttBankSwapApply
  /-- FILTER_SWAP_APPLY (R154). -/
  | filterSwapApply
  /-- FILTER_CONFIG_APPLY (R156). -/
  | filterConfigApply
  /-- TT_WRITE (R61). -/
  | ttWrite (h : Hdr) (p : List Byte)
  /-- TT_WIN_WRITE (R61). -/
  | ttWinWrite (h : Hdr) (p : List Byte)
  /-- TT_SWAP (R46). -/
  | ttSwap (h : Hdr) (p : List Byte)
  /-- TT_READ (R61). -/
  | ttRead (h : Hdr) (p : List Byte)
  /-- TT_SET_TURN (R39). -/
  | ttSetTurn (h : Hdr) (p : List Byte)
  /-- TT_SET_LATENCY (R56). -/
  | ttSetLatency (h : Hdr) (p : List Byte)
  /-- TT_SET_CLOCK (R31). -/
  | ttSetClock (h : Hdr) (p : List Byte)
  /-- TT_GET_TIMEBASE (R61). -/
  | ttGetTimebase (h : Hdr) (p : List Byte)
  /-- TT_CTRL_SWAP_REQ (R46). -/
  | ttCtrlSwapReq
  /-- TT_CROSSING_READ (R38). -/
  | ttCrossingRead
  /-- CHAN_ENABLE (R83). -/
  | chanEnable (h : Hdr) (p : List Byte)
  /-- CHAN_SET_TRIM (R67). -/
  | chanSetTrim (h : Hdr) (p : List Byte)
  /-- CHAN_SET_SKEW (R85). -/
  | chanSetSkew (h : Hdr) (p : List Byte)
  /-- CHAN_SET_RANGE (R73). -/
  | chanSetRange (h : Hdr) (p : List Byte)
  /-- CHAN_RESET (R80). -/
  | chanReset (h : Hdr) (p : List Byte)
  /-- CHAN_SET_AFE (R90). -/
  | chanSetAfe (h : Hdr) (p : List Byte)
  /-- CHAN_GET_STATUS (R90). -/
  | chanGetStatus (h : Hdr) (p : List Byte)
  /-- CHAN_GET_ADC_MAP (R90). -/
  | chanGetAdcMap (h : Hdr) (p : List Byte)
  /-- ASSAY_STATUS (R111). -/
  | assayStatus (h : Hdr) (p : List Byte)
  /-- ASSAY_CHALLENGE (R112). -/
  | assayChallenge (h : Hdr) (p : List Byte)
  /-- ASSAY_OPEN (R107). -/
  | assayOpen (h : Hdr) (p : List Byte)
  /-- ASSAY_SEAL (R108). -/
  | assaySeal (h : Hdr) (p : List Byte)
  /-- ASSAY_WRITE_REF (R113). -/
  | assayWriteRef (h : Hdr) (p : List Byte)
  /-- ASSAY_STORE (R99). -/
  | assayStore (h : Hdr) (p : List Byte)
  /-- ASSAY_READ_BANK (R111). -/
  | assayReadBank (h : Hdr) (p : List Byte)
  /-- ASSAY_GET_HALLMARK (R111). -/
  | assayGetHallmark (h : Hdr) (p : List Byte)
  /-- CAL_REF_WRITE (R134). -/
  | calRefWrite (i : Fin 256) (w : Word)
  /-- CAL_RUN (R122). -/
  | calRun (h : Hdr) (p : List Byte)
  /-- CAL_ABORT (R129). -/
  | calAbort (h : Hdr) (p : List Byte)
  /-- CAL_CONFIG (R135). -/
  | calConfig (h : Hdr) (p : List Byte)
  /-- CAL_GET_STATUS (R135). -/
  | calGetStatus (h : Hdr) (p : List Byte)
  /-- FILT_SET_CONFIG (R156). -/
  | filtSetConfig (h : Hdr) (p : List Byte)
  /-- FILT_WRITE_HB (R153). -/
  | filtWriteHb (h : Hdr) (p : List Byte)
  /-- FILT_WRITE_FIR (R153). -/
  | filtWriteFir (h : Hdr) (p : List Byte)
  /-- FILT_SWAP (R154). -/
  | filtSwap (h : Hdr) (p : List Byte)
  /-- FILT_READ (R159). -/
  | filtRead (h : Hdr) (p : List Byte)
  /-- FILT_GET_STATUS (R159). -/
  | filtGetStatus (h : Hdr) (p : List Byte)
  /-- FLT_CTRL_SWAP_GROUPS (R154). -/
  | fltCtrlSwapGroups (mask : BitVec 8)
  /-- FLT_SWAP_CROSSING_READ (R158). -/
  | fltSwapCrossingRead
  /-- ENGINE_LOAD (R503). -/
  | engineLoad (h : Hdr) (p : List Byte)
  /-- ENGINE_START (R182). -/
  | engineStart (h : Hdr) (p : List Byte)
  /-- ENGINE_STOP (R182). -/
  | engineStop (h : Hdr) (p : List Byte)
  /-- ENGINE_SELECT (R178). -/
  | engineSelect (h : Hdr) (p : List Byte)
  /-- ENGINE_STATUS (R187). -/
  | engineStatus (h : Hdr) (p : List Byte)
  /-- ENGINE_READ_LANES (R187). -/
  | engineReadLanes (h : Hdr) (p : List Byte)
  /-- FE_CTRL_START (R182). -/
  | feCtrlStart (mask : BitVec 8)
  /-- FE_CTRL_STOP (R182). -/
  | feCtrlStop (mask : BitVec 8)
  /-- FE_FAULT_CROSSING_READ (R186). -/
  | feFaultCrossingRead (g : Fin 8)
  /-- TRIG_SET_MAP (R191). -/
  | trigSetMap (h : Hdr) (p : List Byte)
  /-- TRIG_SET_SCALE (R191). -/
  | trigSetScale (h : Hdr) (p : List Byte)
  /-- TRIG_GET_STATUS (R210). -/
  | trigGetStatus (h : Hdr) (p : List Byte)
  /-- TRIG_CAPTURE (R210). -/
  | trigCapture (h : Hdr) (p : List Byte)
  /-- JCT_FAULT_CROSSING_READ (R209). -/
  | jctFaultCrossingRead
  /-- REC_SET_POOL (R220). -/
  | recSetPool (h : Hdr) (p : List Byte)
  /-- REC_CONFIG (R221). -/
  | recConfig (h : Hdr) (p : List Byte)
  /-- REC_ARM (R215). -/
  | recArm (h : Hdr) (p : List Byte)
  /-- REC_TRIGGER (R212). -/
  | recTrigger (h : Hdr) (p : List Byte)
  /-- REC_GET_STATUS (R233). -/
  | recGetStatus (h : Hdr) (p : List Byte)
  /-- REC_LAST_CROSSING_READ (R232). -/
  | recLastCrossingRead (g : Fin 8)
  /-- STREAM_CONFIG (R259). -/
  | streamConfig (h : Hdr) (p : List Byte)
  /-- STREAM_SET_NBR (R245). -/
  | streamSetNbr (h : Hdr) (p : List Byte)
  /-- STREAM_FLUSH (R236). -/
  | streamFlush (h : Hdr) (p : List Byte)
  /-- STREAM_SELFCHECK (R256). -/
  | streamSelfcheck (h : Hdr) (p : List Byte)
  /-- STREAM_GET_STATUS (R259). -/
  | streamGetStatus (h : Hdr) (p : List Byte)
  /-- STR_FLUSH_FLUSH (R236). -/
  | strFlushFlush (mask : BitVec 8)
  /-- STR_FLUSH_COLD_REQ (R239). -/
  | strFlushColdReq (mask : BitVec 8)
  /-- LINK_STATUS (R292). -/
  | linkStatus (h : Hdr) (p : List Byte)
  /-- LINK_ENABLE (R292). -/
  | linkEnable (h : Hdr) (p : List Byte)
  /-- LINK_RETRAIN (R274). -/
  | linkRetrain (h : Hdr) (p : List Byte)
  /-- LINK_CONFIG (R292). -/
  | linkConfig (h : Hdr) (p : List Byte)
  /-- LINK_SET_TXEQ (R292). -/
  | linkSetTxeq (h : Hdr) (p : List Byte)
  /-- LINK_SET_STREAM (R286). -/
  | linkSetStream (h : Hdr) (p : List Byte)
  /-- LINK_TEST (R292). -/
  | linkTest (h : Hdr) (p : List Byte)
  /-- LINK_GET_COUNTERS (R292). -/
  | linkGetCounters (h : Hdr) (p : List Byte)
  /-- LN_CTRL_RETRAIN (R274). -/
  | lnCtrlRetrain (lane : Fin 11)
  /-- TIME_STATUS (R315). -/
  | timeStatus (h : Hdr) (p : List Byte)
  /-- TIME_CONFIG (R315). -/
  | timeConfig (h : Hdr) (p : List Byte)
  /-- TIME_SET_DELAY (R296). -/
  | timeSetDelay (h : Hdr) (p : List Byte)
  /-- TIME_SET (R315). -/
  | timeSet (h : Hdr) (p : List Byte)
  /-- TIME_PHASE (R311). -/
  | timePhase (h : Hdr) (p : List Byte)
  /-- TIME_GET (R315). -/
  | timeGet (h : Hdr) (p : List Byte)
  /-- TM_NOW_LO_READ (R297). -/
  | tmNowLoRead (master : Fin 6)
  /-- PAIR_JOIN (R317). -/
  | pairJoin (h : Hdr) (p : List Byte)
  /-- PAIR_LEAVE (R321). -/
  | pairLeave (h : Hdr) (p : List Byte)
  /-- ROLE_ASSIGN (R326). -/
  | roleAssign (h : Hdr) (p : List Byte)
  /-- PAIR_CONFIG (R338). -/
  | pairConfig (h : Hdr) (p : List Byte)
  /-- PAIR_STATUS (R338). -/
  | pairStatus (h : Hdr) (p : List Byte)
  /-- PAIR_FIRST_MISMATCH_READ (R337). -/
  | pairFirstMismatchRead
  /-- MON_PIN_SET (R340). -/
  | monPinSet (h : Hdr) (p : List Byte)
  /-- MON_EXC_SET (R346). -/
  | monExcSet (h : Hdr) (p : List Byte)
  /-- MON_SEQ_WRITE (R353). -/
  | monSeqWrite (h : Hdr) (p : List Byte)
  /-- MON_SEQ_CTRL (R349). -/
  | monSeqCtrl (h : Hdr) (p : List Byte)
  /-- MON_SEQ_RUN (R349). -/
  | monSeqRun (h : Hdr) (p : List Byte)
  /-- MON_READ (R367). -/
  | monRead (h : Hdr) (p : List Byte)
  /-- MON_AONC_SET (R357). -/
  | monAoncSet (h : Hdr) (p : List Byte)
  /-- MON_STATUS (R367). -/
  | monStatus (h : Hdr) (p : List Byte)
  /-- LOOP_CONFIG (R361). -/
  | loopConfig (h : Hdr) (p : List Byte)
  /-- LOOP_SET (R361). -/
  | loopSet (h : Hdr) (p : List Byte)
  /-- LOOP_STATUS (R369). -/
  | loopStatus (h : Hdr) (p : List Byte)
  /-- LED_CONFIG (R381). -/
  | ledConfig (h : Hdr) (p : List Byte)
  /-- LED_SET_PATTERN (R376). -/
  | ledSetPattern (h : Hdr) (p : List Byte)
  /-- LED_SET_BIN (R373). -/
  | ledSetBin (h : Hdr) (p : List Byte)
  /-- LED_STATUS (R383). -/
  | ledStatus (h : Hdr) (p : List Byte)
  /-- LED_CLEAR_FAULT (R383). -/
  | ledClearFault (h : Hdr) (p : List Byte)
  /-- MEM_STATUS (R409). -/
  | memStatus (h : Hdr) (p : List Byte)
  /-- MEM_SCRUB (R396). -/
  | memScrub (h : Hdr) (p : List Byte)
  /-- MEM_ECC_FLIP (R395). -/
  | memEccFlip (h : Hdr) (p : List Byte)
  /-- MEM_FREEZE_RELEASE (R403). -/
  | memFreezeRelease (h : Hdr) (p : List Byte)
  /-- MEM_SET_WINDOW (R406). -/
  | memSetWindow (h : Hdr) (p : List Byte)
  /-- MEM_READ_SIDING (R409). -/
  | memReadSiding (h : Hdr) (p : List Byte)
  /-- FW_RELEASE_WRITE (R403). -/
  | fwReleaseWrite (w : BitVec 32)
  /-- ECC_FLIP_WRITE (R395). -/
  | eccFlipWrite (w : BitVec 32)
  /-- SIDING_COUNTER_WRITE (R387). -/
  | sidingCounterWrite (master : Fin 6) (siding : Fin 64) (tail : Bool) (v : BitVec 32)
  /-- RP_WDOG_KICK_WRITE (R449). -/
  | rpWdogKickWrite (master : Fin 6) (v : BitVec 32)
  /-- REGISTER_WRITE (R6). -/
  | registerWrite (master : Fin 6) (addr w : BitVec 32)
  /-- CSPI_WRITE_MSG (R429). -/
  | cspiWriteMsg (m : List Byte)
  /-- CSPI_READ_MSG (R429). -/
  | cspiReadMsg (n : Nat)
  /-- CSPI_READ_STATUS (R429). -/
  | cspiReadStatus
  /-- SYS_INFO (R440). -/
  | sysInfo (h : Hdr) (p : List Byte)
  /-- SYS_RESET (R440). -/
  | sysReset (h : Hdr) (p : List Byte)
  /-- SYS_ECHO (R440). -/
  | sysEcho (h : Hdr) (p : List Byte)
  /-- SYS_EVENTS (R426). -/
  | sysEvents (h : Hdr) (p : List Byte)
  /-- SYS_COUNTERS (R440). -/
  | sysCounters (h : Hdr) (p : List Byte)
  /-- REG_READ (R441). -/
  | regRead (h : Hdr) (p : List Byte)
  /-- REG_WRITE (R441). -/
  | regWrite (h : Hdr) (p : List Byte)
  /-- MODE_SET (R432). -/
  | modeSet (h : Hdr) (p : List Byte)
  /-- MODE_GET (R440). -/
  | modeGet (h : Hdr) (p : List Byte)
  /-- SYS_MODE_CROSSING_READ (R438). -/
  | sysModeCrossingRead
  /-- IMAGE_BEGIN (R466). -/
  | imageBegin (h : Hdr) (p : List Byte)
  /-- IMAGE_DATA (R466). -/
  | imageData (h : Hdr) (p : List Byte)
  /-- IMAGE_END (R464). -/
  | imageEnd (h : Hdr) (p : List Byte)
  /-- IMAGE_STATUS (R466). -/
  | imageStatus (h : Hdr) (p : List Byte)
  /-- IMAGE_ABORT (R466). -/
  | imageAbort (h : Hdr) (p : List Byte)
  /-- SOFTWARE_RESET_REQUEST (R447). -/
  | softwareResetRequest
  /-- POWER_ON_RESET_RELEASE (R444). -/
  | powerOnResetRelease
  /-- BROWN_OUT_RESET_RELEASE (R460). -/
  | brownOutResetRelease
  /-- RESET_N_RELEASE (R451). -/
  | resetNRelease
  /-- CLK_QUAL_LOSS (R452). -/
  | clkQualLoss (d : Fin 10)
  /-- EXC_FAULT_CLEAR (R344). -/
  | excFaultClear (x : Fin 2) (sense : Bool)
  /-- HOLDOFF_EXP_CLEAR (R332). -/
  | holdoffExpClear
  deriving DecidableEq, Repr

end Sys2Proof
end

