-- ==== Sys2Proof/Decode.lean ====
section
/-! DEFINITION. The commands that words spell. No row of spec/opcode_table.json gives bits, so no word spells a command. -/

namespace Sys2Proof

/-- The command that the table's bits spell: none, since every row's list of fields is empty. (Log entry 1: DESIGN CHOICE, safe) -/
def decodeTableWord (_nbits _w : Nat) : Option Instr := none

end Sys2Proof
end

