-- ==== Sys2Proof/Config.lean ====
section
/-! DEFINITION. What one hub has fixed at manufacture, and the free values: constants with no body, of which no proof
can see a value. Each is named in a row of notes/assumptions. -/

namespace Sys2Proof.Config

/-- DEVICE_ID, the 8 bytes ASSAY_CHALLENGE and SYS_INFO carry (R111, R440), as a number in R5 order. (Log entry 34: DESIGN CHOICE, safe) -/
opaque deviceId : BitVec 64

/-- The 256-bit device key of the security fuses, byte i at bits [8i+7:8i] (04_assay_partition.md). (Log entry 34: DESIGN CHOICE, safe) -/
opaque deviceKey : BitVec 256

/-- The owner-key hash of the security fuses; none when those fuses are blank (R112). (Log entry 34: DESIGN CHOICE, safe) -/
opaque ownerKeyHash : Option (BitVec 256)

/-- The image-key hash of the security fuses; none when those fuses are blank (R463). (Log entry 34: DESIGN CHOICE, safe) -/
opaque imageKeyHash : Option (BitVec 256)

/-- The 256-bit fuse map as eight words; all zero on an unprogrammed hub (R454). (Log entry 34: DESIGN CHOICE, safe) -/
opaque fuseMap : Fin 8 → BitVec 32

/-- Content of the boot ROM at byte offset n (R24; the spec gives no content). (Log entry 34: DESIGN CHOICE, safe) -/
opaque bootRom : Nat → BitVec 8

/-- A random 16-byte nonce for the n-th draw (R112). (Log entry 36: DESIGN CHOICE, safe) -/
opaque nonce : Nat → BitVec 128

/-- The n-th free value of a word the spec leaves open. (Log entry 36: DESIGN CHOICE, safe) -/
opaque freeWord : Nat → BitVec 32

/-- ADDR of the entry at ring index t of siding n: the spec does not say where an item's bytes lie (R386). (Log entry 18: DESIGN CHOICE, safe) -/
opaque sidingAddr : Nat → Nat → BitVec 32

/-- The producer-defined kind in INFO of an entry of siding n whose item is of the model's kind k (R386). (Log entry 18: DESIGN CHOICE, safe) -/
opaque sidingKind : Nat → Nat → BitVec 8

/-- MASTER of an S41 entry for a requester that is neither a master of R15 nor an engine (R407). (Log entry 180: DESIGN CHOICE, safe) -/
opaque logMaster : Nat → BitVec 4

/-- How EV_ECC_UNCORR names the store that holds word a of memory 13 (R393). (Log entry 210: DESIGN CHOICE, safe) -/
opaque localStore : Nat → BitVec 32

/-- Whether the Signal Box locked up, 1024 core cycles before frame n, by an exception that it took while it was still saving state for an earlier
one: its instructions are not in the spec (R450). (Log entry 219: DESIGN CHOICE, safe) -/
opaque nestedException : Nat → Bool

/-- PRECODE_EN of the receiver at the far end of TX lane n in the training whose BITLOCK began in frame f (R268). (Log entry 201: DEDUCED, safe) -/
opaque farPrecode : Nat → Nat → Bool

/-- Whether the debug port drives DBG_TDO at XO time t: the port is IEEE 1149.1's, of which the spec says no more (R496).
(Log entry 220: DESIGN CHOICE, safe) -/
opaque debugDrives : Nat → Bool

/-- The codec's choice of tokens for the n-th ingot, channel and token (R250: the choice of tokens is the hub's).
(Log entry 65: DESIGN CHOICE, safe) -/
opaque tokenPick : Nat → Nat → Nat → Nat

end Sys2Proof.Config
end

