-- ==== Sys2Proof/Machine/Bits.lean ====
section
/-! DEFINITION. Bit fields, rounding, saturation and the sparse tables that the whole model uses. Fields are numbered as R4 numbers them. -/

namespace Sys2Proof.Machine

/-- Bits [hi:lo] of a number, both end bits included (R4). -/
def bits (x hi lo : Nat) : Nat := (x / 2 ^ lo) % 2 ^ (hi + 1 - lo)

/-- `x` with bits [hi:lo] replaced by the low bits of `v`. -/
def putBits (x hi lo v : Nat) : Nat :=
  x - bits x hi lo * 2 ^ lo + (v % 2 ^ (hi + 1 - lo)) * 2 ^ lo

/-- Bit `i` of a number. -/
def bitAt (x i : Nat) : Bool := (x / 2 ^ i) % 2 == 1

/-- A Boolean as the bit it is stored as. -/
def b2n (b : Bool) : Nat := if b then 1 else 0

/-- The two's-complement value of the low `w` bits of `x`. -/
def toS (w x : Nat) : Int :=
  if x % 2 ^ w < 2 ^ (w - 1) then (x % 2 ^ w : Nat) else ((x % 2 ^ w : Nat) : Int) - (2 ^ w : Nat)

/-- The low `w` bits of an integer in two's complement. -/
def ofS (w : Nat) (v : Int) : Nat := (v % ((2 ^ w : Nat) : Int)).toNat

/-- `v` limited to the signed range of `w` bits. -/
def satS (w : Nat) (v : Int) : Int :=
  max (-((2 ^ (w - 1) : Nat) : Int)) (min v (((2 ^ (w - 1) : Nat) : Int) - 1))

/-- `v` limited to the unsigned range of `w` bits. -/
def satU (w : Nat) (v : Nat) : Nat := min v (2 ^ w - 1)

/-- Division rounding toward minus infinity. -/
def fdiv (a b : Int) : Int := Int.fdiv a b

/-- `a / b` rounded to the nearest integer, halves away from zero (`b` positive). -/
def rdiv (a b : Int) : Int :=
  if a ≥ 0 then (2 * a + b) / (2 * b) else -((2 * (-a) + b) / (2 * b))

/-- `a / b` rounded half up, that is, toward plus infinity (`b` positive). -/
def rdivUp (a b : Int) : Int := Int.fdiv (2 * a + b) (2 * b)

/-- Group a list into blocks of `n`, the last one short. `fuel` bounds the number of blocks. -/
def chunks {α : Type} (n : Nat) : Nat → List α → List (List α)
  | 0, _ => []
  | _, [] => []
  | f + 1, xs => xs.take n :: chunks n f (xs.drop n)

/-- The bits of a number, least significant first. -/
def bitsLsb : Nat → Nat → List Bool
  | 0, _ => []
  | n + 1, x => (x % 2 == 1) :: bitsLsb n (x / 2)

/-- The bits of a number, most significant first. -/
def bitsMsb (n x : Nat) : List Bool := (bitsLsb n x).reverse

/-- The number that bits spell, least significant first. -/
def natLsb : List Bool → Nat
  | [] => 0
  | b :: bs => b2n b + 2 * natLsb bs

/-- The number that bits spell, most significant first. -/
def natMsb (bs : List Bool) : Nat := natLsb bs.reverse

/-- Bits as bytes, the first bit the most significant of its byte; the last byte padded with 0. -/
def bitsToBytesMsb (bs : List Bool) : List Byte :=
  (chunks 8 (bs.length + 1) bs).map fun c =>
    BitVec.ofNat 8 (natMsb (c ++ List.replicate (8 - c.length) false))

/-- Bytes as bits, the most significant bit of each byte first. -/
def bytesToBitsMsb (bs : List Byte) : List Bool := bs.flatMap fun b => bitsMsb 8 b.toNat

/-- Element `i` of a list, or `d`. -/
def nth {α : Type} (xs : List α) (i : Nat) (d : α) : α := xs.getD i d

/-- `xs` with element `i` replaced by `v` (unchanged where there is none). -/
def setNth {α : Type} (xs : List α) (i : Nat) (v : α) : List α := xs.set i v

/-- Insert `x` before the first element whose key is not smaller. -/
def insertFirst {α : Type} (key : α → Nat) (x : α) : List α → List α
  | [] => [x]
  | y :: ys => if key x ≤ key y then x :: y :: ys else y :: insertFirst key x ys

/-- Stable insertion sort by a key, smallest first. -/
def sortBy {α : Type} (key : α → Nat) : List α → List α
  | [] => []
  | x :: xs => insertFirst key x (sortBy key xs)

/-! ### Sparse tables: strictly rising keys, no entry equal to its default -/

/-- The value a table holds at a key; an unlisted key reads as its default. -/
def tget {α : Type} (d : Nat → α) : List (Nat × α) → Nat → α
  | [], k => d k
  | (j, v) :: t, k => if j = k then v else tget d t k

/-- A table without a key. -/
def tdel {α : Type} : List (Nat × α) → Nat → List (Nat × α)
  | [], _ => []
  | (j, v) :: t, k => if j = k then tdel t k else (j, v) :: tdel t k

/-- Put an entry before the first larger key. -/
def tput {α : Type} : List (Nat × α) → Nat → α → List (Nat × α)
  | [], k, v => [(k, v)]
  | (j, w) :: t, k, v => if k < j then (k, v) :: (j, w) :: t else (j, w) :: tput t k v

/-- Write a key, keeping the canonical form: writing the default removes the entry. -/
def tset {α : Type} [DecidableEq α] (d : Nat → α) (t : List (Nat × α)) (k : Nat) (v : α) : List (Nat × α) :=
  if v = d k then tdel t k else tput (tdel t k) k v

/-- Every key of a table is above `lo`, keys rise strictly, and no entry is its default. -/
def twfFrom {α : Type} [DecidableEq α] (d : Nat → α) : Option Nat → List (Nat × α) → Bool
  | _, [] => true
  | lo, (j, v) :: t => (lo.all (· < j)) && (v ≠ d j) && twfFrom d (some j) t

/-- The canonical form of a sparse table. -/
def twf {α : Type} [DecidableEq α] (d : Nat → α) (t : List (Nat × α)) : Bool := twfFrom d none t

end Sys2Proof.Machine
end

