-- ==== Sys2Proof/Machine/Flags.lean ====
section
/-! DEFINITION. Counters and flags of the registers: how a counter advances, and what a write leaves of a word (R6, R8). -/

namespace Sys2Proof.Machine

/-- A saturating counter of `w` bits, one up. -/
def satInc (w x : Nat) : Nat := satU w (x + 1)

/-- A wrapping counter of `w` bits, one up. -/
def wrapInc (w x : Nat) : Nat := (x + 1) % 2 ^ w

/-- The content that a write leaves: RW fields take the word, a 1 clears a W1C bit, every other bit keeps its value (R6, R8). -/
def written (old raw rw w1c : Nat) : Nat :=
  let v := (old &&& (0xFFFFFFFF ^^^ rw)) ||| (raw &&& rw)
  v ^^^ (v &&& raw &&& w1c)

end Sys2Proof.Machine
end

