-- ==== Sys2Proof/Machine/Operands.lean ====
section
/-! DEFINITION. Byte order and the fields of a command's payload: multi-byte values are little-endian as R5 says. -/

namespace Sys2Proof.Machine

/-- The `n` little-endian bytes of a number (R5). -/
def leBytes : Nat → Nat → List Byte
  | 0, _ => []
  | n + 1, x => BitVec.ofNat 8 x :: leBytes n (x / 256)

/-- The number that little-endian bytes spell (R5). -/
def leNat : List Byte → Nat
  | [] => 0
  | b :: bs => b.toNat + 256 * leNat bs

/-- The number that big-endian bytes spell (the P-256 fields of R5). -/
def beNat (bs : List Byte) : Nat := leNat bs.reverse

/-- The `n` big-endian bytes of a number. -/
def beBytes (n x : Nat) : List Byte := (leBytes n x).reverse

/-- Bytes as numbers. -/
def nats (bs : List Byte) : List Nat := bs.map BitVec.toNat

/-- `n` little-endian bytes of a payload from offset `o`; bytes past its end count as 0. -/
def pl (p : List Byte) (o n : Nat) : Nat := leNat ((p.drop o).take n)

/-- Every byte of a payload from offset `o`, `n` bytes, is 0. (Log entry 14: DEDUCED, unsafe) -/
def plZero (p : List Byte) (o n : Nat) : Bool := ((p.drop o).take n).all (· == 0)

/-- 32-bit little-endian words. -/
def words (ws : List Nat) : List Byte := ws.flatMap (leBytes 4)

end Sys2Proof.Machine
end

