-- ==== Sys2Proof/Machine/RegMap.lean ====
section
/-! DEFINITION. Every register of the hub at its address (R24, R26 and the register tables of the chapters), with its
access masks (R6, R8), its reset value (R10) and the power domain whose resets it takes. -/

namespace Sys2Proof.Machine

/-- One register, or an array of registers at two strides: element (i, j) lies at base + s1*i + s2*j.
`rw`, `w1c`, `wo` and `rwl` are the bits of each access type of R6; every other bit is read-only or reserved. -/
structure RegRow where
  base : Nat
  n1 : Nat
  s1 : Nat
  n2 : Nat
  s2 : Nat
  reset : Nat
  rw : Nat
  w1c : Nat
  wo : Nat
  rwl : Nat
  pd : Nat
  deriving DecidableEq, Repr

/-! #### Sys block at 0x40000000 -/

def SYS_ID : Nat := 0x40000000
def SYS_FW : Nat := 0x40000004
def SYS_CTRL : Nat := 0x40000008
def SYS_MODE : Nat := 0x4000000C
def SYS_PREP : Nat := 0x40000010
def SYS_STRAPS : Nat := 0x40000014
def SYS_MODE_CROSSING : Nat := 0x40000018
def SYS_MODE_TURN : Nat := 0x4000001C
def SYS_SCRATCH : Nat := 0x40000020

def rowsSys : List RegRow :=
  [⟨0x40000000, 1, 0x100000, 1, 4, 0x25600100, 0, 0, 0, 0, 1⟩,
   ⟨0x40000004, 1, 0x100000, 1, 4, 0, 0, 0, 0, 0, 1⟩,
   ⟨0x40000008, 1, 0x100000, 1, 4, 0x28, 0xFF, 0, 0, 0, 1⟩,
   ⟨0x4000000C, 1, 0x100000, 1, 4, 0x101, 0, 0, 0, 0, 1⟩,
   ⟨0x40000010, 1, 0x100000, 1, 4, 0, 0, 0, 0, 0, 1⟩,
   ⟨0x40000014, 1, 0x100000, 1, 4, 0, 0, 0, 0, 0, 1⟩,
   ⟨0x40000018, 1, 0x100000, 1, 4, 0, 0, 0, 0, 0, 1⟩,
   ⟨0x4000001C, 1, 0x100000, 1, 4, 0, 0, 0, 0, 0, 1⟩,
   ⟨0x40000020, 1, 0x100000, 1, 4, 0, 0xFFFFFFFF, 0, 0, 0, 1⟩]

/-! #### Power block at 0x40010000 -/

def RP_RST_CAUSE : Nat := 0x40010000
def RP_PD_STATUS : Nat := 0x40010004
def RP_SUPPLY : Nat := 0x40010008
def RP_WDOG : Nat := 0x4001000C
def RP_WDOG_KICK : Nat := 0x40010010
def RP_FUSE_STATUS : Nat := 0x40010014
def RP_IMAGE : Nat := 0x40010040
def RP_FUSE (i : Nat) : Nat := 0x40010018 + 4 * i

def rowsPower : List RegRow :=
  [⟨0x40010000, 1, 0x100000, 1, 4, 0x10000, 0, 0x1FF0000, 0, 0, 0⟩,
   ⟨0x40010004, 1, 0x100000, 1, 4, 0x10001, 0, 0, 0, 0, 0⟩,
   ⟨0x40010008, 1, 0x100000, 1, 4, 0, 0xFF, 0xF0000, 0, 0, 0⟩,
   ⟨0x4001000C, 1, 0x100000, 1, 4, 0xA, 0x800000FF, 0, 0, 0, 1⟩,
   ⟨0x40010010, 1, 0x100000, 1, 4, 0, 0, 0, 0xFFFF, 0, 1⟩,
   ⟨0x40010014, 1, 0x100000, 1, 4, 0, 0, 0, 0, 0, 0⟩,
   ⟨0x40010040, 1, 0x100000, 1, 4, 0, 0, 0, 0, 0, 1⟩,
   ⟨0x40010018, 8, 4, 1, 4, 0, 0, 0, 0, 0, 0⟩]

/-! #### Timetable block at 0x40020000 -/

def TT_CTRL : Nat := 0x40020000
def TT_STATUS : Nat := 0x40020004
def TT_TURN_LEN : Nat := 0x40020008
def TT_LAT : Nat := 0x4002000C
def TT_CROSSING : Nat := 0x40020010
def TT_TURN_SNAP : Nat := 0x40020014
def TT_CLOCK : Nat := 0x40020018
def TT_XO_RATIO : Nat := 0x4002001C
def TT_FRATE : Nat := 0x40020020
def TT_SLIP_COUNT : Nat := 0x40020024
def TT_SUPP0 : Nat := 0x40020028
def TT_SUPP1 : Nat := 0x4002002C
def TT_SLOT (i : Nat) : Nat := 0x40020100 + 4 * i
def TT_ACT_SLOT (i : Nat) : Nat := 0x40020200 + 4 * i
def TT_WIN_RANGE (i : Nat) : Nat := 0x40020300 + 8 * i
def TT_WIN_ACT (i : Nat) : Nat := 0x40020304 + 8 * i
def TT_ACT_WIN_RANGE (i : Nat) : Nat := 0x40020380 + 8 * i
def TT_ACT_WIN_ACT (i : Nat) : Nat := 0x40020384 + 8 * i

def rowsTimetable : List RegRow :=
  [⟨0x40020000, 1, 0x100000, 1, 4, 0x50, 0xF0, 0, 0x100, 0, 1⟩,
   ⟨0x40020004, 1, 0x100000, 1, 4, 0x80, 0, 0, 0, 0, 1⟩,
   ⟨0x40020008, 1, 0x100000, 1, 4, 0xC80, 0xFFFF, 0, 0, 0, 1⟩,
   ⟨0x4002000C, 1, 0x100000, 1, 4, 0x1120, 0x3F, 0, 0, 0, 1⟩,
   ⟨0x40020010, 1, 0x100000, 1, 4, 0, 0, 0, 0, 0, 1⟩,
   ⟨0x40020014, 1, 0x100000, 1, 4, 0, 0, 0, 0, 0, 1⟩,
   ⟨0x40020018, 1, 0x100000, 1, 4, 0x10, 0x13, 0, 0, 0, 1⟩,
   ⟨0x4002001C, 1, 0x100000, 1, 4, 0xCCCCCD, 0x1FFFFFF, 0, 0, 0, 1⟩,
   ⟨0x40020020, 1, 0x100000, 1, 4, 0, 0, 0, 0, 0, 1⟩,
   ⟨0x40020024, 1, 0x100000, 1, 4, 0, 0xFFFF, 0, 0, 0, 1⟩,
   ⟨0x40020028, 1, 0x100000, 1, 4, 0, 0xFFFFFFFF, 0, 0, 0, 1⟩,
   ⟨0x4002002C, 1, 0x100000, 1, 4, 0, 0xFFFF, 0, 0, 0, 1⟩,
   ⟨0x40020100, 0x40, 4, 1, 4, 0, 0x7FF1F, 0, 0, 0, 1⟩,
   ⟨0x40020200, 0x40, 4, 1, 4, 0, 0, 0, 0, 0, 1⟩,
   ⟨0x40020300, 0x10, 8, 1, 4, 0, 0xFFFFFFFF, 0, 0, 0, 1⟩,
   ⟨0x40020304, 0x10, 8, 1, 4, 0, 0x80F7FF1F, 0, 0, 0, 1⟩,
   ⟨0x40020380, 0x10, 8, 1, 4, 0, 0, 0, 0, 0, 1⟩,
   ⟨0x40020384, 0x10, 8, 1, 4, 0, 0, 0, 0, 0, 1⟩]

/-! #### Afe block at 0x40030000 -/

def AFE_CTRL : Nat := 0x40030000
def AFE_STATUS : Nat := 0x40030004
def AFE_HO_FAIL : Nat := 0x40030008
def AFE_ADC_MAP (i : Nat) : Nat := 0x40030010 + 4 * i
def AFE_CH_CFG (i : Nat) : Nat := 0x40031000 + 4 * i
def AFE_CH_STAT (i : Nat) : Nat := 0x40031400 + 4 * i
def CAL_CTRL : Nat := 0x40032000
def CAL_ROT : Nat := 0x40032004
def CAL_STATUS : Nat := 0x40032008
def CAL_TEMP (i : Nat) : Nat := 0x40032010 + 4 * i
def CAL_QSTAT (i : Nat) : Nat := 0x40032020 + 4 * i
def CAL_CHFAIL (i : Nat) : Nat := 0x40032040 + 4 * i
def CAL_REF (i : Nat) : Nat := 0x40033000 + 4 * i

def rowsAfe : List RegRow :=
  [⟨0x40030000, 1, 0x100000, 1, 4, 0x42014, 0x1FFF7F, 0, 0, 0, 5⟩,
   ⟨0x40030004, 1, 0x100000, 1, 4, 0, 0, 0, 0, 0, 5⟩,
   ⟨0x40030008, 1, 0x100000, 1, 4, 0, 0xFFFFFFFF, 0, 0, 0, 5⟩,
   ⟨0x40030010, 4, 4, 1, 4, 0xC0, 0, 0, 0, 0, 5⟩,
   ⟨0x40031000, 0x100, 4, 1, 4, 1, 0x73FFF01, 0, 0, 0, 5⟩,
   ⟨0x40031400, 0x100, 4, 1, 4, 0, 0xFFFF, 0, 0, 0, 5⟩,
   ⟨0x40032000, 1, 0x100000, 1, 4, 0x3C103007, 0xFF1FFF07, 0, 0, 0, 4⟩,
   ⟨0x40032004, 1, 0x100000, 1, 4, 0x3E80040, 0xFFFFFFFF, 0, 0, 0, 4⟩,
   ⟨0x40032008, 1, 0x100000, 1, 4, 0, 0, 0, 0, 0, 4⟩,
   ⟨0x40032010, 4, 4, 1, 4, 0, 0, 0, 0, 0, 4⟩,
   ⟨0x40032020, 4, 4, 1, 4, 0, 0, 0, 0, 0, 4⟩,
   ⟨0x40032040, 8, 4, 1, 4, 0, 0, 0, 0, 0, 4⟩,
   ⟨0x40033000, 0x100, 4, 1, 4, 0, 0, 0, 0, 0xFFFFFFFF, 4⟩]

/-! #### Filter block at 0x40040000 -/

def FLT_CTRL : Nat := 0x40040000
def FLT_STATUS : Nat := 0x40040004
def FLT_SAT_STICKY : Nat := 0x40040008
def FLT_SWAP_CROSSING : Nat := 0x4004000C
def FLT_SWAP_TURN : Nat := 0x40040010
def FLT_GCFG (i : Nat) : Nat := 0x40040020 + 4 * i
def FLT_GCFG_ACT (i : Nat) : Nat := 0x40040040 + 4 * i
def FLT_SAT_COUNT (i : Nat) : Nat := 0x40040060 + 4 * i
def HB1A_C (i j : Nat) : Nat := 0x40041000 + 0x100 * i + 4 * j
def HB1B_C (i j : Nat) : Nat := 0x40041018 + 0x100 * i + 4 * j
def HB2A_C (i j : Nat) : Nat := 0x40041024 + 0x100 * i + 4 * j
def HB2B_C (i j : Nat) : Nat := 0x4004103C + 0x100 * i + 4 * j
def FIR_H (i j : Nat) : Nat := 0x40041048 + 0x100 * i + 4 * j
def FIR_ALIGN (i : Nat) : Nat := 0x40041088 + 0x100 * i
def ACT_HB1A_C (i j : Nat) : Nat := 0x40042000 + 0x100 * i + 4 * j
def ACT_HB1B_C (i j : Nat) : Nat := 0x40042018 + 0x100 * i + 4 * j
def ACT_HB2A_C (i j : Nat) : Nat := 0x40042024 + 0x100 * i + 4 * j
def ACT_HB2B_C (i j : Nat) : Nat := 0x4004203C + 0x100 * i + 4 * j
def ACT_FIR_H (i j : Nat) : Nat := 0x40042048 + 0x100 * i + 4 * j
def ACT_FIR_ALIGN (i : Nat) : Nat := 0x40042088 + 0x100 * i

def rowsFilter : List RegRow :=
  [⟨0x40040000, 1, 0x100000, 1, 4, 0, 0, 0, 0xFF00, 0, 2⟩,
   ⟨0x40040004, 1, 0x100000, 1, 4, 0, 0, 0, 0, 0, 2⟩,
   ⟨0x40040008, 1, 0x100000, 1, 4, 0, 0, 0xFFFF, 0, 0, 2⟩,
   ⟨0x4004000C, 1, 0x100000, 1, 4, 0, 0, 0, 0, 0, 2⟩,
   ⟨0x40040010, 1, 0x100000, 1, 4, 0, 0, 0, 0, 0, 2⟩,
   ⟨0x40040020, 8, 4, 1, 4, 0, 0x3D, 0, 0, 0, 2⟩,
   ⟨0x40040040, 8, 4, 1, 4, 0, 0, 0, 0, 0, 2⟩,
   ⟨0x40040060, 8, 4, 1, 4, 0, 0xFFFFFFFF, 0, 0, 0, 2⟩,
   ⟨0x40041000, 8, 0x100, 6, 4, 0, 0x3FFFF, 0, 0, 0, 2⟩,
   ⟨0x40041018, 8, 0x100, 3, 4, 0, 0x3FFFF, 0, 0, 0, 2⟩,
   ⟨0x40041024, 8, 0x100, 6, 4, 0, 0x3FFFF, 0, 0, 0, 2⟩,
   ⟨0x4004103C, 8, 0x100, 3, 4, 0, 0x3FFFF, 0, 0, 0, 2⟩,
   ⟨0x40041048, 8, 0x100, 0x10, 4, 0, 0x3FFFF, 0, 0, 0, 2⟩,
   ⟨0x40041088, 8, 0x100, 1, 4, 0x78, 0xFF, 0, 0, 0, 2⟩,
   ⟨0x40042000, 8, 0x100, 6, 4, 0, 0, 0, 0, 0, 2⟩,
   ⟨0x40042018, 8, 0x100, 3, 4, 0, 0, 0, 0, 0, 2⟩,
   ⟨0x40042024, 8, 0x100, 6, 4, 0, 0, 0, 0, 0, 2⟩,
   ⟨0x4004203C, 8, 0x100, 3, 4, 0, 0, 0, 0, 0, 2⟩,
   ⟨0x40042048, 8, 0x100, 0x10, 4, 0, 0, 0, 0, 0, 2⟩,
   ⟨0x40042088, 8, 0x100, 1, 4, 0x78, 0, 0, 0, 0, 2⟩]

/-! #### Fe block at 0x40050000 -/

def FE_CTRL : Nat := 0x40050000
def FE_STATUS : Nat := 0x40050004
def FE_STATE (i : Nat) : Nat := 0x40050100 + 0x20 * i
def FE_COUNT (i : Nat) : Nat := 0x40050104 + 0x20 * i
def FE_CFG (i : Nat) : Nat := 0x40050108 + 0x20 * i
def FE_FAULT_CROSSING (i : Nat) : Nat := 0x4005010C + 0x20 * i
def FE_FAULT_TURN (i : Nat) : Nat := 0x40050110 + 0x20 * i
def FE_TRIGS (i : Nat) : Nat := 0x40050114 + 0x20 * i
def FE_PROG_CRC (i : Nat) : Nat := 0x40050118 + 0x20 * i
def FE_SATF (i : Nat) : Nat := 0x4005011C + 0x20 * i

def rowsFe : List RegRow :=
  [⟨0x40050000, 1, 0x100000, 1, 4, 0, 0, 0, 0xFFFF, 0, 2⟩,
   ⟨0x40050004, 1, 0x100000, 1, 4, 0, 0, 0, 0, 0, 2⟩,
   ⟨0x40050100, 8, 0x20, 1, 4, 0, 0, 0, 0, 0, 2⟩,
   ⟨0x40050104, 8, 0x20, 1, 4, 0, 0, 0, 0, 0, 2⟩,
   ⟨0x40050108, 8, 0x20, 1, 4, 0, 7, 0, 0, 0, 2⟩,
   ⟨0x4005010C, 8, 0x20, 1, 4, 0, 0, 0, 0, 0, 2⟩,
   ⟨0x40050110, 8, 0x20, 1, 4, 0, 0, 0, 0, 0, 2⟩,
   ⟨0x40050114, 8, 0x20, 1, 4, 0, 0, 0, 0, 0, 2⟩,
   ⟨0x40050118, 8, 0x20, 1, 4, 0, 0, 0, 0, 0, 2⟩,
   ⟨0x4005011C, 8, 0x20, 1, 4, 0, 0xFFFF, 0, 0, 0, 2⟩]

/-! #### Junction block at 0x40060000 -/

def JCT_CTRL : Nat := 0x40060000
def JCT_STATUS : Nat := 0x40060004
def JCT_PARAM0 : Nat := 0x40060008
def JCT_PARAM1 : Nat := 0x4006000C
def JCT_DEG_COUNT : Nat := 0x40060010
def JCT_OVF_COUNT : Nat := 0x40060014
def JCT_PAIR_MISS : Nat := 0x40060018
def JCT_FAULT_CROSSING : Nat := 0x4006001C
def JCT_FAULT_TURN : Nat := 0x40060020
def JCT_TMAP (i : Nat) : Nat := 0x40060100 + 4 * i

def rowsJunction : List RegRow :=
  [⟨0x40060000, 1, 0x100000, 1, 4, 4, 0xFF0F, 0, 0, 0, 2⟩,
   ⟨0x40060004, 1, 0x100000, 1, 4, 0, 0, 0, 0, 0, 2⟩,
   ⟨0x40060008, 1, 0x100000, 1, 4, 0, 0, 0, 0, 0, 2⟩,
   ⟨0x4006000C, 1, 0x100000, 1, 4, 0, 0, 0, 0, 0, 2⟩,
   ⟨0x40060010, 1, 0x100000, 1, 4, 0, 0xFFFFFFFF, 0, 0, 0, 2⟩,
   ⟨0x40060014, 1, 0x100000, 1, 4, 0, 0xFFFFFFFF, 0, 0, 0, 2⟩,
   ⟨0x40060018, 1, 0x100000, 1, 4, 0, 0xFFFF, 0, 0, 0, 2⟩,
   ⟨0x4006001C, 1, 0x100000, 1, 4, 0, 0, 0, 0, 0, 2⟩,
   ⟨0x40060020, 1, 0x100000, 1, 4, 0, 0, 0, 0, 0, 2⟩,
   ⟨0x40060100, 0x40, 4, 1, 4, 0, 0xFFFFFFFF, 0, 0, 0, 2⟩]

/-! #### Record block at 0x40070000 -/

def REC_CTRL : Nat := 0x40070000
def REC_FREE : Nat := 0x40070004
def REC_STATUS : Nat := 0x40070008
def REC_GCFG (i : Nat) : Nat := 0x40070100 + 0x40 * i
def REC_HOLDOFF (i : Nat) : Nat := 0x40070104 + 0x40 * i
def REC_PERIOD (i : Nat) : Nat := 0x40070108 + 0x40 * i
def REC_LED (i : Nat) : Nat := 0x4007010C + 0x40 * i
def REC_SEQ (i : Nat) : Nat := 0x40070110 + 0x40 * i
def REC_COUNT (i : Nat) : Nat := 0x40070114 + 0x40 * i
def REC_REFUSED (i : Nat) : Nat := 0x40070118 + 0x40 * i
def REC_SKIPPED (i : Nat) : Nat := 0x4007011C + 0x40 * i
def REC_LAST_CROSSING (i : Nat) : Nat := 0x40070120 + 0x40 * i
def REC_LAST_TURN (i : Nat) : Nat := 0x40070124 + 0x40 * i

def rowsRecord : List RegRow :=
  [⟨0x40070000, 1, 0x100000, 1, 4, 0x10, 0x130FFF, 0, 0, 0, 2⟩,
   ⟨0x40070004, 1, 0x100000, 1, 4, 0x1000, 0, 0, 0, 0, 2⟩,
   ⟨0x40070008, 1, 0x100000, 1, 4, 0, 0, 0, 0, 0, 2⟩,
   ⟨0x40070100, 8, 0x40, 1, 4, 0x4080201, 0x8F3F1F1F, 0, 0, 0, 2⟩,
   ⟨0x40070104, 8, 0x40, 1, 4, 0, 0xFFFF01FF, 0, 0, 0, 2⟩,
   ⟨0x40070108, 8, 0x40, 1, 4, 0xC80, 0xFFFFFFFF, 0, 0, 0, 2⟩,
   ⟨0x4007010C, 8, 0x40, 1, 4, 0xFF, 0x1FF, 0, 0, 0, 2⟩,
   ⟨0x40070110, 8, 0x40, 1, 4, 0, 0, 0, 0, 0, 2⟩,
   ⟨0x40070114, 8, 0x40, 1, 4, 0, 0, 0, 0, 0, 2⟩,
   ⟨0x40070118, 8, 0x40, 1, 4, 0, 0xFFFFFFFF, 0, 0, 0, 2⟩,
   ⟨0x4007011C, 8, 0x40, 1, 4, 0, 0xFFFFFFFF, 0, 0, 0, 2⟩,
   ⟨0x40070120, 8, 0x40, 1, 4, 0, 0, 0, 0, 0, 2⟩,
   ⟨0x40070124, 8, 0x40, 1, 4, 0, 0, 0, 0, 0, 2⟩]

/-! #### Stream block at 0x40080000 -/

def STR_CTRL : Nat := 0x40080000
def STR_STATUS : Nat := 0x40080004
def STR_FLUSH : Nat := 0x40080008
def STR_LOOP : Nat := 0x4008000C
def STR_LOOP_SEQ : Nat := 0x40080010
def STR_LOOP_ABANDON : Nat := 0x40080014
def STR_GCFG (i : Nat) : Nat := 0x40080020 + 4 * i
def STR_SEQ (i : Nat) : Nat := 0x40080040 + 4 * i
def STR_CNT (i : Nat) : Nat := 0x40080060 + 4 * i
def STR_SIZE (i : Nat) : Nat := 0x40080080 + 4 * i
def STR_NBR (i j : Nat) : Nat := 0x40080100 + 0x20 * i + 4 * j
def MSH_CTRL : Nat := 0x40081000
def MSH_STATUS : Nat := 0x40081004
def MSH_ADMIT : Nat := 0x40081008
def MSH_BUF : Nat := 0x4008100C
def MSH_GAPS : Nat := 0x40081010
def MSH_RESENT : Nat := 0x40081014

def rowsStream : List RegRow :=
  [⟨0x40080000, 1, 0x100000, 1, 4, 0x400000, 0xFF0001, 0, 0, 0, 2⟩,
   ⟨0x40080004, 1, 0x100000, 1, 4, 0, 0, 0, 0, 0, 2⟩,
   ⟨0x40080008, 1, 0x100000, 1, 4, 0, 0, 0, 0xFFFF, 0, 2⟩,
   ⟨0x4008000C, 1, 0x100000, 1, 4, 0, 0xFF00, 0, 0, 0, 2⟩,
   ⟨0x40080010, 1, 0x100000, 1, 4, 0, 0, 0, 0, 0, 2⟩,
   ⟨0x40080014, 1, 0x100000, 1, 4, 0, 0xFFFF, 0, 0, 0, 2⟩,
   ⟨0x40080020, 8, 4, 1, 4, 0x201, 0xFF03, 0, 0, 0, 2⟩,
   ⟨0x40080040, 8, 4, 1, 4, 0, 0, 0, 0, 0, 2⟩,
   ⟨0x40080060, 8, 4, 1, 4, 0, 0xFFFF, 0, 0, 0, 2⟩,
   ⟨0x40080080, 8, 4, 1, 4, 0, 0, 0, 0, 0, 2⟩,
   ⟨0x40080100, 8, 0x20, 8, 4, 0, 0x1F1F1F1F, 0, 0, 0, 2⟩,
   ⟨0x40081000, 1, 0x100000, 1, 4, 0x3F, 0x3F, 0, 0, 0, 2⟩,
   ⟨0x40081004, 1, 0x100000, 1, 4, 0x7000000, 0, 0, 0, 0, 2⟩,
   ⟨0x40081008, 1, 0x100000, 1, 4, 0, 0, 0, 0, 0, 2⟩,
   ⟨0x4008100C, 1, 0x100000, 1, 4, 0, 0xFFFF0000, 0, 0, 0, 2⟩,
   ⟨0x40081010, 1, 0x100000, 1, 4, 0, 0xFFFFFFFF, 0, 0, 0, 2⟩,
   ⟨0x40081014, 1, 0x100000, 1, 4, 0, 0xFFFFFFFF, 0, 0, 0, 2⟩]

/-! #### Link block at 0x40090000 -/

def LN_CTRL (i : Nat) : Nat := 0x40090000 + 0x1000 * i
def LN_STATUS (i : Nat) : Nat := 0x40090004 + 0x1000 * i
def LN_TIMING (i : Nat) : Nat := 0x40090008 + 0x1000 * i
def LN_TXEQ (i : Nat) : Nat := 0x4009000C + 0x1000 * i
def LN_RXEQ (i : Nat) : Nat := 0x40090010 + 0x1000 * i
def LN_PARTNER (i : Nat) : Nat := 0x40090014 + 0x1000 * i
def LN_CNT0 (i : Nat) : Nat := 0x40090018 + 0x1000 * i
def LN_CNT1 (i : Nat) : Nat := 0x4009001C + 0x1000 * i
def LN_CNT2 (i : Nat) : Nat := 0x40090020 + 0x1000 * i
def LN_CNT3 (i : Nat) : Nat := 0x40090024 + 0x1000 * i
def LN_EVENTS (i : Nat) : Nat := 0x40090028 + 0x1000 * i
def LN_TEST (i : Nat) : Nat := 0x4009002C + 0x1000 * i

def rowsLink : List RegRow :=
  [⟨0x40090000, 0xB, 0x1000, 1, 4, 3, 0xF03, 0, 4, 0, 3⟩,
   ⟨0x40090004, 0xB, 0x1000, 1, 4, 0, 0, 0, 0, 0, 3⟩,
   ⟨0x40090008, 0xB, 0x1000, 1, 4, 0x400, 0x3F1FFF, 0, 0, 0, 3⟩,
   ⟨0x4009000C, 0xB, 0x1000, 1, 4, 0x63002, 0x1F3F0F, 0, 0, 0, 3⟩,
   ⟨0x40090010, 0xB, 0x1000, 1, 4, 0x80080000, 0x800F0000, 0, 0, 0, 3⟩,
   ⟨0x40090014, 0xB, 0x1000, 1, 4, 0, 0, 0, 0, 0, 3⟩,
   ⟨0x40090018, 0xB, 0x1000, 1, 4, 0, 0, 0, 0, 0, 3⟩,
   ⟨0x4009001C, 0xB, 0x1000, 1, 4, 0, 0xFFFFFFFF, 0, 0, 0, 3⟩,
   ⟨0x40090020, 0xB, 0x1000, 1, 4, 0, 0xFFFFFFFF, 0, 0, 0, 3⟩,
   ⟨0x40090024, 0xB, 0x1000, 1, 4, 0, 0xFFFFFFFF, 0, 0, 0, 3⟩,
   ⟨0x40090028, 0xB, 0x1000, 1, 4, 0, 0xFFFFFFFF, 0, 0, 0, 3⟩,
   ⟨0x4009002C, 0xB, 0x1000, 1, 4, 0, 0xFFFFFFFF, 0, 0, 0, 3⟩]

/-! #### Time block at 0x400A0000 -/

def TM_CTRL : Nat := 0x400A0000
def TM_STATUS : Nat := 0x400A0004
def TM_NOW_LO : Nat := 0x400A0008
def TM_NOW_HI : Nat := 0x400A000C
def TM_NOW_FRAC : Nat := 0x400A0010
def TM_SEC : Nat := 0x400A0014
def TM_RATE : Nat := 0x400A0018
def TM_INTEG : Nat := 0x400A001C
def TM_OFFSET : Nat := 0x400A0020
def TM_PATH_DELAY : Nat := 0x400A0024
def TM_GAIN : Nat := 0x400A0028
def TM_RATE_LIMIT : Nat := 0x400A002C
def TM_STEP : Nat := 0x400A0030
def TM_PHASE : Nat := 0x400A0034
def TM_PHASE_ERR : Nat := 0x400A0038
def TM_HOLD_AGE : Nat := 0x400A003C
def TM_COUNT : Nat := 0x400A0040
def TM_STEPS : Nat := 0x400A0044
def TM_DELAY (i : Nat) : Nat := 0x400A0100 + 4 * i

def rowsTime : List RegRow :=
  [⟨0x400A0000, 1, 0x100000, 1, 4, 0x141C, 0xFF1F1F, 0, 0, 0, 1⟩,
   ⟨0x400A0004, 1, 0x100000, 1, 4, 1, 0, 0, 0, 0, 1⟩,
   ⟨0x400A0008, 1, 0x100000, 1, 4, 0, 0, 0, 0, 0, 0⟩,
   ⟨0x400A000C, 1, 0x100000, 1, 4, 0, 0, 0, 0, 0, 0⟩,
   ⟨0x400A0010, 1, 0x100000, 1, 4, 0, 0, 0, 0, 0, 0⟩,
   ⟨0x400A0014, 1, 0x100000, 1, 4, 0, 0, 0, 0, 0, 1⟩,
   ⟨0x400A0018, 1, 0x100000, 1, 4, 0, 0xFFFFFFFF, 0, 0, 0, 0⟩,
   ⟨0x400A001C, 1, 0x100000, 1, 4, 0, 0, 0, 0, 0, 0⟩,
   ⟨0x400A0020, 1, 0x100000, 1, 4, 0, 0, 0, 0, 0, 1⟩,
   ⟨0x400A0024, 1, 0x100000, 1, 4, 0, 0, 0, 0, 0, 1⟩,
   ⟨0x400A0028, 1, 0x100000, 1, 4, 0x15800158, 0xFFFFFFFF, 0, 0, 0, 1⟩,
   ⟨0x400A002C, 1, 0x100000, 1, 4, 0x68DB8BB, 0xFFFFFFFF, 0, 0, 0, 1⟩,
   ⟨0x400A0030, 1, 0x100000, 1, 4, 0x1003E8, 0xFFFFFFFF, 0, 0, 0, 1⟩,
   ⟨0x400A0034, 1, 0x100000, 1, 4, 0x200A000, 0x3FFF3FF, 0, 0, 0, 1⟩,
   ⟨0x400A0038, 1, 0x100000, 1, 4, 0, 0, 0, 0, 0, 1⟩,
   ⟨0x400A003C, 1, 0x100000, 1, 4, 0, 0, 0, 0, 0, 0⟩,
   ⟨0x400A0040, 1, 0x100000, 1, 4, 0, 0xFFFF, 0, 0, 0, 1⟩,
   ⟨0x400A0044, 1, 0x100000, 1, 4, 0, 0xFFFF, 0, 0, 0, 1⟩,
   ⟨0x400A0100, 0xB, 4, 1, 4, 0, 0xFFFF, 0, 0, 0, 1⟩]

/-! #### Pair block at 0x400B0000 -/

def PAIR_CTRL : Nat := 0x400B0000
def PAIR_STATUS : Nat := 0x400B0004
def PAIR_PARTNER_LO : Nat := 0x400B0008
def PAIR_PARTNER_HI : Nat := 0x400B000C
def PAIR_TIMING : Nat := 0x400B0010
def PAIR_REVERT : Nat := 0x400B0014
def PAIR_HEALTH : Nat := 0x400B0018
def PAIR_SHADOW : Nat := 0x400B001C
def PAIR_SKIP : Nat := 0x400B0020
def PAIR_FIRST_MISMATCH : Nat := 0x400B0024
def PAIR_FIRST_TURN : Nat := 0x400B0028
def PAIR_SWITCHES : Nat := 0x400B002C
def PAIR_MARGIN : Nat := 0x400B0030

def rowsPair : List RegRow :=
  [⟨0x400B0000, 1, 0x100000, 1, 4, 4, 4, 0, 0, 0, 1⟩,
   ⟨0x400B0004, 1, 0x100000, 1, 4, 0, 0, 0, 0, 0, 1⟩,
   ⟨0x400B0008, 1, 0x100000, 1, 4, 0, 0, 0, 0, 0, 1⟩,
   ⟨0x400B000C, 1, 0x100000, 1, 4, 0, 0, 0, 0, 0, 1⟩,
   ⟨0x400B0010, 1, 0x100000, 1, 4, 0x3E80004, 0xFFFF00FF, 0, 0, 0, 1⟩,
   ⟨0x400B0014, 1, 0x100000, 1, 4, 0, 0, 0, 0, 0, 1⟩,
   ⟨0x400B0018, 1, 0x100000, 1, 4, 0, 0, 0, 0, 0, 1⟩,
   ⟨0x400B001C, 1, 0x100000, 1, 4, 0, 0xFFFFFFFF, 0, 0, 0, 1⟩,
   ⟨0x400B0020, 1, 0x100000, 1, 4, 0, 0xFFFFFFFF, 0, 0, 0, 1⟩,
   ⟨0x400B0024, 1, 0x100000, 1, 4, 0, 0, 0, 0, 0, 1⟩,
   ⟨0x400B0028, 1, 0x100000, 1, 4, 0, 0, 0, 0, 0, 1⟩,
   ⟨0x400B002C, 1, 0x100000, 1, 4, 0, 0xFFFFFFFF, 0, 0, 0, 1⟩,
   ⟨0x400B0030, 1, 0x100000, 1, 4, 0, 0, 0, 0, 0, 1⟩]

/-! #### Mon block at 0x400C0000 -/

def MON_STATUS : Nat := 0x400C0000
def MON_PIN_ILIM : Nat := 0x400C0004
def MON_WIN_EV0 : Nat := 0x400C0008
def MON_WIN_EV1 : Nat := 0x400C000C
def MON_PIN (i : Nat) : Nat := 0x400C0010 + 4 * i
def MON_EXC (i : Nat) : Nat := 0x400C0100 + 4 * i
def MON_EXC_STAT (i : Nat) : Nat := 0x400C0110 + 4 * i
def MON_SEQ_CTRL (i : Nat) : Nat := 0x400C0200 + 0x10 * i
def MON_SEQ_STAT (i : Nat) : Nat := 0x400C0204 + 0x10 * i
def MON_ENTRY_A (i j : Nat) : Nat := 0x400C1000 + 0x100 * i + 8 * j
def MON_ENTRY_B (i j : Nat) : Nat := 0x400C1004 + 0x100 * i + 8 * j
def MON_RES (i j : Nat) : Nat := 0x400C2000 + 0x40 * i + 4 * j
def AONC_CFG (i : Nat) : Nat := 0x400C3000 + 4 * i
def AONC_STATUS : Nat := 0x400C3010

def rowsMon : List RegRow :=
  [⟨0x400C0000, 1, 0x100000, 1, 4, 0, 0, 0xF00, 0, 0, 9⟩,
   ⟨0x400C0004, 1, 0x100000, 1, 4, 0, 0, 0xFFFFFFFF, 0, 0, 9⟩,
   ⟨0x400C0008, 1, 0x100000, 1, 4, 0, 0, 0xFFFFFFFF, 0, 0, 9⟩,
   ⟨0x400C000C, 1, 0x100000, 1, 4, 0, 0, 0xFFFFFFFF, 0, 0, 9⟩,
   ⟨0x400C0010, 0x20, 4, 1, 4, 0x100, 0x7F03, 0, 0, 0, 9⟩,
   ⟨0x400C0100, 2, 4, 1, 4, 0xA0000, 0xC0FF0FFF, 0, 0, 0, 9⟩,
   ⟨0x400C0110, 2, 4, 1, 4, 0, 0, 0, 0, 0, 9⟩,
   ⟨0x400C0200, 4, 0x10, 1, 4, 0xA0010, 0xFFFF01F3, 0, 0, 0, 9⟩,
   ⟨0x400C0204, 4, 0x10, 1, 4, 0, 0xFF00, 0, 0, 0, 9⟩,
   ⟨0x400C1000, 4, 0x100, 0x10, 8, 0, 0x3FFFFFFF, 0, 0, 0, 9⟩,
   ⟨0x400C1004, 4, 0x100, 0x10, 8, 0, 0xFFFFFFFF, 0, 0, 0, 9⟩,
   ⟨0x400C2000, 4, 0x40, 0x10, 4, 0, 0, 0, 0, 0, 9⟩,
   ⟨0x400C3000, 4, 4, 1, 4, 0, 0xFF0703FF, 0, 0, 0, 0⟩,
   ⟨0x400C3010, 1, 0x100000, 1, 4, 0, 0, 0xF0F, 0, 0, 0⟩]

/-! #### Led block at 0x400D0000 -/

def LED_CTRL : Nat := 0x400D0000
def LED_STATUS : Nat := 0x400D0004
def LED_VLED : Nat := 0x400D0008
def LED_PROVE : Nat := 0x400D000C
def LED_ROW_PHD : Nat := 0x400D0010
def LED_CNT : Nat := 0x400D0014
def LED_CNT2 : Nat := 0x400D0018
def LED_FAULT (i : Nat) : Nat := 0x400D0020 + 4 * i
def LED_PHD (i : Nat) : Nat := 0x400D0040 + 4 * i
def LED_PAT_A (i : Nat) : Nat := 0x400D0100 + 0x10 * i
def LED_PAT_B (i : Nat) : Nat := 0x400D0104 + 0x10 * i
def LED_PAT_C (i : Nat) : Nat := 0x400D0108 + 0x10 * i
def LED_PAT_D (i : Nat) : Nat := 0x400D010C + 0x10 * i
def LED_ADJ (i : Nat) : Nat := 0x400D0180 + 4 * i
def LED_BIN (i j : Nat) : Nat := 0x400D1000 + 0x40 * i + 4 * j

def rowsLed : List RegRow :=
  [⟨0x400D0000, 1, 0x100000, 1, 4, 0x800, 0xFF03, 0, 0, 0, 9⟩,
   ⟨0x400D0004, 1, 0x100000, 1, 4, 0, 0, 0, 0, 0, 9⟩,
   ⟨0x400D0008, 1, 0x100000, 1, 4, 0xF00050, 0xFF00FF, 0, 0, 0, 9⟩,
   ⟨0x400D000C, 1, 0x100000, 1, 4, 0xFFFF2000, 0xFFFFFF00, 0, 0, 0, 9⟩,
   ⟨0x400D0010, 1, 0x100000, 1, 4, 0x3E8FA50, 0xFFFFFFFF, 0, 0, 0, 9⟩,
   ⟨0x400D0014, 1, 0x100000, 1, 4, 0, 0xFFFF, 0, 0, 0, 9⟩,
   ⟨0x400D0018, 1, 0x100000, 1, 4, 0, 0xFFFFFFFF, 0, 0, 0, 9⟩,
   ⟨0x400D0020, 8, 4, 1, 4, 0, 0, 0, 0, 0, 9⟩,
   ⟨0x400D0040, 4, 4, 1, 4, 0, 0, 0, 0, 0, 9⟩,
   ⟨0x400D0100, 8, 0x10, 1, 4, 0, 0xFF03FFFF, 0, 0, 0, 9⟩,
   ⟨0x400D0104, 8, 0x10, 1, 4, 0xFFFF, 0xFFFFFFFF, 0, 0, 0, 9⟩,
   ⟨0x400D0108, 8, 0x10, 1, 4, 0x30000, 0x8C0703FF, 0, 0, 0, 9⟩,
   ⟨0x400D010C, 8, 0x10, 1, 4, 0x3E8, 0xFFFF, 0, 0, 0, 9⟩,
   ⟨0x400D0180, 8, 4, 1, 4, 0x8000, 0, 0, 0, 0, 9⟩,
   ⟨0x400D1000, 8, 0x40, 0x10, 4, 0x80, 0xFFF, 0, 0, 0, 9⟩]

/-! #### Loop block at 0x400E0000 -/

def LOOP_STATUS : Nat := 0x400E0000
def LOOP_CTRL (i : Nat) : Nat := 0x400E0010 + 0x20 * i
def LOOP_SRC (i : Nat) : Nat := 0x400E0014 + 0x20 * i
def LOOP_SCALE (i : Nat) : Nat := 0x400E0018 + 0x20 * i
def LOOP_SET (i : Nat) : Nat := 0x400E001C + 0x20 * i
def LOOP_FW (i : Nat) : Nat := 0x400E0020 + 0x20 * i
def LOOP_NOW (i : Nat) : Nat := 0x400E0024 + 0x20 * i
def LOOP_READ (i : Nat) : Nat := 0x400E0028 + 0x20 * i
def LOOP_FLT (i : Nat) : Nat := 0x400E002C + 0x20 * i

def rowsLoop : List RegRow :=
  [⟨0x400E0000, 1, 0x100000, 1, 4, 0, 0, 0, 0, 0, 9⟩,
   ⟨0x400E0010, 4, 0x20, 1, 4, 0xA00, 0xC000FF03, 0, 0, 0, 9⟩,
   ⟨0x400E0014, 4, 0x20, 1, 4, 0, 0x3CFCF, 0, 0, 0, 9⟩,
   ⟨0x400E0018, 4, 0x20, 1, 4, 0x7D00, 0xFFFFFFFF, 0, 0, 0, 9⟩,
   ⟨0x400E001C, 4, 0x20, 1, 4, 0x1F40, 0xFFFF, 0, 0, 0, 9⟩,
   ⟨0x400E0020, 4, 0x20, 1, 4, 0, 0xFFFF, 0, 0, 0, 9⟩,
   ⟨0x400E0024, 4, 0x20, 1, 4, 0, 0, 0, 0, 0, 9⟩,
   ⟨0x400E0028, 4, 0x20, 1, 4, 0, 0, 0, 0, 0, 9⟩,
   ⟨0x400E002C, 4, 0x20, 1, 4, 0, 0xFFFF0000, 0x3F, 0, 0, 9⟩]

/-! #### Mem block at 0x400F0000 -/

def ECC_CTRL : Nat := 0x400F0000
def ECC_STATUS : Nat := 0x400F0004
def ECC_FLIP : Nat := 0x400F0008
def ECC_FLIP_ADDR : Nat := 0x400F000C
def TMR_REPAIRS : Nat := 0x400F0010
def SCRUB_CHECKED : Nat := 0x400F0200
def SCRUB_CORRECTED : Nat := 0x400F0204
def SCRUB_UNCORR : Nat := 0x400F0208
def SCRUB_FIRST : Nat := 0x400F020C
def FW_STATUS : Nat := 0x400F1000
def FW_RELEASE : Nat := 0x400F1004
def FW_VIOLATIONS : Nat := 0x400F1008
def ECC_CNT (i : Nat) : Nat := 0x400F0100 + 8 * i
def ECC_BEV (i : Nat) : Nat := 0x400F0104 + 8 * i
def FW_WIN_BASE (i j : Nat) : Nat := 0x400F2000 + 0x80 * i + 0x10 * j
def FW_WIN_LIMIT (i j : Nat) : Nat := 0x400F2004 + 0x80 * i + 0x10 * j
def FW_WIN_ATTR (i j : Nat) : Nat := 0x400F2008 + 0x80 * i + 0x10 * j

def rowsMem : List RegRow :=
  [⟨0x400F0000, 1, 0x100000, 1, 4, 0x10, 0xFF, 0, 0, 0, 1⟩,
   ⟨0x400F0004, 1, 0x100000, 1, 4, 0, 0, 0xFFFFFFFF, 0, 0, 1⟩,
   ⟨0x400F0008, 1, 0x100000, 1, 4, 0xFF00, 0xC00FFFFF, 0, 0, 0, 1⟩,
   ⟨0x400F000C, 1, 0x100000, 1, 4, 0, 0xFFFFFFFF, 0, 0, 0, 1⟩,
   ⟨0x400F0010, 1, 0x100000, 1, 4, 0, 0, 0, 0, 0, 1⟩,
   ⟨0x400F0200, 1, 0x100000, 1, 4, 0, 0, 0, 0, 0, 1⟩,
   ⟨0x400F0204, 1, 0x100000, 1, 4, 0, 0, 0, 0, 0, 1⟩,
   ⟨0x400F0208, 1, 0x100000, 1, 4, 0, 0, 0, 0, 0, 1⟩,
   ⟨0x400F020C, 1, 0x100000, 1, 4, 0xFFFFFFFF, 0, 0, 0, 0, 1⟩,
   ⟨0x400F1000, 1, 0x100000, 1, 4, 0, 0, 0, 0, 0, 1⟩,
   ⟨0x400F1004, 1, 0x100000, 1, 4, 0, 0, 0, 0x3F, 0, 1⟩,
   ⟨0x400F1008, 1, 0x100000, 1, 4, 0, 0xFFFFFFFF, 0, 0, 0, 1⟩,
   ⟨0x400F0100, 0x10, 8, 1, 4, 0, 0xFFFFFF00, 0, 0, 0, 1⟩,
   ⟨0x400F0104, 0x10, 8, 1, 4, 0, 0xFFFF, 0, 0, 0, 1⟩,
   ⟨0x400F2000, 6, 0x80, 8, 0x10, 0, 0xFFFFFFFC, 0, 0, 0, 1⟩,
   ⟨0x400F2004, 6, 0x80, 8, 0x10, 0, 0xFFFFFFFC, 0, 0, 0, 1⟩,
   ⟨0x400F2008, 6, 0x80, 8, 0x10, 0, 0xFFF0F, 0, 0, 0, 1⟩]

/-! #### Mailbox block at 0x40100000 -/

def MBX_CTRL : Nat := 0x40100000
def MBX_STATUS : Nat := 0x40100004
def MBX_EVT_MASK : Nat := 0x40100008
def MBX_ESEQ : Nat := 0x4010000C
def MBX_CNT0 : Nat := 0x40100020
def MBX_CNT1 : Nat := 0x40100024
def MBX_CNT2 : Nat := 0x40100028
def MBX_SRC (i : Nat) : Nat := 0x40100010 + 4 * i

def rowsMailbox : List RegRow :=
  [⟨0x40100000, 1, 0x100000, 1, 4, 0xA01, 0xFF03, 0, 0, 0, 1⟩,
   ⟨0x40100004, 1, 0x100000, 1, 4, 0, 0, 0, 0, 0, 1⟩,
   ⟨0x40100008, 1, 0x100000, 1, 4, 0, 0xFFFFE, 0, 0, 0, 1⟩,
   ⟨0x4010000C, 1, 0x100000, 1, 4, 0, 0, 0, 0, 0, 1⟩,
   ⟨0x40100020, 1, 0x100000, 1, 4, 0, 0xFFFF, 0, 0, 0, 1⟩,
   ⟨0x40100024, 1, 0x100000, 1, 4, 0, 0xFFFFFFFF, 0, 0, 0, 1⟩,
   ⟨0x40100028, 1, 0x100000, 1, 4, 0, 0xFFFFFFFF, 0, 0, 0, 1⟩,
   ⟨0x40100010, 3, 4, 1, 4, 0, 0, 0, 0, 0, 1⟩]

/-! #### Assay block at 0x50000000 -/

def ASY_STATUS : Nat := 0x50000000
def ASY_SEAL : Nat := 0x50000004
def ASY_BANK : Nat := 0x50000008
def ASY_STORE : Nat := 0x5000000C
def ASY_DEVICE_ID_LO : Nat := 0x50000010
def ASY_DEVICE_ID_HI : Nat := 0x50000014
def ASY_SEQ_A : Nat := 0x50000018
def ASY_SEQ_B : Nat := 0x5000001C
def ASY_FW_DIGEST (i : Nat) : Nat := 0x50000020 + 4 * i
def ASY_REF_DIGEST (i : Nat) : Nat := 0x50000040 + 4 * i
def ASY_SEAL_MAC (i : Nat) : Nat := 0x50000060 + 4 * i
def ASY_IMAGE (i : Nat) : Nat := 0x50001000 + 4 * i
def ASY_RAW (i : Nat) : Nat := 0x50008000 + 4 * i

def rowsAssay : List RegRow :=
  [⟨0x50000000, 1, 0x100000, 1, 4, 0x20, 0, 0, 0, 0, 4⟩,
   ⟨0x50000004, 1, 0x100000, 1, 4, 2, 0, 0, 0, 0, 4⟩,
   ⟨0x50000008, 1, 0x100000, 1, 4, 0, 0, 0, 0, 0, 4⟩,
   ⟨0x5000000C, 1, 0x100000, 1, 4, 0, 0, 0, 0, 0, 4⟩,
   ⟨0x50000010, 1, 0x100000, 1, 4, 0, 0, 0, 0, 0, 4⟩,
   ⟨0x50000014, 1, 0x100000, 1, 4, 0, 0, 0, 0, 0, 4⟩,
   ⟨0x50000018, 1, 0x100000, 1, 4, 0, 0, 0, 0, 0, 4⟩,
   ⟨0x5000001C, 1, 0x100000, 1, 4, 0, 0, 0, 0, 0, 4⟩,
   ⟨0x50000020, 8, 4, 1, 4, 0, 0, 0, 0, 0, 4⟩,
   ⟨0x50000040, 8, 4, 1, 4, 0, 0, 0, 0, 0, 4⟩,
   ⟨0x50000060, 8, 4, 1, 4, 0, 0, 0, 0, 0, 4⟩,
   ⟨0x50001000, 0x5C4, 4, 1, 4, 0, 0, 0, 0, 0, 4⟩,
   ⟨0x50008000, 0x100, 4, 1, 4, 0, 0, 0, 0, 0, 4⟩]

/-! #### Siding block at 0x60000000 -/

def SD_BASE (i : Nat) : Nat := 0x60000000 + 0x40 * i
def SD_HEAD (i : Nat) : Nat := 0x60000004 + 0x40 * i
def SD_TAIL (i : Nat) : Nat := 0x60000008 + 0x40 * i
def SD_LEVEL (i : Nat) : Nat := 0x6000000C + 0x40 * i
def SD_LOST (i : Nat) : Nat := 0x60000010 + 0x40 * i
def SD_STATUS (i : Nat) : Nat := 0x60000014 + 0x40 * i

def rowsSiding : List RegRow :=
  [⟨0x60000000, 0x40, 0x40, 1, 4, 0, 0, 0, 0, 0, 1⟩,
   ⟨0x60000004, 0x40, 0x40, 1, 4, 0, 0xFFFF, 0, 0, 0, 1⟩,
   ⟨0x60000008, 0x40, 0x40, 1, 4, 0, 0xFFFF, 0, 0, 0, 1⟩,
   ⟨0x6000000C, 0x40, 0x40, 1, 4, 0, 0x7F0000, 0, 0, 0, 1⟩,
   ⟨0x60000010, 0x40, 0x40, 1, 4, 0, 0xFFFFFFFF, 0, 0, 0, 1⟩,
   ⟨0x60000014, 0x40, 0x40, 1, 4, 0, 0, 4, 0, 0, 1⟩]

/-- The rows of the block an address falls in. -/
def rowsAt (a : Nat) : List RegRow :=
  match a / 0x10000 with
  | 0x4000 => rowsSys
  | 0x4001 => rowsPower
  | 0x4002 => rowsTimetable
  | 0x4003 => rowsAfe
  | 0x4004 => rowsFilter
  | 0x4005 => rowsFe
  | 0x4006 => rowsJunction
  | 0x4007 => rowsRecord
  | 0x4008 => rowsStream
  | 0x4009 => rowsLink
  | 0x400A => rowsTime
  | 0x400B => rowsPair
  | 0x400C => rowsMon
  | 0x400D => rowsLed
  | 0x400E => rowsLoop
  | 0x400F => rowsMem
  | 0x4010 => rowsMailbox
  | 0x5000 => rowsAssay
  | 0x6000 => rowsSiding
  | _ => []

/-- The element indices of an address within a row, if it is one of the row's registers. -/
def RegRow.index? (r : RegRow) (a : Nat) : Option (Nat × Nat) :=
  if a < r.base then none else
    let d := a - r.base
    let i := d / r.s1
    let e := d % r.s1
    if i < r.n1 ∧ e % r.s2 = 0 ∧ e / r.s2 < r.n2 then some (i, e / r.s2) else none

/-- The row that lists an address, with the element indices; none for a reserved offset (R27). -/
def findReg (a : Nat) : Option (RegRow × Nat × Nat) :=
  go (rowsAt a)
where
  go : List RegRow → Option (RegRow × Nat × Nat)
    | [] => none
    | r :: rs => match r.index? a with
      | some (i, j) => some (r, i, j)
      | none => go rs

/-- Reset values of the default half-band coefficients (table under R142). -/
def hbResetA : List Int := [41642, -13120, 6291, -2884, 1180, -341]
def hbResetB : List Int := [39046, -7576, 1298]

/-- The reset value of a register whose table gives a rule instead of one number: the identity tower map (R190),
the neighbour map (R245), equaliser registers of the other direction (R290), ring bases and policies (R385, R388) and the filter coefficients (R142, R146). -/
def resetSpecial (r : RegRow) (i j : Nat) : Option Nat :=
  if r.base = JCT_TMAP 0 then some (i * 0x01010101)
  else if r.base = STR_NBR 0 0 then
    some ((4*j+2) * 2^24 + (4*j+1) * 2^16 + (4*j) * 2^8 + (4*j-1))
  else if r.base = LN_TXEQ 0 ∧ i ≥ 8 then some 0
  else if r.base = LN_RXEQ 0 ∧ i < 8 then some 0
  else if r.base = SD_BASE 0 then some (0x101F0000 + 0x400 * i)
  else if r.base = SD_STATUS 0 then some (policyOf i)
  else if r.base = HB1A_C 0 0 ∨ r.base = HB2A_C 0 0 ∨ r.base = ACT_HB1A_C 0 0 ∨ r.base = ACT_HB2A_C 0 0 then
    some (ofS 18 (hbResetA.getD j 0))
  else if r.base = HB1B_C 0 0 ∨ r.base = HB2B_C 0 0 ∨ r.base = ACT_HB1B_C 0 0 ∨ r.base = ACT_HB2B_C 0 0 then
    some (ofS 18 (hbResetB.getD j 0))
  else if r.base = FIR_H 0 0 ∨ r.base = ACT_FIR_H 0 0 then some 4096
  else none
where
  /-- SD_STATUS.POLICY of siding n (R388): 0 WAIT, 1 DROP, 2 REFUSE. -/
  policyOf (n : Nat) : Nat :=
    if 16 ≤ n ∧ n ≤ 23 then 1 else if 32 ≤ n ∧ n ≤ 35 then 2
    else if n = 40 ∨ n = 41 ∨ n = 49 then 1 else 0

/-- The value a register takes from every reset that covers its domain (R10); 0 where nothing is listed (R8). (Log entry 5: DESIGN CHOICE, unsafe) -/
def regReset (a : Nat) : Nat :=
  match findReg a with
  | some (r, i, j) => (resetSpecial r i j).getD r.reset
  | none => 0

/-- The power domain whose resets a register takes; quadrant q's channel registers belong to PD(5 + q) (R63).
(Log entry 193: DESIGN CHOICE, unsafe; log entry 194: DESIGN CHOICE, unsafe; log entry 235: DESIGN CHOICE, unsafe) -/
def regDomain (a : Nat) : Nat :=
  match findReg a with
  | some (r, i, _) =>
    if r.base = AFE_CH_CFG 0 ∨ r.base = AFE_CH_STAT 0 then 5 + i / 64
    else if r.base = AFE_ADC_MAP 0 then 5 + i
    else r.pd
  | none => 1

end Sys2Proof.Machine
end

