-- ==== Sys2Proof/Machine/State.lean ====
section
/-! DEFINITION. The state of the hub as plain data: the register file, the memories, and the state that the chapters give
each block beside its registers. -/

namespace Sys2Proof.Machine

/-! ### Messages and sidings (17_control_protocol.md, 16_memory_and_protection.md) -/

/-- A command message: the siding it arrived in, its source (R411) and its header (R413). -/
structure Cmd where
  port : Nat
  src : Nat
  seq : Nat
  op : Nat
  flags : Nat
  target : Nat
  crc : Nat
  payload : List Byte
  deriving DecidableEq, Repr

/-- A response (R415). -/
structure Resp where
  src : Nat
  seq : Nat
  op : Nat
  status : Nat
  target : Nat
  crc : Nat
  disp : Nat
  payload : List Byte
  deriving DecidableEq, Repr

/-- An event (R424): its payload is 32-bit words (R425). -/
structure Ev where
  eseq : Nat
  code : Nat
  source : Nat
  words : List Nat
  crossing : Nat
  turn : Nat
  deriving DecidableEq, Repr

/-- What a siding entry stands for (R386): a message, an item the entry describes, a tower block or hash of a crossing and turn, an item that
lies in memory, an entry that software has added to a siding by its TAIL counter, an entry of the error log with the event of it (its code,
its words, and the words after the crossing and turn of the moment at which firmware takes it, R410), or an item that its consumer took out of
turn. -/
inductive Item where
  | cmd (c : Cmd)
  | resp (r : Resp) (stamp : Nat)
  | ev (e : Ev) (link cspi : Bool) (stamp : Nat)
  | blob (tag info : Nat) (bytes : List Byte)
  | block (crossing turn : Nat) (bytes : List Byte)
  | inMem (addr len tag info : Nat)
  | added (addr len tag info stamp : Nat)
  | log (entry : List Byte) (code : Nat) (words : List Nat) (rest : Option (List Nat))
  | gone
  deriving DecidableEq, Repr

/-- A command whose response waits for a later happening (R419). -/
structure Def where
  hdr : Hdr
  op : Nat
  arg : Nat
  payload : List Byte
  since : Nat
  deriving DecidableEq, Repr

/-- A command that the leader carries out on both hubs (R320): its number there, the frame at which this hub starts it, its own outcome and the
follower's status and payload. -/
structure Both where
  hdr : Hdr
  op : Nat
  n : Nat
  payload : List Byte := []
  due : Option Nat := none
  mine : Option (Nat × List Byte) := none
  theirs : Option (Nat × List Byte) := none
  deriving DecidableEq, Repr

/-- The mailbox: the stored responses, the last 8 consumed commands and the held commands of each source (R418), the sidings whose EV_LOG_LOST
is due (R388), the consumed commands that have not started, the deferred ones, the siding served last, the commands of source 0 that arrived
while it was paused, with what steps 1 to 3 of R416 find (R412), the number of the next forwarded command and whether none has been sent, the
commands carried out on both hubs, the responses that wait for the end of a switch-over gap (R328), the data that the CSPI port sent in the
last read transaction (R429). -/
structure Mbx where
  stored : List Resp := []
  recent : List (Nat × Nat × Nat) := []
  lostDue : List Nat := []
  running : List (Nat × Nat × Nat) := []
  held : List (Cmd × Nat) := []
  taken : List Cmd := []
  deferred : List Def := []
  lastServed : Nat := 35
  waiting : List (Cmd × Option Nat) := []
  stamp : Nat := 0
  fwdSeq : Nat := 0
  fwdFirst : Bool := true
  both : List Both := []
  gapHeld : List (Hdr × (Nat × (Nat × List Byte))) := []
  cspiOut : List Byte := []
  deriving DecidableEq, Repr

/-! ### Samples (03_charge_channels.md, 04_assay_partition.md) -/

/-- One full-rate sample of one channel: the linear value on the one-way interface (R93), its marker code (7: none),
range, SEAM and saturation, and beside them the value before marking, the deviation d of R95, the ADC code, and the
marker that would apply if the crossing carried no CAL (R124, R126). -/
structure Samp where
  lin : Int := 0
  mark : Nat := 7
  rng : Nat := 0
  seam : Bool := false
  sat : Bool := false
  v : Int := 0
  d : Int := 0
  code : Nat := 8192
  under : Nat := 7
  deriving DecidableEq, Repr

/-- What a crossing carries through the pipeline with its number (R35): the effective action performed (R41, R44), the
capture of the time counter at its tick, whether the Junction engine ran (R208), NFEAT of each engine's program (R222), and its samples,
keyed by 4 * channel + k; an unlisted sample is `{}`. -/
structure FrameRec where
  n : Nat := 0
  crossing : Nat := 0
  turn : Nat := 0
  blank : Bool := false
  cal : Bool := false
  calCrossing : Bool := false
  pulse : Bool := false
  prove : Bool := false
  hk : Bool := false
  pulseSet : Nat := 0
  flush : Nat := 0
  stamp : Nat := 0
  phase : Nat := 0
  unsealed : Bool := false
  warn : Bool := false
  holdover : Bool := false
  gap : Bool := false
  tin : Bool := false
  coded : Bool := false
  raw : Nat := 0
  mode : Nat := 1
  jct : Bool := false
  nfeat : List Nat := []
  samp : List (Nat × Samp) := []
  deriving DecidableEq, Repr

/-- A channel beside its registers: held range H, downward counter, range of the last non-marker sample (R70, R74), the
frames in which the reset switch is closed and in which recovery is marked (R79, R80, R83), the frame of an overload,
the trim ramp (R67), and the last non-marker samples with their positions 4 * frame + k, newest first (R147). -/
structure Chan where
  h : Nat := 0
  dn : Nat := 0
  last : Option Nat := none
  closeFrom : Nat := 0
  closeTo : Nat := 0
  recTo : Nat := 0
  enTo : Nat := 0
  ovl : Option Nat := none
  rampNext : Option Nat := none
  newAdc : Bool := false
  line : List (Nat × Int) := []
  deriving DecidableEq, Repr

/-- What the calibration of an ADC selected (R116): the comparator, the capacitor units of each upper bit weight and the gain trim. -/
structure AdcTrim where
  comparator : Nat := 0
  units : List Nat := []
  gain : Nat := 0
  deriving DecidableEq, Repr

/-- A quadrant's spare-ADC rotation beside AFE_ADC_MAP (R86-R88, R116-R118): the frame at which the resting ADC was
connected, the agreeing samples so far, its consecutive failures, whether a takeover or an abandonment waits for the
tick, the start of the resting ADC's calibration and its result, the period timer, and the trims of its 65 ADCs. -/
structure Quad where
  on : Bool := false
  conn : Option Nat := none
  agree : Nat := 0
  fails : Nat := 0
  calStart : Option Nat := some 0
  calDone : Bool := false
  newOfs : Int := 0
  timer : Nat := 0
  period : Nat := 64
  trims : List (Nat × AdcTrim) := []
  deriving DecidableEq, Repr

/-! ### The Assay partition (04_assay_partition.md) -/

/-- A bank store in progress or pending (R99): its KIND, bank, SEQ, the bank image programmed, whether it has been retried,
and the deferred command it answers. -/
structure Store where
  kind : Nat
  bank : Nat
  seq : Nat
  image : List (Nat × Nat)
  retried : Bool
  deriving DecidableEq, Repr

/-- The Assay partition: the serial memory (an unlisted byte reads 0xFF), the OTP count, the constants in use as a bank
image (an unlisted byte reads as the nominal constants), those in effect since the last tick, the digest computed while
the section loaded, the nonce with its time of issue and the OTP count sent with it, and the stores: the one that runs, and the constants as
they stood when the pending one was requested. -/
structure Assay where
  nor : List (Nat × Nat) := []
  otp : Nat := 0
  img : List (Nat × Nat) := []
  imgAct : List (Nat × Nat) := []
  fwDigest : List Byte := []
  engine : Nat := 0
  bankInUse : Option Nat := none
  validA : Bool := false
  validB : Bool := false
  seqA : Nat := 0
  seqB : Nat := 0
  sealSt : Nat := 2
  cause : Nat := 0
  sealEn : Bool := false
  sealEnRun : Nat := 0
  nonce : Option (Nat × (Nat × Nat)) := none
  storing : Option Store := none
  pending : Bool := false
  pendImg : List (Nat × Nat) := []
  stores : Nat := 0
  deferrals : Nat := 0
  storeFail : Nat := 0
  lastStoreXo : Option Nat := none
  raw : List (Nat × Nat) := []
  deriving DecidableEq, Repr

/-! ### Calibration (05_calibration.md) -/

/-- Accumulators of one channel in one range: pedestal samples (count, sum and sum of squares of d, sum of v) and the
sums of its valid injection cycles (R124, R125). -/
structure CalAcc where
  n : Nat := 0
  sd : Int := 0
  sdd : Int := 0
  sv : Int := 0
  cycles : List Int := []
  deriving DecidableEq, Repr

/-- A run of one quadrant: when it started, how it was asked for, the range, phase (0 pedestal, 1 injection, 2 repeats,
3 complete) and place in it, the cycle in progress, the channels whose cycle must be repeated, and what R129 judges: TNOW as the run started,
its sum and count (R130) and TNOW as the measurements were complete, and whether the supply warning was up. -/
structure CalRun where
  start : Nat
  named : Bool
  stepFree : Bool
  auto : Bool
  entry : Bool := false
  r : Nat := 0
  phase : Nat := 0
  idx : Nat := 0
  inCycle : Nat := 0
  sums : List (Nat × Int) := []
  spoiled : List Nat := []
  repeats : List (List Nat) := []
  ctrl : Nat := 0x3C103007
  tStart : Int
  tSum : Int := 0
  tCnt : Nat := 0
  tEnd : Int := 0
  warn : Bool := false
  acc : List (Nat × CalAcc) := []
  lastCross : Nat := 0
  lastTurn : Nat := 0
  ended : Option Nat := none
  deriving DecidableEq, Repr

/-- A quadrant's calibration beside its registers: TNOW (R121), the turns since the end of its last run, whether the
run of entry to PREPARE is still to come, whether CAL_RUN named it, and the run in progress. -/
structure CalQuad where
  tnow : Int := 0
  turns : Option Nat := none
  entry : Bool := false
  asked : Option Bool := none
  run : Option CalRun := none
  tnowAt : Nat := 0
  deriving DecidableEq, Repr

/-! ### The Timetable (02_frame_and_timetable.md) -/

/-- The frame tick beside the TT registers: crossing and turn at offset 0, the two-stage BLANK synchroniser, LAT_FRAMES in effect, whether the
counters still await a TURN marker (R37), whether one has come since PREPARE was entered or TURN_LEN changed (R433), the frames and XO cycles
counted for TT_FRATE, the clock monitor's count (R34), whether the PLL is locked to its source and is in holdover (R33), the TURN markers
received with the frames they mark (R271) and, of these, the frame at which HOLD is left (R434), the frame in which the pending bank swap was
asked for (R46), and whether the hub switches to the other lane at the last tick (R33). -/
structure Tt where
  crossing : Nat := 0
  turn : Nat := 0
  pin1 : Bool := false
  pin2 : Bool := false
  lat : Nat := 32
  await : Bool := true
  marked : Bool := false
  frames : Nat := 0
  xoWin : Nat := 0
  badClk : Nat := 0
  monXo : Nat := 0
  monFrames : Nat := 0
  locked : Bool := false
  pllHold : Bool := false
  markers : List (Nat × Nat) := []
  exitAt : Option Nat := none
  swapAsk : Nat := 0
  unlocked : Bool := false
  deriving DecidableEq, Repr

/-! ### The filter chain (06_filter_chain.md) -/

/-- From frame `from` onward a group's outputs use this configuration word and these coefficients (HB1A, HB1B, HB2A, HB2B,
h, FIR_ALIGN, as the 35 words of the group layout); `clear` says that the delay lines were cleared there (R154, R156). -/
structure Epoch where
  start : Nat
  cfg : Nat
  coef : List Int
  clear : Bool
  deriving DecidableEq, Repr

/-- A group's filter beside its registers: its epochs, newest first, and the frames at which a requested swap and a
configuration change take effect. -/
structure Flt where
  epochs : List Epoch := []
  swapAt : Option Nat := none
  cfgAt : Option (Nat × Nat) := none
  deriving DecidableEq, Repr

/-! ### Feature engines (07_feature_engines.md) -/

/-- The state of one run (R162): the frame of the crossing processed, the next instruction, the issue cycles used, each
lane's predicates, flags, slots, tower contribution and quality bits, and what TRIG has gathered. -/
structure FeRun where
  n : Nat
  pc : Nat
  cycles : Nat := 0
  entry1 : Bool := false
  preds : List (Nat × Bool) := []
  z : List (Nat × Bool) := []
  neg : List (Nat × Bool) := []
  satf : List (Nat × Bool) := []
  slots : List (Nat × Int) := []
  tower : List (Nat × Int) := []
  uq : List (Nat × Nat) := []
  trigLanes : Nat := 0
  tslot : Nat := 0
  tvalid : Bool := false
  ended : Bool := false
  deriving DecidableEq, Repr

/-- What a completed run hands to the output stage (R174-R176). -/
structure FeOut where
  n : Nat
  valid : Bool
  tower : List (Nat × Int)
  uq : List (Nat × Nat)
  satf : Nat
  trigLanes : Nat
  trigTime : Option Int
  block : List Byte
  deriving DecidableEq, Repr

/-- An engine beside its registers: lane registers V0-V15 keyed by 16 * lane + j, the run in progress, the frame of the
first crossing to process and of the last one, the selections of FE_CFG with the frames from which they apply (newest
first), and the last outputs (newest first). -/
structure Engine where
  v : List (Nat × Int) := []
  run : Option FeRun := none
  startAt : Option Nat := none
  stopAt : Option Nat := none
  cfgs : List (Nat × Nat) := []
  outs : List FeOut := []
  deriving DecidableEq, Repr

/-! ### The Junction engine (08_trigger_primitives.md) -/

/-- What the Junction engine holds for the crossing of frame `n`: the header's sources, its 64 tower words, its cluster
slots once clustering is `done`, whether towers and clusters are sent as zero, and BHASH (R204; none until computed,
some none when marked missing). -/
structure JRec where
  n : Nat
  crossing : Nat
  turn : Nat
  hubId : Nat
  towers : List Nat
  unsealed : Bool := false
  holdover : Bool := false
  warn : Bool := false
  marked : Bool := false
  degraded : Bool := false
  zero : Bool := false
  done : Bool := false
  slots : List Nat := []
  found : Nat := 0
  hash : Option (Option Nat) := none
  deriving DecidableEq, Repr

/-- The Junction engine beside its registers: the settings of R191 with the frames from whose tower sum they apply
(newest first; JCT_CTRL, then JCT_TMAP), its crossings (newest first), the frame of the last crossing whose word left the
pad, a checked image that waits for its crossing 0, and the frame from which a reloaded engine resumes (R200). -/
structure Jct where
  sets : List (Nat × List Nat) := []
  recs : List JRec := []
  lastSent : Nat := 0
  image : Option (Nat × List (Nat × Nat)) := none
  resume : Nat := 0
  deriving DecidableEq, Repr

/-- A carriage payload of TX6 as it left: crossing, turn and the 1472 bits. -/
structure TrigOut where
  crossing : Nat
  turn : Nat
  payload : Nat
  deriving DecidableEq, Repr

/-! ### Segmented records (09_segmented_records.md) -/

/-- An open capture: the frame of N_T, its SOURCES, sequence number and segment, REC_GCFG in effect, NFEAT, SKIPPED, the
value v of R219 with INTERP, T_trig in 1/256 ns, FIRST_AFTER_RESET, and the frames whose feature blocks reached S16+g. -/
structure Capture where
  n : Nat
  sources : Nat
  seq : Nat
  seg : Nat
  cfg : Nat
  nfeat : Nat
  skipped : Nat
  value : Int
  interp : Bool
  time : Nat
  first : Bool
  blocks : List Nat := []
  deriving DecidableEq, Repr

/-- A held refusal marker (R225, R226): first and last frame, the first crossing, sources, flags, time and count. -/
structure HeldMark where
  n : Nat
  last : Nat
  crossing : Nat
  turn : Nat
  sources : Nat
  flags : Nat
  time : Nat
  count : Nat
  deriving DecidableEq, Repr

/-- A group's record engine beside its registers: the configurations with the frames from which they apply (newest first; REC_GCFG,
REC_HOLDOFF, REC_PERIOD, REC_LED), the capture, the re-arm tick to come, the last re-arm whose hold-off has not ended and the triggers
evaluated since (R217), skipped triggers since the last item, whether the first item after a reset is to come, refusals since EV_REC_REFUSING,
the marker page with the markers written in it, the held marker, and the last frame evaluated. -/
structure RecGroup where
  cfgs : List (Nat × List Nat) := []
  cap : Option Capture := none
  rearmAt : Option Nat := none
  rearmed : Option Nat := none
  evals : Nat := 0
  skipped : Nat := 0
  first : Bool := true
  refusing : Option Nat := none
  page : Option (Nat × Nat) := none
  held : Option HeldMark := none
  evaluated : Option Nat := none
  deriving DecidableEq, Repr

/-- The record pool: segments in use with the items in them not yet sent, groups by index, the two stages of the TRIG_IN
synchroniser (R213), the groups that REC_TRIGGER named by frame, and the outcome of each evaluated frame (evaluated, recorded, refused, skipped). -/
structure Rec where
  segs : List (Nat × Nat) := []
  groups : List (Nat × RecGroup) := []
  tin1 : Bool := true
  tin2 : Bool := true
  cmds : List (Nat × Nat) := []
  results : List (Nat × (Nat × Nat × Nat × Nat)) := []
  deriving DecidableEq, Repr

/-! ### Time (12_time.md) -/

/-- The time counter and servo beside the TIME registers. `epoch` is EPOCH, `cnt` TIME_NS with its 32-bit fraction, `residue` what the
increments of R294 have left below it, in 2^-40 ns, `raw` the time since power-on without steps in 2^-40 ns; `now` is t(N) and `rawNow` the
latter at the tick, in 1/256 ns. Then: the pending step, the latches of R297 by master, the last Sync (SEQUENCE_ID, frame, t2), the last
Delay_Req (SEQUENCE_ID, frame, t3), the frames at which the next one is due and the last response was accepted, ms_last and D_f in 1/256 ns,
the frame of the last accepted Follow_Up, how many offsets in a row were within 1000 ps, the phase sum of R310, the target in 1/16 step, the
time of the last slew, when holdover began, whether a wrap or step awaits its epoch marker, the WRAP not yet reported (R312), the frame in
which the step was asked for, whether an offset has been accepted since power-on, the last mean phi in 1/16 step, the crossing and turn an
epoch marker carries, and whether the holdover of a return from DORMANT is still to be reported (in DORMANT: to be entered, R309). D_f is kept
with 16 more fraction bits. -/
structure Tm where
  epoch : Nat := 0
  cnt : Nat := 0
  residue : Nat := 0
  raw : Nat := 0
  now : Nat := 0
  rawNow : Nat := 0
  step : Option (Int ⊕ Nat) := none
  latches : List (Nat × (Nat × Nat)) := []
  sync : Option (Nat × Nat × Nat) := none
  dreq : Option (Nat × Nat × Option Nat) := none
  dreqSeq : Nat := 0
  dreqAt : Nat := 0
  respAt : Nat := 0
  ms : Option Int := none
  df : Option Int := none
  followAt : Nat := 0
  good : Nat := 0
  arrival : Option Nat := none
  phiSum : Nat := 0
  phiCnt : Nat := 0
  target : Option Nat := none
  acquire : Bool := false
  slewAt : Nat := 0
  holdXo : Nat := 0
  epochDue : Bool := false
  wrap : Int := 0
  stepAt : Nat := 0
  accepted : Bool := false
  mean : Nat := 0
  epochAt : Nat × Nat := (0, 0)
  slept : Bool := false
  deriving DecidableEq, Repr

/-! ### The casting codec (10_casting_codec.md) -/

/-- The settings an ingot takes when its first output sample arrives: PRED, FLUSH_ALLOW, the neighbour map, and whether it
is COLD, carries NBR_NEW and FIRST_AFTER_RESET (R239, R245). -/
structure IngotOpen where
  pred : Nat
  allow : Nat
  nbr : List Nat
  cold : Bool
  nbrNew : Bool
  first : Bool
  deriving DecidableEq, Repr

/-- One output sample: the frame of its crossing, the word index, the words of the 32 channels, the channels clamped
(R242), the tick at which the codec took it, the settings where it opens an ingot, and whether the ingot closes after it and with
FLUSHED (R236). -/
structure OutSamp where
  n : Nat
  j : Nat
  words : List Nat
  sat : Nat
  took : Nat
  opens : Option IngotOpen := none
  closes : Bool := false
  flushed : Bool := false
  deriving DecidableEq, Repr

/-- A channel's history at an ingot boundary: the words since the latest COLD ingot, newest first, and E at the last two
positions (R244). -/
structure ChanHist where
  words : List Nat := []
  before : Option (Int × Int) := none
  deriving DecidableEq, Repr

/-- A closed ingot that is not yet committed: SEQ, its samples, flags and settings, the tick at which its last word came, the histories
before it, its coded body, whether a self-check of it is to come and was requested by command, and whether it is stored raw. -/
structure Shut where
  seq : Nat
  samples : List OutSamp
  cold : Bool
  opened : IngotOpen
  flushed : Bool
  closedAt : Nat
  starts : List ChanHist
  coded : List Byte
  raw : Bool
  check : Bool := false
  asked : Bool := false
  deriving DecidableEq, Repr

/-- A group's codec beside its registers: samples not yet closed into an ingot, how many follow the last closing one, the
closed ingots, the histories, what makes the next ingot COLD, closures of values 1 and 2 in the turn (R237),
ingots since the last checked one, whether a self-check is asked for, and whether an ingot has closed since it was (R260). -/
structure Codec where
  inbox : List OutSamp := []
  count : Nat := 0
  allow : Nat := 2
  shuts : List Shut := []
  hist : List ChanHist := List.replicate 32 {}
  coldNext : Bool := true
  nbrNew : Bool := false
  first : Bool := true
  gapCold : Bool := false
  turn : Nat := 0
  flushes : Nat := 0
  every : Nat := 0
  asked : Bool := false
  met : Bool := false
  deriving DecidableEq, Repr

/-- A STREAM_FLUSH in progress: the frame of C, the groups named, those decided, HONOURED and SKIPPED. -/
structure FlushReq where
  n : Nat
  mask : Nat
  decided : Nat := 0
  honoured : Nat := 0
  skipped : Nat := 0
  deriving DecidableEq, Repr

/-! ### Penor links (11_penor_links.md) -/

/-- An item on its way out on a TX lane: its TYPE (R270), bytes, GROUP and SEQ, the segment and address of a record, the key of an ingot
in the elastic buffer, the bytes already assembled, the frame in which its first fragment leaves, whether it is sent
again, and the SEQUENCE_ID of a time message whose departure is captured. -/
structure TxItem where
  typ : Nat
  bytes : List Byte
  group : Nat := 0
  seq : Nat := 0
  seg : Nat := 0
  addr : Nat := 0
  key : Nat := 0
  pos : Nat := 0
  firstAt : Option Nat := none
  again : Bool := false
  timed : Option Nat := none
  deriving DecidableEq, Repr

/-- A carriage assembled for the frame `leaves` (R285): TYPE, PTR, payload, and the items whose last byte it carries. -/
structure Asm where
  leaves : Nat
  typ : Nat
  ptr : Nat
  payload : List Byte
  done : List TxItem
  deriving DecidableEq, Repr

/-- A lane beside its registers: the XO time and frame of entry to its state, carriages since BITLOCK, precoder setting and
BLIND_LIMIT in effect, last level (R267), the generator of training and of patterns (of a receiver in PATTERN 2^31 times the pattern and its
register, 0 while it is not aligned, R290), back-off exponent in use (R278), own and partner RX_READY,
CAPS received here and reported by the partner, own CAPS_ACK sent (R276, R277), the receiver state reported by the far end (R273), CONTROL sent to
the far transmitter, CONTROL received and STATUS returned (R275); of a receiver the last CSEQ, valid carriages with
consecutive CSEQ, consecutive invalid ones, by TYPE (SERVICE, then CONTROL) the incomplete item and the capture of the carriage in which
it began, none once a step of the counter has come between (R269, R270, R301, R302); of a transmitter its items in queue order by
TYPE, items completed with the frame of their last carriage (R280), carriages assembled, and the levels that leave in
the present frame. -/
structure Lane where
  since : Nat := 0
  entered : Nat := 0
  count : Nat := 0
  pre : Bool := true
  blind : Nat := 1024
  level : Nat := 0
  prbs : Nat := 0x15A3
  wait : Nat := 0
  ready : Bool := false
  farReady : Bool := false
  ack : Bool := false
  ackSent : Bool := false
  farAck : Bool := false
  far : Nat := 0
  ctl : Nat := 0
  req : Nat := 0
  stat : Nat := 0
  lastSeq : Option Nat := none
  good : Nat := 0
  bad : Nat := 0
  part : Option (List Byte) := none
  began : Option Nat := none
  ctlPart : Option (List Byte) := none
  ctlBegan : Option Nat := none
  stream : List TxItem := []
  record : List TxItem := []
  service : List TxItem := []
  kept : List (Nat × TxItem) := []
  asm : List Asm := []
  out : Option Nat := none
  deriving DecidableEq, Repr

/-- An ingot in the stream elastic buffer: its key, place, bytes held, and the frame at which its space is freed. -/
structure Stored where
  key : Nat
  addr : Nat
  size : Nat
  freeAt : Option Nat := none
  deriving DecidableEq, Repr

/-- The stream marshal: the service lanes of the last ticks (newest first, 7 for none), service messages and ingots that wait for
a lane, record items to be sent again, what the elastic buffer holds, its next key and place, the CAUSE under which each
group's ingots are replaced until its next COLD ingot (R253), the set of lanes that D was computed for, and the group the
Dispatcher served last (R228). -/
structure Msh where
  svc : List Nat := []
  service : List TxItem := []
  pool : List TxItem := []
  again : List TxItem := []
  store : List Stored := []
  key : Nat := 1
  place : Nat := 0
  chain : List (Nat × Nat) := []
  lanes : Nat := 0
  served : Nat := 7
  deriving DecidableEq, Repr

/-! ### Joined pairs (13_joined_pairs.md) -/

/-- The pair logic beside its registers: frames of the last valid pair carriage and of how many with the other SIDE since
PAIR_JOIN, whether the CAPS on RX1 fitted, the frames of a switch-over gap, the frame at which a revert or a PAIR_LEAVE acts,
the XO time since which the hub has been HEALTHY with its partner seen, since which it leads, whether it leads by its own
revert, the frames of the last heartbeat and Sync and the Sync's SEQUENCE_ID, boundary blocks and own hashes by frame, mismatches
in the turn with the first crossing, whether the first is still to be latched, the partner's PHASE, margins of the last
blocks, the incomplete item of the service area with its capture, the XO time at which TX7 last sent a pair carriage, the
partner's mode as last reported, whether a conflict of R326 stands, and whether a gap has ended whose SWITCHOVER_GAP_END is to come. -/
structure Pr where
  seenAt : Option Nat := none
  valid : Nat := 0
  capsOk : Bool := false
  gapFrom : Option Nat := none
  gapTo : Nat := 0
  revertAt : Option Nat := none
  leaveAt : Option Nat := none
  healthySince : Option Nat := none
  leadSince : Nat := 0
  byRevert : Bool := false
  hbAt : Nat := 0
  syncAt : Nat := 0
  syncSeq : Nat := 0
  blocks : List (Nat × List Nat) := []
  hashes : List (Nat × Option Nat) := []
  shadowCnt : Nat := 0
  shadowFirst : Nat := 0
  latchFirst : Bool := true
  farPhase : Nat := 0
  margins : List Int := []
  part : Option (List Byte) := none
  began : Option Nat := none
  sentXo : Nat := 0
  farMode : Nat := 2
  conflict : Bool := false
  gapDone : Bool := false
  deriving DecidableEq, Repr

/-! ### Monitoring and loops (14_monitoring_and_loops.md) -/

/-- A sequencer beside its registers: whether a pass is in progress, its next entry, MODE and LEN as the pass took them, the XO
time of the next periodic start, and whether MON_SEQ_RUN has asked for a pass. -/
structure SeqSt where
  pass : Bool := false
  mode : Nat := 0
  idx : Nat := 0
  len : Nat := 1
  next : Nat := 0
  req : Bool := false
  deriving DecidableEq, Repr

/-- The entry that holds the converter (R351): its words as they stood at its start, the phase, whether it waits for the source
to settle, the XO time at which its next sampling starts (R347), conversions to discard and to take, their sum, the first mean of a chop, the
flags gathered, and the result once all conversions are done. -/
structure HkRun where
  seq : Nat
  entry : Nat
  a : Nat
  b : Nat
  phase : Nat := 0
  waiting : Bool := false
  next : Nat := 0
  discard : Nat := 0
  left : Nat := 0
  sum : Int := 0
  first : Int := 0
  settling : Bool := false
  exc : Bool := false
  ovr : Bool := false
  warn : Bool := false
  result : Option Int := none
  deriving DecidableEq, Repr

/-- A loop beside its registers: the XO time of its last 10 ms update, whether one is to follow a gap, the conditions of R362 that held at
the last update, the XO time of the update whose readback is to come, the consecutive low and deviating checks, and when LOOP_FW was written. -/
structure LoopSt where
  at_ : Nat := 0
  missed : Bool := false
  cond : Nat := 0
  readOf : List Nat := []
  low : Nat := 0
  dev : Nat := 0
  fwAt : Option Nat := none
  deriving DecidableEq, Repr

/-- Monitoring beside its registers: sequencers, the entry in progress, recent runs of the settle timers (start and end in
XO time; key 0 and 1 the sources, 2 the crosspoint), times for which a source showed a fault (key 3 and 4) and for which its settle timer
ran with the source enabled (key 5 and 6), consecutive in-band results and the last usable result (time, VALUE,
OVR) by 16 * s + e, and the loops. -/
structure Mon where
  seqs : List (Nat × SeqSt) := []
  run : Option HkRun := none
  timers : List (Nat × List (Nat × Nat)) := []
  inBand : List (Nat × Nat) := []
  good : List (Nat × (Nat × Int × Bool)) := []
  loops : List (Nat × LoopSt) := []
  deriving DecidableEq, Repr

/-! ### The LED pulser (15_led_pulser.md) -/

/-- A burst fired and not yet judged: its frame, crossing and turn, the pattern (8: a proving pulse of `row`), the settings it fired with,
ADJ, the rows that fire, the end of its last row (1/256 ns of the time since power-on), and whether its regulation pauses. -/
structure Burst where
  n : Nat
  crossing : Nat
  turn : Nat
  pat : Nat
  row : Nat := 0
  eff : List (Nat × Nat)
  adj : Nat := 32768
  rows : List Nat
  ends : Nat
  paused : Bool
  deriving DecidableEq, Repr

/-- The pulser beside its registers: the LED registers in effect (R381), rows whose faults are to be cleared with the next
settings, bursts not yet judged, failed proofs in a row by LED (16 * r + c) and by row (256 + r), locked and high-headroom
bursts in a row (pattern p; key 8 for headroom). -/
structure Led where
  eff : List (Nat × Nat) := []
  clear : Nat := 0
  bursts : List Burst := []
  ends : Nat := 0
  fails : List (Nat × Nat) := []
  runs : List (Nat × Nat) := []
  deriving DecidableEq, Repr

/-! ### Memory and protection (16_memory_and_protection.md) -/

/-- The memory controller beside its registers: the scrub in progress (memory, WRITE_BACK, START, LENGTH), how often the buckets have
leaked, and the inverted bits of the damaged word of memory 13, the PD2 local stores, which no address reaches (R395; 0: none). -/
structure MemSt where
  scrub : Option (Nat × (Bool × (Nat × Nat))) := none
  leaks : Nat := 0
  localBad : Nat := 0
  deriving DecidableEq, Repr

/-! ### Power, reset and bring-up (18_power_reset_bringup.md) -/

/-- A mode change that has been requested: the mode, when it takes effect (0 next tick, 1 crossing 0 of the next turn, 2 the crossing
a TURN marker names, 3 out of the present frame, 4 under R433) and CAUSE of EV_MODE. -/
structure Change where
  goal : Nat
  kind : Nat
  cause : Nat
  deriving DecidableEq, Repr

/-- The reset and mode logic beside its registers: sources of the reset in progress and those still held, domains whose switch is closed, the
XO time at which option loading began, when each domain was released (frame, XO time), the XO time at which the supply warning latched and the
last at which a rail was below its warning level, whether a software reset was asked for, the frame of a lock-up, the XO time of the last kick
and of the last switching of a quadrant or entry that powers them, the mode change to come, the XO time of the MODE_SET that waits for its
target, and the image load (IMAGE_BYTES, bytes received). -/
structure Pw where
  srcs : Nat := 1
  held : Nat := 1
  powered : Nat := 0x1F
  loadAt : Option Nat := none
  relAt : List (Nat × (Nat × Nat)) := []
  warnAt : Nat := 0
  belowAt : Nat := 0
  soft : Bool := false
  lockAt : Option Nat := none
  kickAt : Nat := 0
  quadAt : Nat := 0
  chg : Option Change := none
  prepFrom : Option Nat := none
  img : Option (Nat × Nat) := none
  deriving DecidableEq, Repr

/-- A staging image of ENGINE_LOAD (R503): the bytes so far and where the next chunk must start. -/
structure Staging where
  bytes : List (Nat × Nat) := []
  next : Nat := 0
  deriving DecidableEq, Repr

/-- Everything the spec gives the hub but the queue of waiting commands. `regs` is the register file (an unlisted address reads as its reset
value), `act` the register file as it stood at the last frame tick, `mem` the on-chip memories by address (an unlisted byte reads 0), `ecc`
the damaged code words by address with their inverted bits (R390, R395), `free` the model's own counter of free values, `sid` the items of
each siding, `held` those a WAIT policy keeps (R388), and `shadow` the turns that a read of a crossing register latches into its turn register
(R158, R186, R209, R232, R337, R438). `frame` counts frames, `xo` the ticks of the reference oscillator; `hist` holds the records of recent
frames, `chans` and `quads` the state of the front end by channel and quadrant, `asy` the Assay partition, `calQ` the calibration by quadrant,
`flts` the filters and `filtFrom` the first frame whose samples they take since they last stood in reset or unpowered, `engines` the front-end
engines and `staging` their staging words, `jct` the Junction, `recs` the record writer, `tm` the timestamps, `codecs` and `flushes` the
stream codecs, `lanes` the lanes and `msh` the Marshal, `pr` the pair, `mon` the monitor, `led` the LED pulser, `mc` the memory controllers
and `pw` power, clocks and reset. `tx6` and `tx7` are what the lanes TX6 and TX7 carry in the present frame. A part's own fields are described
at its type. -/
structure Hub where
  frame : Nat := 0
  xo : Nat := 0
  regs : List (Nat × Nat) := []
  act : List (Nat × Nat) := []
  mem : List Host.Cell := []
  ecc : List (Nat × Nat) := []
  free : Nat := 0
  sid : List (Nat × List Item) := []
  held : List (Nat × Item) := []
  mbx : Mbx := {}
  tt : Tt := {}
  hist : List FrameRec := []
  chans : List (Nat × Chan) := []
  quads : List (Nat × Quad) := []
  asy : Assay := {}
  calQ : List (Nat × CalQuad) := []
  flts : List (Nat × Flt) := []
  filtFrom : Nat := 0
  engines : List (Nat × Engine) := []
  staging : List (Nat × Staging) := []
  shadow : List (Nat × Nat) := []
  jct : Jct := {}
  tx6 : Option TrigOut := none
  recs : Rec := {}
  tm : Tm := {}
  codecs : List (Nat × Codec) := []
  flushes : List FlushReq := []
  lanes : List (Nat × Lane) := []
  msh : Msh := {}
  tx7 : Option (List Byte) := none
  pr : Pr := {}
  mon : Mon := {}
  led : Led := {}
  mc : MemSt := {}
  pw : Pw := {}
  deriving DecidableEq, Repr

/-- Why the hub stops. -/
inductive Fault where
  /-- Raised by no command: the spec names no condition under which the hub stops taking commands and events, so the
  constructor is never reached (safe). -/
  | stopped
  deriving DecidableEq, Repr

/-- Why a command is refused by the model. -/
inductive Refusal where
  /-- Raised by an arm of exec whose command has no meaning yet (safe). -/
  | notModelled (mnemonic : String)
  deriving DecidableEq, Repr

/-- The state of the block: the hub, and the commands that wait, first in first out. -/
structure State extends Hub where
  pending : List Instr := []
  deriving DecidableEq, Repr

/-- The hub right after a power-on reset (R447, R10): every register at its reset value and no command waiting.
(Log entry 6: DESIGN CHOICE, unsafe) -/
def State.reset : State := {}

end Sys2Proof.Machine
end

