-- ==== Sys2Proof/Machine/Ops.lean ====
section
/-! DEFINITION. The named operations of the hub over its registers, memories, sidings, events and responses. -/

namespace Sys2Proof.Machine

/-! ### Registers -/

/-- The content of a register. -/
def Hub.reg (s : Hub) (a : Nat) : Nat := tget regReset s.regs a

/-- Put 32 bits into a register. -/
def Hub.setReg (s : Hub) (a v : Nat) : Hub := { s with regs := tset regReset s.regs a (v % 2 ^ 32) }

/-- Field [hi:lo] of a register. -/
def Hub.fld (s : Hub) (a hi lo : Nat) : Nat := bits (s.reg a) hi lo

/-- Put a value into field [hi:lo] of a register. -/
def Hub.setFld (s : Hub) (a hi lo v : Nat) : Hub := s.setReg a (putBits (s.reg a) hi lo v)

/-- Bit `i` of a register. -/
def Hub.bit (s : Hub) (a i : Nat) : Bool := bitAt (s.reg a) i

/-- Put a bit of a register. -/
def Hub.setBit (s : Hub) (a i : Nat) (b : Bool) : Hub := s.setFld a i i (b2n b)

/-- Field [hi:lo] of a register as it stood at the last frame tick. (Log entry 20: DEDUCED, safe) -/
def Hub.afld (s : Hub) (a hi lo : Nat) : Nat := bits (tget regReset s.act a) hi lo

/-- Bit `i` of a register as it stood at the last frame tick. -/
def Hub.abit (s : Hub) (a i : Nat) : Bool := bitAt (tget regReset s.act a) i

/-- Add 1 to a counter field, saturating at its width. -/
def Hub.incSat (s : Hub) (a hi lo : Nat) : Hub := s.setFld a hi lo (satInc (hi + 1 - lo) (s.fld a hi lo))

/-- Add `k` to a counter field, saturating at its width. -/
def Hub.addSat (s : Hub) (a hi lo k : Nat) : Hub := s.setFld a hi lo (satU (hi + 1 - lo) (s.fld a hi lo + k))

/-- Add 1 to a counter field, wrapping at its width. -/
def Hub.incWrap (s : Hub) (a hi lo : Nat) : Hub := s.setFld a hi lo (wrapInc (hi + 1 - lo) (s.fld a hi lo))

/-! ### Modes, crossings and time limits -/

/-- Modes of R431. -/
def mDORMANT : Nat := 0
def mLOADING : Nat := 1
def mIDLE : Nat := 2
def mPREPARE : Nat := 3
def mRUN : Nat := 4
def mPULSE : Nat := 5
def mHOLD : Nat := 6
def mTEST : Nat := 7

/-- The current mode. -/
def Hub.mode (s : Hub) : Nat := s.fld SYS_MODE 2 0

/-- The current mode is one of these. -/
def Hub.modeIn (s : Hub) (ms : List Nat) : Bool := ms.contains s.mode

/-- Gotchapel runs: every mode with PD1 powered in which the boot ROM does not (R501). -/
def Hub.fwRuns (s : Hub) : Bool := s.mode ≥ mIDLE

/-- TURN_LEN (R36). -/
def Hub.turnLen (s : Hub) : Nat := s.fld TT_TURN_LEN 15 0

/-- `k` frames after crossing `c` of turn `t` (R11). -/
def Hub.addCross (s : Hub) (c t k : Nat) : Nat × Nat :=
  let l := max 1 s.turnLen
  ((c + k) % l, (t + (c + k) / l) % 2 ^ 32)

/-- Frames from now to the tick that begins crossing 0 of the next turn. -/
def Hub.toTurn (s : Hub) : Nat := max 1 (s.turnLen - s.tt.crossing)

/-- XO cycles in one microsecond and one millisecond (the XO runs at 40 MHz, R32). -/
def xoUs : Nat := 40
def xoMs : Nat := 40000

/-- `k` frames before crossing `c` of turn `t`, counting back with the TURN_LEN now set (R11). -/
def Hub.subCross (s : Hub) (c t k : Nat) : Nat × Nat :=
  let l := max 1 s.turnLen
  if k ≤ c then (c - k, t) else ((c + l * (k / l + 1) - k) % l, (t + 2 ^ 32 - (k - c + l - 1) / l) % 2 ^ 32)

/-- The crossing and turn of frame `n`: as recorded while the pipeline holds it, else counted from now. -/
def Hub.crossAt (s : Hub) (n : Nat) : Nat × Nat :=
  match s.hist.find? (·.n == n) with
  | some r => (r.crossing, r.turn)
  | none => if n ≤ s.frame then s.subCross s.tt.crossing s.tt.turn (s.frame - n) else s.addCross s.tt.crossing s.tt.turn (n - s.frame)

/-- The turn kept for a register that a read of its crossing register latches. -/
def Hub.shadowTurn (s : Hub) (a : Nat) : Nat := tget (fun _ => 0) s.shadow a
def Hub.setShadow (s : Hub) (a v : Nat) : Hub := { s with shadow := tset (fun _ => 0) s.shadow a v }

/-- A read of a crossing register latches its turn. -/
def Hub.latchTurn (s : Hub) (a : Nat) : Hub := s.setReg a (s.shadowTurn a)

/-- Two-word payload of a setting command: CROSSING and TURN (R90). -/
def crossPayload (c t : Nat) : List Byte := leBytes 2 c ++ [0, 0] ++ leBytes 4 t

/-- The channel, quadrant, calibration, filter and engine records by index. -/
def Hub.chan (s : Hub) (n : Nat) : Chan := tget (fun _ => {}) s.chans n
def Hub.setChan (s : Hub) (n : Nat) (c : Chan) : Hub := { s with chans := tset (fun _ => {}) s.chans n c }
def Hub.quad (s : Hub) (q : Nat) : Quad := tget (fun _ => {}) s.quads q
def Hub.setQuad (s : Hub) (q : Nat) (x : Quad) : Hub := { s with quads := tset (fun _ => {}) s.quads q x }
def Hub.calq (s : Hub) (q : Nat) : CalQuad := tget (fun _ => {}) s.calQ q
def Hub.setCalq (s : Hub) (q : Nat) (x : CalQuad) : Hub := { s with calQ := tset (fun _ => {}) s.calQ q x }
def Hub.flt (s : Hub) (g : Nat) : Flt := tget (fun _ => {}) s.flts g
def Hub.setFlt (s : Hub) (g : Nat) (x : Flt) : Hub := { s with flts := tset (fun _ => {}) s.flts g x }
def Hub.eng (s : Hub) (g : Nat) : Engine := tget (fun _ => {}) s.engines g
def Hub.setEng (s : Hub) (g : Nat) (x : Engine) : Hub := { s with engines := tset (fun _ => {}) s.engines g x }

/-- A lane's state beside its registers. -/
def Hub.lane (s : Hub) (n : Nat) : Lane := tget (fun _ => {}) s.lanes n
def Hub.setLane (s : Hub) (n : Nat) (x : Lane) : Hub := { s with lanes := tset (fun _ => {}) s.lanes n x }

/-- Fold a state change over a list. -/
def Hub.each {α : Type} (s : Hub) (xs : List α) (f : Hub → α → Hub) : Hub := xs.foldl f s

/-- Fold a state change over the set bits of a mask of `n` bits, lowest first. -/
def Hub.eachBit (s : Hub) (n mask : Nat) (f : Hub → Nat → Hub) : Hub :=
  (List.range n).foldl (fun s i => if bitAt mask i then f s i else s) s

/-- The last Delay_Req still waits for its lane: neither t3 nor t4 has been taken. -/
def Hub.dreqWaits (s : Hub) : Bool :=
  match s.tm.dreq with
  | some (q, _, none) => [0, 7].all fun n =>
      ((s.lane n).service ++ (s.lane n).asm.flatMap (·.done)).all fun x => x.timed != some q || !x.firstAt.any (· < s.frame)
  | _ => false

/-- Measurements that straddle a step of the counter or a change of time-source lane are discarded, those of messages still incomplete
among them (R302); a Delay_Req of which nothing has left straddles nothing. (Log entry 252: DEDUCED, unsafe) -/
def Hub.dropMeasurements (s : Hub) : Hub :=
  let s := s.each (List.range 11) fun s n => s.setLane n { s.lane n with began := none, ctlBegan := none }
  { s with tm := { s.tm with sync := none, dreq := if s.dreqWaits then s.tm.dreq else none, ms := none, arrival := none }
           pr := { s.pr with began := none } }

/-! ### Free values -/

/-- Draw a fresh free word. (Log entry 36: DESIGN CHOICE, safe) -/
def Hub.drawWord (s : Hub) : Nat × Hub := ((Config.freeWord s.free).toNat, { s with free := s.free + 1 })

/-! ### Memories (R24, R25, R390-R395) -/

/-- The memory of R391 an address lies in, with its code-word width in bytes; none outside the on-chip SRAM. -/
def memoryAt (a : Nat) : Option (Nat × Nat) :=
  if 0x10000000 ≤ a ∧ a < 0x10200000 then some (0, 8)
  else if 0x20000000 ≤ a ∧ a < 0x21000000 then some (1, 8)
  else if 0x30000000 ≤ a ∧ a < 0x30200000 then some (2, 8)
  else if 0x38000000 ≤ a ∧ a < 0x38008000 then some (3 + (a - 0x38000000) / 0x1000, 4)
  else if 0x38008000 ≤ a ∧ a < 0x38009000 then some (11, 4)
  else if 0x38009000 ≤ a ∧ a < 0x3800B000 then some (12, 4)
  else none

/-- First byte, size and code-word width of memory m of R391; none for the memories that have no address. -/
def memorySpan (m : Nat) : Option (Nat × Nat × Nat) :=
  if m = 0 then some (0x10000000, 0x200000, 8)
  else if m = 1 then some (0x20000000, 0x1000000, 8)
  else if m = 2 then some (0x30000000, 0x200000, 8)
  else if 3 ≤ m ∧ m ≤ 10 then some (0x38000000 + 0x1000 * (m - 3), 0x1000, 4)
  else if m = 11 then some (0x38008000, 0x1000, 4)
  else if m = 12 then some (0x38009000, 0x2000, 4)
  else none

/-- What a byte of memory that nothing has written reads as (see the assumption log). (Log entry 4: DESIGN CHOICE, unsafe) -/
def memDefault (_ : Nat) : Byte := 0

/-- One byte of memory as it was last written. -/
def Hub.byte (s : Hub) (a : Nat) : Byte :=
  if a < 0x10000 then Config.bootRom a else tget memDefault s.mem a

/-- `n` bytes of memory from an address upward. -/
def Hub.bytes (s : Hub) (a : Nat) : Nat → List Byte
  | 0 => []
  | n + 1 => s.byte a :: s.bytes (a + 1) n

/-- A little-endian word of memory. -/
def Hub.memWord (s : Hub) (a : Nat) : Nat := leNat (s.bytes a 4)

/-- The canonical form of memory: addresses strictly rising, no entry equal to what an unlisted address reads as.
(Log entry 4: DESIGN CHOICE, unsafe) -/
def memWf (m : List Host.Cell) : Bool := twf memDefault m

/-- Store one byte. -/
def memPut (m : List Host.Cell) (a : Nat) (b : Byte) : List Host.Cell := tset memDefault m a b

/-- Store bytes from an address upward. -/
def memPuts (m : List Host.Cell) (a : Nat) : List Byte → List Host.Cell
  | [] => m
  | b :: bs => memPuts (memPut m a b) (a + 1) bs

/-- How many of the low `n` bits of `x` are set. -/
def popCount : Nat → Nat → Nat
  | 0, _ => 0
  | n + 1, x => popCount n (x / 2) + x % 2

/-- What SECDED finds in a code word with these inverted bits (R390). -/
inductive EccOutcome where
  | clean | corrected | uncorrectable
  deriving DecidableEq, Repr

/-- The check of one code word. -/
def eccCheck (mask : Nat) : EccOutcome :=
  match popCount 72 mask with
  | 0 => .clean
  | 1 => .corrected
  | _ => .uncorrectable

/-- The inverted bits of the code word at a word address. -/
def Hub.eccAt (s : Hub) (w : Nat) : Nat := tget (fun _ => 0) s.ecc w

/-- Set the inverted bits of a code word. -/
def Hub.setEcc (s : Hub) (w mask : Nat) : Hub := { s with ecc := tset (fun _ => 0) s.ecc w mask }

/-- The bits that an armed ECC_FLIP inverts in a write of the code word at `w` in memory `m` (R395); none if it does
not apply. -/
def Hub.flipFor (s : Hub) (m w width : Nat) : Option Nat :=
  if s.bit ECC_FLIP 31 ∧ s.fld ECC_FLIP 19 16 = m ∧
      (¬ s.bit ECC_FLIP 30 ∨ s.reg ECC_FLIP_ADDR / width * width = w) then
    let a := s.fld ECC_FLIP 7 0
    let b := s.fld ECC_FLIP 15 8
    some (2 ^ a ^^^ (if b = 0xFF then 0 else 2 ^ b))
  else none

/-- Store a code word clean, or with the bits of an armed flip inverted, which disarms it (R395). -/
def Hub.storeCode (s : Hub) (m w width : Nat) : Hub :=
  match s.flipFor m w width with
  | some mask => (s.setEcc w mask).setBit ECC_FLIP 31 false
  | none => s.setEcc w 0

/-- Write the bytes that fall in one code word (R394, R395), with what the read of a narrower write finds: an uncorrectable
error cancels the write. -/
def Hub.putCodeWord (s : Hub) (a : Nat) (bs : List Byte) : Hub × EccOutcome :=
  match memoryAt a with
  | none => (s, .clean)
  | some (m, width) =>
    let w := a / width * width
    let found := if bs.length < width then eccCheck (s.eccAt w) else .clean
    if found = .uncorrectable then (s, found)
    else ({ s with mem := memPuts s.mem a bs }.storeCode m w width, found)

/-- Write bytes to memory, code word by code word; the list collects the words in which the read of a narrower write found an
error. `fuel` bounds the number of code words. -/
def Hub.writeMemFuel : Nat → Hub → Nat → List Byte → Hub × List (Nat × EccOutcome)
  | 0, s, _, _ => (s, [])
  | _, s, _, [] => (s, [])
  | f + 1, s, a, bs =>
    let width := match memoryAt a with | some (_, w) => w | none => 8
    let n := width - a % width
    let (s, found) := s.putCodeWord a (bs.take n)
    let (s, bad) := Hub.writeMemFuel f s (a + n) (bs.drop n)
    (s, if found = .clean then bad else (a / width * width, found) :: bad)

/-- Write bytes that fill whole code words. -/
def Hub.writeMem (s : Hub) (a : Nat) (bs : List Byte) : Hub := (Hub.writeMemFuel (bs.length + 1) s a bs).1

/-! ### Sidings (R385-R389) -/

/-- The items of a siding, oldest first. -/
def Hub.items (s : Hub) (n : Nat) : List Item := tget (fun _ => []) s.sid n

/-- COUNT of a siding (R387). -/
def Hub.count (s : Hub) (n : Nat) : Nat := (s.fld (SD_TAIL n) 15 0 + 2 ^ 16 - s.fld (SD_HEAD n) 15 0) % 2 ^ 16

/-- Round up to a multiple of 4. -/
def up4 (n : Nat) : Nat := (n + 3) / 4 * 4

/-- LEN, TAG and INFO of an entry as its producer forms them at crossing `c` on the siding's lane (R386); bits [7:0] of INFO name
the producer's kind. LEN counts the padding, which belongs to a message (R272, R413). -/
def Item.lenTagInfo (c lane : Nat) : Item → Nat × Nat × Nat
  | .cmd m => (20 + up4 m.payload.length, m.seq, c * 65536 + lane * 256 + 0x20)
  | .resp r _ => (20 + up4 r.payload.length, r.seq, c * 65536 + lane * 256 + 0x21)
  | .ev e _ _ _ => (20 + 4 * e.words.length, 0, c * 65536 + lane * 256 + 0x22)
  | .blob tag info b => (b.length, tag, info)
  | .block crossing _ b => (b.length, 0, crossing * 65536 + lane * 256)
  | .inMem _ len tag info | .added _ len tag info _ => (len, tag, info)
  | .log e _ _ _ => (e.length, 0, 0)
  | .gone => (0, 0, 0)

/-- The group or lane whose items a siding holds: S0 to S23 a group; the command sidings RX0, RX2 and RX1, S38, S48 and S50 TX7, S49 RX1, S24 + n
TXn; 0 where there is none. -/
def sidingLane (n : Nat) : Nat :=
  if n < 24 then n % 8 else if n = 32 then 8 else if n = 33 then 10 else if n = 35 ∨ n = 49 then 9 else if n = 38 ∨ n = 48 ∨ n = 50 ∨ n = 51 then 7
  else if n < 32 then n - 24 else 0

/-- The 16 bytes of an entry: the S41 layout is the item itself (R407). The code of a kind is the producer's (R386).
(Log entry 18: DESIGN CHOICE, safe) -/
def sidEntry (n t c : Nat) (it : Item) : List Byte :=
  match it with
  | .log e _ _ _ => e.take 16
  | it =>
    let addr := match it with | .inMem a _ _ _ | .added a _ _ _ _ => a | _ => (Config.sidingAddr n t).toNat
    let (l, tag, info) := it.lenTagInfo c (sidingLane n)
    leBytes 4 addr ++ leBytes 4 l ++ leBytes 4 tag ++ leBytes 4 (putBits info 7 0 (Config.sidingKind n (info % 256)).toNat)

/-- Address of the ring entry at counter value t of siding n (R385). -/
def ringAddr (n t : Nat) : Nat := 0x101F0000 + 0x400 * (n % 64) + 16 * (t % 64)

/-- Write an entry at the ring index TAIL mod 64 and advance TAIL (R387). -/
def Hub.sidAppend (s : Hub) (n : Nat) (it : Item) : Hub :=
  let t := s.fld (SD_TAIL n) 15 0
  let s := s.writeMem (ringAddr n t) (sidEntry n t s.tt.crossing it)
  let s := (s.setFld (SD_TAIL n) 15 0 (t + 1))
  let s := { s with sid := tset (fun _ => []) s.sid n (s.items n ++ [it]) }
  if s.count n > s.fld (SD_LEVEL n) 22 16 then s.setFld (SD_LEVEL n) 22 16 (s.count n) else s

/-- S40 or S41 discards an entry: it is counted, and EV_LOG_LOST is due if firmware runs (R388, R501). -/
def Hub.sidLose (s : Hub) (n : Nat) : Hub :=
  { s.addSat (SD_LOST n) 31 0 1 with mbx := { s.mbx with lostDue := if s.mbx.lostDue.contains n ∨ ¬ s.fwRuns then s.mbx.lostDue else s.mbx.lostDue ++ [n] } }

/-- A producer's attempt to queue an item. A full siding acts by its policy (R388): WAIT keeps the item with its
producer, DROP discards it and counts it (S40 and S41 in SD_LOST), REFUSE takes nothing. The Boolean says whether the
item is queued or kept. -/
def Hub.sidPush (s : Hub) (n : Nat) (it : Item) : Hub × Bool :=
  if s.count n < 64 then (s.sidAppend n it, true)
  else match s.fld (SD_STATUS n) 1 0 with
    | 0 => ({ s with held := s.held ++ [(n, it)] }, true)
    | 1 => (if n = 40 ∨ n = 41 then s.sidLose n else s, false)
    | _ => (s, false)

/-- Queue an item whatever the siding answers. -/
def Hub.sidQueue (s : Hub) (n : Nat) (it : Item) : Hub := (s.sidPush n it).1

/-- The first item that a producer keeps for siding n, and the others. -/
def takeHeld (n : Nat) : List (Nat × Item) → Option (Item × List (Nat × Item))
  | [] => none
  | (m, it) :: t =>
    if m = n then some (it, t) else (takeHeld n t).map fun (x, r) => (x, (m, it) :: r)

/-- Advance HEAD by one, dropping the oldest item, and let a waiting producer use the entry that frees. -/
def Hub.sidPop (s : Hub) (n : Nat) : Hub :=
  if s.count n = 0 then s
  else
    let s := s.setFld (SD_HEAD n) 15 0 (s.fld (SD_HEAD n) 15 0 + 1)
    let s := { s with sid := tset (fun _ => []) s.sid n ((s.items n).drop 1) }
    match takeHeld n s.held with
    | some (it, rest) => { s with held := rest }.sidAppend n it
    | none => s

/-- HEAD advances past the entries at the front whose items have left (R387). -/
def Hub.dropGone : Nat → Hub → Nat → Hub
  | 0, s, _ => s
  | f + 1, s, n => if (s.items n).head? = some .gone then Hub.dropGone f (s.sidPop n) n else s

/-- The consumer takes items out of their turn, as `f` says: their entries stay in the ring until HEAD reaches them. -/
def Hub.sidMark (s : Hub) (n : Nat) (f : List Item → List Item) : Hub :=
  Hub.dropGone (s.items n).length { s with sid := tset (fun _ => []) s.sid n (f (s.items n)) } n

/-- The first item that satisfies `p` has left. -/
def goneFirst (p : Item → Bool) : List Item → List Item
  | [] => []
  | x :: t => if p x then .gone :: t else x :: goneFirst p t

/-- The last item that satisfies `p` has left. -/
def goneLast (p : Item → Bool) (xs : List Item) : List Item := (goneFirst p xs.reverse).reverse

/-- Every item that satisfies `p` has left. -/
def Hub.sidRemove (s : Hub) (n : Nat) (p : Item → Bool) : Hub := s.sidMark n fun xs => xs.map fun x => if p x then .gone else x

/-- An event of S40 has left on the routes that are set: it is gone once it has left on each of its own, an entry that software has added once
it has left on one. (Log entry 211: DEDUCED, unsafe) -/
def Hub.eventLeft (s : Hub) (it : Item) (onLink onCspi : Bool) : Hub :=
  s.sidMark 40 fun xs => xs.map fun x => if x = it then
      (match x with
        | .ev e link cspi st => if (link && !onLink) || (cspi && !onCspi) then .ev e (link && !onLink) (cspi && !onCspi) st else .gone
        | _ => .gone)
    else x

/-! ### Events (R424-R427) -/

/-- EV_BOOT, EV_MODE and EV_TIME_EPOCH are never masked (R426). -/
def neverMasked (code : Nat) : Bool := code = 0x0101 || code = 0x0201 || code = 0x0B01

/-- The hub is JOINED (R317). -/
def Hub.joined (s : Hub) : Bool := s.fld PAIR_STATUS 19 16 = 2 || s.fld PAIR_STATUS 19 16 = 3

/-- The hub holds the leader role. -/
def Hub.leader (s : Hub) : Bool := s.bit PAIR_STATUS 14

/-- The hub is the follower of a joined pair. -/
def Hub.follower (s : Hub) : Bool := s.joined && !s.leader

/-- Firmware emits an event: masked or unrouted events take no ESEQ and are counted; every other takes its ESEQ as
firmware queues it in S40, which drops it when full; a JOINED follower's events go to the leader through S38, except
EV_PAIR_HEARTBEAT (R426). While firmware does not run, or is frozen, there is no event (R404, R501). -/
def Hub.emit (s : Hub) (code : Nat) (ws : List Nat) : Hub :=
  if ¬ s.fwRuns ∨ s.bit FW_STATUS 0 then s
  else
    let link := s.bit MBX_CTRL 0
    let cspi := s.bit MBX_CTRL 1
    if (s.bit MBX_EVT_MASK (code / 256) ∧ ¬ neverMasked code) ∨ (¬ link ∧ ¬ cspi) then s.incSat MBX_CNT2 31 16
    else
      let e : Ev := { eseq := s.fld MBX_ESEQ 15 0, code := code, source := 0, words := ws.map (· % 2 ^ 32),
                      crossing := s.tt.crossing, turn := s.tt.turn }
      let s := s.incWrap MBX_ESEQ 15 0
      let st := s.mbx.stamp
      let s := { s with mbx := { s.mbx with stamp := st + 1 } }
      if s.follower ∧ code ≠ 0x0C02 then s.sidQueue 38 (.ev e true true st)
      else s.sidQueue 40 (.ev e link cspi st)

/-- A signed value as the 32-bit word an event or a response carries. -/
def sword (v : Int) : Nat := ofS 32 v

/-! ### The error log (R407) -/

/-- The event that firmware emits as it takes an entry of the error log: its code, its words, and where the crossing and turn of that
moment belong (R410), the words that follow them. With code 0 there is none: an engine fault is reported as it occurs (R183, R200). -/
structure LogEvent where
  code : Nat
  words : List Nat
  rest : Option (List Nat)

/-- Write an entry to S41, whose event is due only if firmware runs now (R501). MASTER is a master of R15 or an engine; for other requesters
the spec gives no code. (Log entry 180: DESIGN CHOICE, safe) -/
def Hub.logErr (s : Hub) (kind master memory detail addr : Nat) (e : LogEvent) : Hub :=
  let m := if master < 6 ∨ kind = 3 then master else (Config.logMaster master).toNat
  s.sidQueue 41 (.log (leBytes 4 addr ++
    leBytes 4 (kind * 2 ^ 28 + m * 2 ^ 24 + memory * 2 ^ 16 + detail * 2 ^ 8) ++
    leBytes 2 s.tt.crossing ++ [0, 0] ++ leBytes 4 s.tt.turn) (if s.fwRuns then e.code else 0) e.words e.rest)

/-- Add 1 to memory m's leaky bucket and CORRECTED for a correction that the requester's read has met; past BUCKET_LIMIT the bucket returns
to 0, is logged and reported (R392, R407). -/
def Hub.bucketAdd (s : Hub) (m addr requester : Nat) : Hub :=
  let s := s.incSat (ECC_CNT m) 31 16
  if s.fld (ECC_CNT m) 7 0 + 1 > s.fld ECC_CTRL 7 0 then
    let s := s.setFld (ECC_CNT m) 7 0 0
    let s := s.logErr (if m = 15 then 5 else 1) requester m 0 addr { code := 0x1101, words := [m, s.fld (ECC_CNT m) 31 16], rest := some [] }
    let s := s.incSat (ECC_BEV m) 15 0
    s.setBit ECC_STATUS (16 + m) true
  else s.setFld (ECC_CNT m) 7 0 (s.fld (ECC_CNT m) 7 0 + 1)

/-- Count and log an uncorrectable error (R393). `extra` are the further fields of the event. (Log entry 58: PRESUMED, unsafe) -/
def Hub.uncorrectable (s : Hub) (m addr requester access : Nat) (extra : List Nat) : Hub :=
  let s := s.incSat (ECC_CNT m) 15 8
  let s := s.setBit ECC_STATUS m true
  s.logErr 2 requester m access addr { code := 0x1102, words := [m, addr, requester], rest := some extra }

/-- What the reads of a write have found: a corrected word is counted, and an uncorrectable one, whose write is cancelled, is counted and
logged with access type 3 (R392, R394). `extra` is what its event names besides (R393). -/
def Hub.countFound (s : Hub) (requester : Nat) (extra : List Nat) (found : List (Nat × EccOutcome)) : Hub :=
  s.each found fun s x => match memoryAt x.1 with
    | none => s
    | some (m, _) => if x.2 = .corrected then s.bucketAdd m x.1 requester else s.uncorrectable m x.1 requester 3 extra

/-- Write bytes to memory for a requester, as read-modify-write where they do not fill a code word. The Boolean says whether every word
was written. `extra` is what the event of a cancelled write names besides. -/
def Hub.tryStore (s : Hub) (requester : Nat) (extra : List Nat) (a : Nat) (bs : List Byte) : Bool × Hub :=
  let (s, found) := Hub.writeMemFuel (bs.length + 1) s a bs
  (found.all (fun x => x.2 != .uncorrectable), s.countFound requester extra found)

/-- Write bytes to memory for a requester. -/
def Hub.storeMem (s : Hub) (requester a : Nat) (bs : List Byte) : Hub := (s.tryStore requester [] a bs).2

/-- A consumer reads entry `i` of a siding (R389, R390): corrected words are counted; with an uncorrectable word the entry is discarded,
SD_LOST and ERR say so and the error is logged for the requester. The Boolean says whether the entry can be used. -/
@[irreducible] def Hub.readEntry (s : Hub) (n i requester : Nat) : Bool × Hub :=
  let a := ringAddr n (s.fld (SD_HEAD n) 15 0 + i)
  let s := s.each [a, a + 8] fun s w => if eccCheck (s.eccAt w) = .corrected then s.bucketAdd 0 w requester else s
  match [a, a + 8].find? fun w => eccCheck (s.eccAt w) = .uncorrectable with
  | none => (true, s)
  | some w =>
    let s := s.sidMark n fun xs => xs.set i .gone
    (false, ((s.addSat (SD_LOST n) 31 0 1).setBit (SD_STATUS n) 2 true).uncorrectable 0 w requester 0 [])

/-- A consumer takes the items of a siding, oldest first, but for those that it cannot read (R389). -/
def Hub.takeItems : Nat → Hub → Nat → Nat → List Item × Hub
  | 0, s, _, _ => ([], s)
  | f + 1, s, n, requester =>
    match (s.items n).head? with
    | none => ([], s)
    | some it =>
      match s.readEntry n 0 requester with
      | (false, s) => Hub.takeItems f s n requester
      | (true, s) => let (xs, s) := Hub.takeItems f (s.sidPop n) n requester; (it :: xs, s)

/-- An item passes a siding that its consumer empties at once, with whatever stands before it (R28); while the siding is full, its producer
holds it (R388). The Boolean says whether the consumer can read it. (Log entry 81: DEDUCED, unsafe) -/
def Hub.passSiding (s : Hub) (n requester : Nat) (it : Item) : Bool × Hub :=
  let (xs, s) := Hub.takeItems 66 (s.sidQueue n it) n requester
  (xs.getLast? == some it, s)

/-- The log entry of an engine fault, whose event is not firmware's (R407). -/
def Hub.logFault (s : Hub) (kind master memory cause : Nat) : Hub := s.logErr kind master memory cause 0 { code := 0, words := [], rest := none }

/-- Reads of on-chip words by a requester: what is corrected is counted, and the first uncorrectable word is counted and logged (R390, R392,
R393). The Boolean says whether all could be used. -/
def Hub.readWords (s : Hub) (requester access : Nat) (as : List Nat) : Bool × Hub :=
  let mem := fun a => match memoryAt a with | some (m, _) => m | none => 0
  let s := s.each as fun s a => if eccCheck (s.eccAt a) = .corrected then s.bucketAdd (mem a) a requester else s
  match as.find? fun a => eccCheck (s.eccAt a) = .uncorrectable with
  | some a => (false, s.uncorrectable (mem a) a requester access [])
  | none => (true, s)

/-- Firmware meets an entry that it cannot read, and requests a software reset (R393). -/
def Hub.fwFails (s : Hub) : Hub := { s with pw := { s.pw with soft := true } }

/-- Firmware runs and is not frozen. -/
def Hub.fwActs (s : Hub) : Bool := s.fwRuns && !s.bit FW_STATUS 0

/-- Firmware takes the entries of S41, oldest first, and emits the event of each (R392, R393, R401, R410); of an entry it cannot read it
requests a software reset (R393). (Log entry 181: DESIGN CHOICE, unsafe) -/
def Hub.takeLog : Nat → Hub → Hub
  | 0, s => s
  | f + 1, s =>
    match if s.fwActs then (s.items 41).head? else none with
    | none => s
    | some it =>
      match s.readEntry 41 0 0 with
      | (false, s) => Hub.takeLog f s.fwFails
      | (true, s) =>
        let s := s.sidPop 41
        Hub.takeLog f (match it with
          | .log _ 0 _ _ => s
          | .log _ code ws rest => s.emit code (match rest with | some r => ws ++ [s.tt.crossing, s.tt.turn] ++ r | none => ws)
          | _ => s)

/-- Firmware takes all that S41 holds. -/
def Hub.drainLog (s : Hub) : Hub := Hub.takeLog 128 s

/-- Firmware meets an uncorrectable word outside S41: the event of it leaves first, then firmware requests a software reset (R393). -/
def Hub.fwGivesUp (s : Hub) : Hub := s.drainLog.fwFails

/-! ### Responses (R415, R418-R423) -/

/-- STATUS values of R423. -/
def stOK : Nat := 0
def stBUSY : Nat := 1
def stDENIED : Nat := 2
def stBAD_ARG : Nat := 3
def stBAD_LEN : Nat := 4
def stBAD_CRC : Nat := 5
def stBAD_MODE : Nat := 6
def stFROZEN : Nat := 7
def stSEALED : Nat := 8
def stNO_RESOURCE : Nat := 9
def stTIMEOUT : Nat := 10
def stROLE_CHANGING : Nat := 11
def stINTEGRITY : Nat := 12
def stUNSUPPORTED : Nat := 13
def stOVER_BUDGET : Nat := 14
def stNOT_ADMITTED : Nat := 15

/-- Commands that the boot ROM executes in LOADING (R436). -/
def loadingCmd (op : Nat) : Bool := [0x0101, 0x0102, 0x0103, 0x0202].contains op || op / 256 = 0x13

/-- Queue a response on the route of its source (R411). A response to a command forwarded under R325 leaves on the hub's own
TX0 with TARGET 1, whether or not the hub is JOINED. -/
def Hub.sendResp (s : Hub) (r : Resp) : Hub :=
  let st := s.mbx.stamp
  let s := { s with mbx := { s.mbx with stamp := st + 1 } }
  if r.src = 2 ∧ (loadingCmd r.op ∨ ¬ s.joined) then s.sidQueue 36 (.resp { r with target := 1 } st)
  else s.sidQueue (36 + r.src) (.resp r st)

/-- A command as the sequence rules know it: source, SEQ and CRC (R418). -/
abbrev CmdKey := Nat × Nat × Nat

def Resp.cmdKey (r : Resp) : CmdKey := (r.src, r.seq, r.crc)
def Cmd.cmdKey (c : Cmd) : CmdKey := (c.src, c.seq, c.crc)

/-- Drop the first `k` entries of source `src`. -/
def dropOld (src : Nat) : Nat → List CmdKey → List CmdKey
  | _, [] => []
  | k, x :: t => if x.1 = src ∧ k > 0 then dropOld src (k - 1) t else x :: dropOld src k t

/-- The last 8 consumed commands of each source, oldest first, once `k` is consumed (R418). -/
def consumed (recent : List CmdKey) (k : CmdKey) : List CmdKey :=
  dropOld k.1 ((recent.filter fun x => x.1 == k.1).length - 7) recent ++ [k]

/-- Send a command's response and store it: the hub keeps the responses to the last 8 consumed commands of each source (R418), and the last one
it sent. The command no longer runs. -/
def Hub.answer (s : Hub) (h : Hdr) (op status : Nat) (payload : List Byte) : Hub :=
  let r : Resp := { src := h.src.val, seq := h.seq.toNat, op := op, status := status, target := h.target.toNat,
                    crc := h.crc.toNat, disp := 0, payload := payload }
  let recent := if s.mbx.running.contains r.cmdKey then s.mbx.recent else consumed s.mbx.recent r.cmdKey
  let s := { s with mbx := { s.mbx with
    recent := recent
    stored := (s.mbx.stored.filter fun (x : Resp) => recent.contains x.cmdKey) ++ [r]
    running := s.mbx.running.filter fun x => x ≠ r.cmdKey } }
  s.sendResp r

/-- Answer a completed command, in a switch-over gap once it has closed (R328). -/
def Hub.answerLate (s : Hub) (h : Hdr) (op status : Nat) (payload : List Byte) : Hub :=
  if s.bit PAIR_STATUS 15 then { s with mbx := { s.mbx with gapHeld := s.mbx.gapHeld ++ [(h, (op, (status, payload)))] } }
  else s.answer h op status payload

/-- Answer the commands carried out on both hubs whose two parts are complete: as the follower does when its status is not OK (R320, R440). -/
def Hub.settleBoth (s : Hub) : Hub :=
  let (done, rest) := s.mbx.both.partition fun b => b.mine.isSome && b.theirs.isSome
  done.foldl (fun s b => match b.mine, b.theirs with
    | some (st, pl), some far => if st = 0 ∧ far.1 ≠ 0 then s.answerLate b.hdr b.op far.1 far.2 else s.answerLate b.hdr b.op st pl
    | _, _ => s) { s with mbx := { s.mbx with both := rest } }

/-- Answer a command. The answer to a command carried out on both hubs waits for the follower's part. -/
def Hub.respond (s : Hub) (h : Hdr) (op status : Nat) (payload : List Byte) : Hub :=
  if s.mbx.both.any fun b => b.hdr == h && b.op == op && b.mine.isNone then
    { s with mbx := { s.mbx with both := s.mbx.both.map fun (b : Both) =>
        if b.hdr = h ∧ b.op = op then { b with mine := some (status, payload) } else b } }.settleBoth
  else s.answer h op status payload

/-- OPCODE values that name a command: 0xGGNN, where NN counts the commands of group GG from 1. (Log entry 9: DEDUCED, safe) -/
def knownOp (op : Nat) : Bool :=
  decide (1 ≤ op % 256) && decide (op % 256 ≤ [0, 7, 2, 8, 8, 6, 6, 4, 5, 5, 8, 6, 5, 8, 5, 3, 8, 6, 4, 5].getD (op / 256) 0)

/-- While the Dispatcher is frozen the hub takes no command from source 0 (R412). -/
def Hub.linkPaused (s : Hub) : Bool := s.bit FW_STATUS 1

/-- Take a consumed command out of the waiting ones and out of its siding, as it starts (R419). -/
def Hub.startCmd (s : Hub) (c : Cmd) : Hub :=
  let s := s.sidMark c.port (goneFirst (· == .cmd c))
  { s with mbx := { s.mbx with taken := s.mbx.taken.erase c, lastServed := c.port, running := s.mbx.running ++ [c.cmdKey] } }

/-- The header of a command as its row carries it. -/
def Cmd.hdr (c : Cmd) : Hdr :=
  { src := Fin.ofNat 3 c.src, seq := BitVec.ofNat 16 c.seq, target := BitVec.ofNat 8 c.target, crc := BitVec.ofNat 16 c.crc }

/-- Commands of reserved OPCODEs at the head of their source's order are answered UNSUPPORTED (R416). (Log entry 9: DEDUCED, safe) -/
def Hub.rejectUnknown : Nat → Hub → Hub
  | 0, s => s
  | f + 1, s =>
    let first := fun (k : Nat) => s.mbx.taken.find? fun c => c.src == k
    match [0, 1, 2].findSome? fun k => if k = 0 ∧ s.linkPaused then none else (first k).filter fun c => !knownOp c.op with
    | none => s
    | some c => Hub.rejectUnknown f ((s.startCmd c).answer c.hdr c.op stUNSUPPORTED [])

/-- The consumed command that the Signal Box starts next: the oldest of a source, of the sidings in rotation (R419).
(Log entry 10: DESIGN CHOICE, unsafe) -/
def Hub.nextTaken (s : Hub) : Option Cmd :=
  let ready := [0, 1, 2].filterMap fun k => if k = 0 ∧ s.linkPaused then none else s.mbx.taken.find? fun c => c.src == k
  [1, 2, 3, 4].findSome? fun k => ready.find? fun c => c.port == 32 + (s.mbx.lastServed - 32 + k) % 4

/-- The consumed command that a row names. (Log entry 8: DEDUCED, safe) -/
def Hub.takenFor (s : Hub) (h : Hdr) (op : Nat) : Option Cmd :=
  s.mbx.taken.find? fun c => c.src == h.src.val && c.seq == h.seq.toNat && c.op == op

/-- The source that the boot ROM takes commands from. (Log entry 12: DEDUCED, unsafe) -/
def Hub.bootSource (s : Hub) : Nat := if s.fld SYS_STRAPS 1 0 = 1 then 0 else if s.fld SYS_STRAPS 1 0 = 2 then 2 else 1

/-- A command can start: the hub is not DORMANT, PD1 is on, the Signal Box is not frozen, source 0 is not paused, in LOADING the source is the
one that BOOT names, and no other consumed command comes first (R404, R412, R419, R436, R458). A row that names no consumed command stands for
one that was delivered and comes next. (Log entry 7: DESIGN CHOICE, safe) -/
def Hub.mayStart (s : Hub) (h : Hdr) (op : Nat) : Bool :=
  s.mode != mDORMANT && s.bit RP_PD_STATUS 1 && !s.bit FW_STATUS 0 && !(h.src == 0 && s.linkPaused) &&
    (s.mode != mLOADING || h.src.val == s.bootSource) && ((s.takenFor h op).isNone || s.takenFor h op == s.nextTaken)

/-- Take the started command out of the consumed ones. -/
def Hub.takeCmd (s : Hub) (h : Hdr) (op : Nat) : Hub :=
  match s.takenFor h op with
  | none => s
  | some c => Hub.rejectUnknown (s.mbx.taken.length + 1) (s.startCmd c)

/-- What a command's own meaning answers: a status and payload now, or a response that waits for a later happening. -/
inductive Reply where
  | now (status : Nat) (payload : List Byte)
  | later (arg : Nat)
  deriving DecidableEq, Repr

/-- Commands whose response always waits for a later happening (R419): they meet the limit of 16 before their own checks. -/
def deferrable (op target : Nat) : Bool :=
  target = 1 || [0x0303, 0x0504, 0x0804, 0x0704, 0x0903, 0x0904, 0x0D05, 0x1004, 0x1006, 0x1102, 0x0201, 0x0C03, 0x1201, 0x0B06].contains op

/-- A command carried out on both hubs waits for its crossing or for the other hub (R320). -/
def Both.waits (b : Both) : Bool := b.due.isSome || b.mine.isSome

/-- Deferred commands outstanding: those of this hub, and those carried out on both hubs (R419, R320). -/
def Hub.outstanding (s : Hub) : Nat := s.mbx.deferred.length + (s.mbx.both.filter Both.waits).length

/-- Commands a follower executes on its own paths (R324): the PAIR group and REG_READ. -/
def followerCmd (op : Nat) : Bool := op / 256 = 0x0C || op = 0x0106

/-- Hold the command's response until a later happening. -/
def Hub.defer (s : Hub) (h : Hdr) (op arg : Nat) (p : List Byte) : Hub :=
  { s with mbx := { s.mbx with
      deferred := s.mbx.deferred ++ [{ hdr := h, op := op, arg := arg, payload := p, since := s.xo }] } }

/-- A hub that holds the follower role: both hubs do while the pair is FORMING (R317). -/
def Hub.underLeader (s : Hub) : Bool := (s.joined || s.fld PAIR_STATUS 19 16 == 1) && !s.leader

/-- Steps 5 to 9 of R416 with the generic causes of R422: the status of a command that is refused before its own checks. A command that R325
forwards is not executed here, so that a follower forwards it too. (Log entry 234: DEDUCED, unsafe) -/
def Hub.generic (s : Hub) (op : Nat) (h : Hdr) : Option Nat :=
  let forwardBoot := s.bit PAIR_CTRL 0 ∧ loadingCmd op
  if h.target = 1 ∧ ¬ s.joined ∧ ¬ forwardBoot then some stUNSUPPORTED
  else if s.bit PAIR_STATUS 15 then some stROLE_CHANGING
  else if s.underLeader ∧ h.src ≠ 2 ∧ ¬ followerCmd op ∧ ¬ (h.target = 1 ∧ forwardBoot) then some stDENIED
  else if s.mode = mLOADING ∧ ¬ loadingCmd op ∧ ¬ (h.target = 1 ∧ forwardBoot) then some stBAD_MODE
  else if (op = 0x0106 ∨ op = 0x0107) ∧ s.bit FW_STATUS 3 then some stFROZEN
  else if op / 256 = 0x13 ∧ s.bit FW_STATUS 4 then some stFROZEN
  else if deferrable op h.target.toNat ∧ s.outstanding ≥ 16 then some stBUSY
  else none

/-- Put a command of the leader's own series for source 2 into S38 (R322, R325): its number. (Log entry 106: DEDUCED, unsafe) -/
def Hub.sendForward (s : Hub) (op : Nat) (p : List Byte) : Nat × Hub :=
  let n := s.mbx.fwdSeq
  let c : Cmd := { port := 38, src := 2, seq := n, op := op, flags := b2n s.mbx.fwdFirst, target := 0, crc := 0, payload := p }
  (n, { s with mbx := { s.mbx with fwdSeq := (n + 1) % 2 ^ 16, fwdFirst := false } }.sidQueue 38 (.cmd c))

/-- The leader of a joined pair forwards a command with TARGET 1 (R322); the response waits for the follower's, or under R325
for the command to leave. -/
def Hub.forward (s : Hub) (h : Hdr) (op : Nat) (p : List Byte) : Hub :=
  let (n, s) := s.sendForward op p
  s.defer h op n p

/-- Commands that the leader carries out on both hubs (R320): MODE_SET, TT_SWAP, TT_SET_TURN and TT_SET_LATENCY. -/
def bothCmd (op : Nat) : Bool := [0x0201, 0x0303, 0x0305, 0x0306].contains op

/-- Forward a command that both hubs carry out. This hub starts it in a frame that lets it take effect at one crossing on both hubs; the
spec does not say how the leader finds that frame, which is free. (Log entry 206: DESIGN CHOICE, safe) -/
def Hub.openBoth (s : Hub) (h : Hdr) (op : Nat) (p : List Byte) : Hub :=
  let (n, s) := s.sendForward op p
  let (w, s) := s.drawWord
  { s with mbx := { s.mbx with both := s.mbx.both ++ [{ hdr := h, op := op, n := n, payload := p, due := some (s.frame + 1 + w) }] } }

/-- A nonce ends (R112). -/
def Hub.dropNonce (s : Hub) : Hub := { s with asy := { s.asy with nonce := none } }

/-- An ASSAY command that this hub refuses ends the validity of a nonce all the same (R112). (Log entry 37: DEDUCED, unsafe) -/
def Hub.endNonce (s : Hub) (h : Hdr) (op : Nat) : Hub := if op / 256 = 0x10 ∧ h.target = 0 then s.dropNonce else s

/-- Payload of a MODE_SET response: the first crossing in the mode reached, the mode and SYS_PREP (R440). -/
def Hub.modePayload (s : Hub) : List Byte :=
  crossPayload (s.reg SYS_MODE_CROSSING) (s.shadowTurn SYS_MODE_TURN) ++ [BitVec.ofNat 8 s.mode, 0, 0, 0] ++ leBytes 4 (s.reg SYS_PREP)

/-- Refuse a command BUSY (R422). -/
def Hub.busy (s : Hub) (h : Hdr) (op : Nat) : Hub := ((s.endNonce h op).incSat MBX_CNT2 15 0).respond h op stBUSY []

/-- Refuse a command before its own checks; MODE_SET's payload goes with DENIED too (R440). -/
def Hub.refuse (s : Hub) (h : Hdr) (op st : Nat) : Hub :=
  if st = stBUSY then s.busy h op
  else (s.endNonce h op).respond h op st (if op = 0x0201 ∧ st = stDENIED then s.modePayload else [])

/-- Execute one command: take it from its siding, make the generic checks, then run its own meaning, whose reply is
sent or deferred (R416, R419). One that would be the 17th deferred command is refused BUSY and changes nothing (R422). A command that
cannot start changes nothing. One that a joined leader carries out on both hubs passes its own checks and is forwarded (R320). -/
def Hub.command (s : Hub) (op : Nat) (h : Hdr) (p : List Byte) (body : Hub → Reply × Hub) : Hub :=
  if ¬ s.mayStart h op then s
  else
    let s := s.takeCmd h op
    match s.generic op h with
    | some st => s.refuse h op st
    | none =>
      if h.target = 1 then s.forward h op p
      else
        let both := s.joined && s.leader && bothCmd op
        match body s with
        | (.now st pl, s') =>
          if both ∧ st = stOK then (if s.outstanding ≥ 16 then s.busy h op else s.openBoth h op p) else s'.respond h op st pl
        | (.later arg, s') =>
          if s.outstanding ≥ 16 then s.busy h op else if both then s.openBoth h op p else s'.defer h op arg p

/-- Commands that may name the partner's channels (R323). -/
def splitCmd (op : Nat) : Bool := [0x0401, 0x0402, 0x0403, 0x0404, 0x0405, 0x0407, 0x0701].contains op

/-- The follower has still to answer: a forwarded command, or a part of one (R322, R323). -/
def Def.isFar (d : Def) : Bool := d.hdr.target == 1 || (splitCmd d.op && decide (2 ^ 16 ≤ d.arg))

/-- Complete deferred commands: each is answered with this status and payload, in a switch-over gap once it has closed (R328). -/
def Hub.completeAny (s : Hub) (q : Def → Bool) (status : Nat) (payload : List Byte) : Hub :=
  let (ds, rest) := s.mbx.deferred.partition q
  if s.bit PAIR_STATUS 15 then
    { s with mbx := { s.mbx with
        deferred := rest, gapHeld := s.mbx.gapHeld ++ ds.map fun d => (d.hdr, (d.op, (status, payload))) } }
  else ds.foldl (fun s d => s.respond d.hdr d.op status payload) { s with mbx := { s.mbx with deferred := rest } }

/-- Complete the deferred commands of this hub that satisfy `q`. -/
def Hub.complete (s : Hub) (q : Def → Bool) (status : Nat) (payload : List Byte) : Hub :=
  s.completeAny (fun d => q d && !d.isFar) status payload

/-- A refusal with no payload. -/
def fail (st : Nat) (s : Hub) : Reply × Hub := (.now st [], s)

/-- A success with a payload. -/
def okay (payload : List Byte) (s : Hub) : Reply × Hub := (.now stOK payload, s)

/-- Make a command's own checks in the order of its status table: the first that fails sets the status. -/
def checks : List (Bool × Nat) → Option Nat
  | [] => none
  | (b, st) :: t => if b then some st else checks t

/-- Run `f` unless a check fails. -/
def guarded (cs : List (Bool × Nat)) (s : Hub) (f : Hub → Reply × Hub) : Reply × Hub :=
  match checks cs with
  | some st => fail st s
  | none => f s

/-- The channels 0-255 and the partner's channels of a payload that names channels 0-511, the latter renumbered (R323): a mask
of 64 bytes, or FIRST and COUNT with one byte for each channel in a setting. -/
def splitChannels (op : Nat) (p : List Byte) : Option (List Byte) × Option (List Byte) :=
  let zeros := List.replicate 32 (0 : Byte)
  if [0x0401, 0x0404, 0x0405].contains op then
    let high := (p.drop 32).take 32
    let rest := p.drop 64
    if p.length ≠ 68 ∨ high = zeros then (some p, none)
    else (if p.take 32 = zeros then none else some (p.take 32 ++ zeros ++ rest), some (high ++ zeros ++ rest))
  else
    let first := pl p 0 2
    let count := pl p 2 2
    if p.length ≠ (if op = 0x0407 then 4 else 4 + count) ∨ count = 0 ∨ count > 256 ∨ first + count ≤ 256 ∨ first + count > 512 then (some p, none)
    else
      let k := 256 - first
      let part := fun (f c o : Nat) => leBytes 2 f ++ leBytes 2 c ++ ((p.drop 4).drop o).take c
      (if k = 0 then none else some (part first k 0), some (part (first - 256) (count - k) k))

/-- The status with which a meaning refuses, OK where it does not. -/
def refusal (r : Reply) : Nat := match r with | .now st _ => st | .later _ => stOK

/-- Execute a command whose payload may name the partner's channels. In a joined leader the whole is validated, and the
partner's part is forwarded first (R323). -/
def Hub.commandChan (s : Hub) (op : Nat) (h : Hdr) (p : List Byte) (body : List Byte → Hub → Reply × Hub) : Hub :=
  s.command op h p fun s =>
    if s.joined ∧ s.leader then
      match splitChannels op p with
      | (own, some far) =>
        let a := refusal (body far s).1
        let b := match own with | some q => refusal (body q s).1 | none => stOK
        if a ≠ stOK then fail a s else if b ≠ stOK then fail b s
        else let (n, s) := s.sendForward op far; (.later (2 ^ 16 + n), s)
      | _ => body p s
    else body p s

/-! ### The firewall (R14, R400, R401) -/

/-- Word addresses that `n` bytes from `a` touch. -/
def touched (a n : Nat) : List Nat := (List.range ((a % 4 + n + 3) / 4)).map fun i => a / 4 * 4 + 4 * i

/-- Access types of R407: 0 read, 1 write, 2 fetch, 3 read-modify-write, and the permission bit of FW_WIN_ATTR each needs. -/
def needBit (acc : Nat) : Nat := if acc = 0 then 1 else if acc = 2 then 3 else 2

/-- Window w of master k covers an access (R400). -/
def Hub.winCovers (s : Hub) (k w a acc : Nat) : Bool :=
  let attr := s.reg (FW_WIN_ATTR k w)
  let mask := bits attr 13 8
  bitAt attr 0 && bitAt attr (needBit acc) && decide (s.reg (FW_WIN_BASE k w) / 4 ≤ a / 4) &&
    decide (a / 4 ≤ s.reg (FW_WIN_LIMIT k w) / 4) && !(mask != 0 && bits a 7 2 &&& mask == bits attr 19 14)

/-- Some window of the master allows the access. -/
def Hub.allowed (s : Hub) (k a acc : Nat) : Bool := (List.range 8).any fun w => s.winCovers k w a acc

/-- A violation freezes the master at the access, and is counted, logged and reported (R401). A frozen Signal Box is a lock-up
(R450). -/
def Hub.violate (s : Hub) (k a acc : Nat) : Hub :=
  let s := ((s.setBit FW_STATUS k true).incSat FW_VIOLATIONS 31 0).logErr 0 k 0xFF acc a { code := 0x1103, words := [k, a, acc], rest := some [] }
  if k = 0 then { s with pw := { s.pw with lockAt := some s.frame } } else s

/-- The first word of an access that no window of the master allows. -/
def Hub.outside (s : Hub) (k a n acc : Nat) : Option Nat := (touched a n).find? fun w => !s.allowed k w acc

/-- The siding whose ring or descriptor an address lies in (R385). -/
def sidingAt (a : Nat) : Option Nat :=
  if 0x101F0000 ≤ a ∧ a < 0x10200000 then some ((a - 0x101F0000) / 0x400)
  else if 0x60000000 ≤ a ∧ a < 0x60001000 then some ((a - 0x60000000) / 0x40)
  else none

/-- What a master has a path to (R14): the Dispatcher and the Junction engine reach only what the table of engines lists for them, their own
program memory among it, and of record memory the Dispatcher writes no byte; the others reach every block and memory.
(Log entry 182: DEDUCED, unsafe) -/
def hasPath (k acc a : Nat) : Bool :=
  let wr := acc == 1 || acc == 3
  if k = 1 then
    (!wr && ((decide (0x38009000 ≤ a) && decide (a < 0x3800B000)) || (decide (0x20000000 ≤ a) && decide (a < 0x21000000)))) ||
      (match sidingAt a with
        | some n => if wr then decide (24 ≤ n) && decide (n < 48) else (decide (8 ≤ n) && decide (n < 24)) || decide (32 ≤ n)
        | none => false)
  else if k = 2 then
    (!wr && decide (0x38008000 ≤ a) && decide (a < 0x38009000)) ||
      (match sidingAt a with | some n => if wr then [30, 48, 50].contains n else n == 49 | none => false)
  else true

/-- The master can make an access: the interconnect is powered, the master is not frozen, and the debug port is not disabled (R454). -/
def Hub.canAccess (s : Hub) (k : Nat) : Bool :=
  s.mode != mDORMANT && s.bit RP_PD_STATUS 1 && !s.bit FW_STATUS k && !(k == 5 && s.bit (RP_FUSE 3) 9)

/-- A master's own access: one that no window allows is a violation and is not performed (R401). -/
def Hub.reach (s : Hub) (k a n acc : Nat) : Bool × Hub :=
  match s.outside k a n acc with
  | some w => (false, s.violate k w acc)
  | none => (true, s)

/-- A master's attempt to queue an item in a siding: the firewall checks the write of its entry. -/
def Hub.sidPushBy (s : Hub) (k n : Nat) (it : Item) : Hub × Bool :=
  match s.reach k (ringAddr n (s.fld (SD_TAIL n) 15 0)) 16 1 with
  | (true, s) => s.sidPush n it
  | (false, s) => (s, false)

/-- A master reads entry `i` of a siding as its consumer, within its windows. -/
def Hub.readEntryBy (s : Hub) (k n i requester : Nat) : Bool × Hub :=
  match s.reach k (ringAddr n (s.fld (SD_HEAD n) 15 0 + i)) 16 0 with
  | (true, s) => s.readEntry n i requester
  | (false, s) => (false, s)

/-- The outcome of a command or event that changes the hub and leaves the queue alone. (Log entry 3: DESIGN CHOICE, safe) -/
def lift (f : Hub → Hub) (s : State) : Host.Outcome State Fault Refusal := .next { s with toHub := f s.toHub }

end Sys2Proof.Machine
end

