-- ==== Sys2Proof/Machine/Constants.lean ====
section
/-! DEFINITION. The linearisation constants as a bank image (R98), the nominal constants (R100, R127), linearisation (R95)
and the range-coded word (R13, R75, R76). -/

namespace Sys2Proof.Machine

/-- Byte `off` of the nominal constants: REF_GAIN and GAIN 16 384, QINJ 256 000, the limits of R127, all else 0 (R100). -/
def nominalByte (off : Nat) : Nat :=
  if 0x100 ≤ off ∧ off < 0x300 then (if off % 2 = 1 then 0x40 else 0)
  else if 0x300 ≤ off ∧ off < 0x310 then [0x00, 0xE8, 0x03, 0x00].getD (off % 4) 0
  else if 0x310 ≤ off ∧ off < 0x322 then
    [160, 0, 16, 0, 64, 0, 48, 0, 32, 0, 8, 0, 4, 0, 64, 0, 100, 0].getD (off - 0x310) 0
  else if 0x500 ≤ off ∧ off < 0x1500 then
    (if off % 16 = 9 ∨ off % 16 = 11 ∨ off % 16 = 13 then 0x40 else 0)
  else 0

/-- `n` little-endian bytes of a bank image at an offset. -/
def imgGet (img : List (Nat × Nat)) (off : Nat) : Nat → Nat
  | 0 => 0
  | n + 1 => tget nominalByte img off + 256 * imgGet img (off + 1) n

/-- Put `n` little-endian bytes into a bank image. -/
def imgPut (img : List (Nat × Nat)) (off : Nat) : Nat → Nat → List (Nat × Nat)
  | 0, _ => img
  | n + 1, v => imgPut (tset nominalByte img off (v % 256)) (off + 1) n (v / 256)

/-- The first `n` bytes of a bank image from an offset. -/
def imgBytes (img : List (Nat × Nat)) (off n : Nat) : List Byte :=
  (List.range n).map fun i => BitVec.ofNat 8 (tget nominalByte img (off + i))

/-- PED, GAIN, ADC_OFS, TREF, REF_GAIN and QINJ of a bank image (R98). -/
def pedOf (img : List (Nat × Nat)) (n r : Nat) : Int := toS 16 (imgGet img (0x500 + 16 * n + 2 * r) 2)
def gainOf (img : List (Nat × Nat)) (n r : Nat) : Nat := imgGet img (0x500 + 16 * n + 8 + 2 * r) 2
def ofsOf (img : List (Nat × Nat)) (q a : Nat) : Int := toS 16 (imgGet img (0x1500 + 130 * q + 2 * a) 2)
def trefOf (img : List (Nat × Nat)) (q : Nat) : Int := toS 16 (imgGet img (0x1708 + 2 * q) 2)
def refGainOf (img : List (Nat × Nat)) (n : Nat) : Nat := imgGet img (0x100 + 2 * n) 2
def qinjOf (img : List (Nat × Nat)) (q : Nat) : Nat := imgGet img (0x300 + 4 * q) 4

/-- A GAIN code and a PED or ADC_OFS value are plausible (R96). -/
def gainPlausible (g : Nat) : Bool := decide (8192 ≤ g) && decide (g ≤ 32767)
def ofsPlausible (v : Int) : Bool := decide (-4096 ≤ v) && decide (v ≤ 4095)

/-- The largest linear value of the interface (R93, R95, R142). -/
def linMax : Int := 2097151

/-- A value limited to the linear range. -/
def clampLin (v : Int) : Int := max (-linMax) (min v linMax)

/-- The deviation d of R95. -/
def deviation (img : List (Nat × Nat)) (q a n r code : Nat) : Int :=
  ((code : Int) - 8192) * 16 - ofsOf img q a - pedOf img n r

/-- The linear value v of R95 from d. -/
def linearise (img : List (Nat × Nat)) (n r : Nat) (d : Int) : Int :=
  clampLin (rdiv (d * (gainOf img n r : Int) * ((8 ^ r : Nat) : Int)) (2 ^ 18))

/-- The word with this range and mantissa (R13). -/
def wordOf (r : Nat) (m : Int) : Nat := r * 2 ^ 14 + ofS 14 m

/-- A marker word (R76). -/
def markerWord (code : Nat) : Nat := 3 * 2 ^ 14 + code

/-- The mantissa of v in range r fits (R75). -/
def mantFits (v : Int) (r : Nat) : Bool := (rdiv v ((8 ^ r : Nat) : Int)).natAbs ≤ 8191

/-- v encoded by the search of R75: the word, and whether it saturated. -/
def encodeWord (v : Int) : Nat × Bool :=
  if mantFits v 0 then (wordOf 0 v, false)
  else if mantFits v 1 then (wordOf 1 (rdiv v 8), false)
  else if mantFits v 2 then (wordOf 2 (rdiv v 64), false)
  else (wordOf 2 (if v < 0 then -8191 else 8191), true)

/-- A full-rate sample in the range in which it was converted (R75): the word, and whether it saturated. A mantissa that does not fit in
that range is clamped in it. (Log entry 186: DESIGN CHOICE, unsafe) -/
def encodeFull (v : Int) (r : Nat) : Nat × Bool :=
  if mantFits v r then (wordOf r (rdiv v ((8 ^ r : Nat) : Int)), false)
  else (wordOf r (if v < 0 then -8191 else 8191), true)

/-- The value a word that is no marker stands for, MANT × 8^RNG (R13). -/
def wordValue (w : Nat) : Int := toS 14 (bits w 13 0) * ((8 ^ bits w 15 14 : Nat) : Int)

/-- A word is a marker (R13). -/
def isMarker (w : Nat) : Bool := bits w 15 14 == 3

/-- The rank of a marker code when more than one applies: channel disabled, blanked, calibration slot, overload, reset
recovery, ADC handover (R77). -/
def markRank (m : Nat) : Nat := [1, 3, 4, 0, 2, 5, 6, 7].getD m 7

/-- The code that R77 ranks first; 7 when there is no marker. -/
def firstMark (ms : List Nat) : Nat := ms.foldl (fun a m => if markRank m < markRank a then m else a) 7

end Sys2Proof.Machine
end

