-- ==== Sys2Proof/Machine/Timetable.lean ====
section
/-! DEFINITION. The frame tick's counters, the Timetable and its commands (02_frame_and_timetable.md). -/

namespace Sys2Proof.Machine

/-! ### The effective action (R40-R44) -/

/-- Bits of a slot entry that are not reserved (R42). -/
def slotMask : Nat := 0x7FF1F

/-- A slot entry or action word sets both PULSE and PROVE (R45). -/
def breaksR45 (w : Nat) : Bool := bitAt w 2 && bitAt w 3

/-- A window of a bank acts on crossing `c` of turn `t` (R41); `r` is its range word and `a` its action word. -/
def winActs (r a c t : Nat) : Bool :=
  bitAt a 31 && decide (bits r 15 0 ≤ c) && decide (c ≤ bits r 31 16) && t % 2 ^ (bits a 23 20) == 0

/-- A window of the inactive bank fails the swap check (R47). -/
def Hub.winBad (s : Hub) (k : Nat) : Bool :=
  let r := s.reg (TT_WIN_RANGE k)
  bitAt (s.reg (TT_WIN_ACT k)) 31 && (decide (bits r 31 16 < bits r 15 0) || decide (bits r 31 16 ≥ s.turnLen))

/-- Some enabled window of the inactive bank fails. -/
def Hub.anyWinBad (s : Hub) : Bool := (List.range 16).any s.winBad

/-- The pending swap is due: the present crossing is crossing 0 of a turn that began after the request (R46). -/
def Hub.swapDue (s : Hub) : Bool := s.bit TT_STATUS 1 && s.tt.crossing == 0 && decide (s.tt.swapAsk < s.frame)

/-- The pending swap is taken at the present crossing, whose action therefore comes from the other bank (R46, R47). (Log entry 19: DEDUCED, safe) -/
def Hub.swapsNow (s : Hub) : Bool := s.swapDue && !s.anyWinBad

/-- The action of crossing `c` in turn `t` by a bank: its slot entry ORed with every window that acts (R40, R41). -/
def Hub.actionOf (s : Hub) (slot range act : Nat → Nat) (c t : Nat) : Nat :=
  (List.range 16).foldl
    (fun w k => if winActs (s.reg (range k)) (s.reg (act k)) c t then w ||| (s.reg (act k) &&& slotMask) else w)
    (s.reg (slot (c % 64)))

/-- The effective action of crossing `c` in turn `t` (R41), by the bank in use at the present crossing. -/
def Hub.effective (s : Hub) (c t : Nat) : Nat :=
  if s.swapsNow then s.actionOf TT_SLOT TT_WIN_RANGE TT_WIN_ACT c t
  else s.actionOf TT_ACT_SLOT TT_ACT_WIN_RANGE TT_ACT_WIN_ACT c t

/-- Which of BLANK, CAL, PULSE and PROVE are performed. -/
structure Performed where
  blank : Bool
  cal : Bool
  pulse : Bool
  prove : Bool
  deriving DecidableEq, Repr

/-- Modes in which BLANK and FLUSH_MASK, CAL, and PULSE and PROVE act (R43). -/
def actsBlank (m : Nat) : Bool := m = mRUN || m = mPULSE || m = mHOLD
def actsCal (m : Nat) : Bool := m = mPREPARE || m = mRUN || m = mPULSE || m = mHOLD || m = mTEST
def actsPulse (m : Nat) : Bool := m = mPULSE

/-- The precedence of R44 on the actions that act in the mode; the BLANK pin counts as a Timetable BLANK (R51). The
second component says which of CAL, PULSE and PROVE were suppressed. -/
def precedence (m w : Nat) (pin : Bool) : Performed × (Bool × Bool × Bool) :=
  let blank := actsBlank m && (bitAt w 0 || pin)
  let cal := actsCal m && bitAt w 1
  let pulse := actsPulse m && bitAt w 2
  let prove := actsPulse m && bitAt w 3
  let doCal := cal && !blank
  let doPulse := pulse && !blank && !cal
  let doProve := prove && !blank && !cal && !pulse
  ({ blank := blank, cal := doCal, pulse := doPulse, prove := doProve },
   (cal && !doCal, pulse && !doPulse, prove && !doProve))

/-- Crossing `c` of turn `t` is a calibration crossing of mode `m` as the active bank stands (R123), the pin left aside. -/
def Hub.willCalibrate (s : Hub) (m c t : Nat) : Bool :=
  let p := (precedence m (s.effective c t) false).1
  if m = mPREPARE ∨ m = mHOLD then !p.blank else p.cal

/-! ### The tick (R36, R39, R49, R51, R55, R56) -/

/-- A frame that was foreseen as `k` frames after crossing 0 of the next turn, when that crossing is not before frame `lo`: crossing 0 now
begins with frame `z`. -/
def reZero (lo z k x : Nat) : Nat := if lo + k ≤ x then z + k else x

/-- The counters are loaded or TURN_LEN changes, so that crossing 0 of the next turn, foreseen for frame `lo` or later, begins with frame `z`:
what was to take effect with it follows it (R156, R178, R182, R191, R199, R200, R332). -/
def Hub.zeroAt (s : Hub) (lo z : Nat) : Hub :=
  { s with
    flts := s.flts.map fun (g, x) => (g, { x with cfgAt := x.cfgAt.map fun (w, f) => (w, reZero lo z 4 f) })
    engines := s.engines.map fun (g, e) => (g, { e with
      startAt := e.startAt.map (reZero lo z 0)
      stopAt := e.stopAt.map fun f => reZero lo z 0 (f + 1) - 1
      cfgs := e.cfgs.map fun (f, w) => (reZero lo z 0 f, w) })
    jct := { s.jct with
      sets := s.jct.sets.map fun (f, w) => (reZero lo z 9 f, w)
      image := s.jct.image.map fun (f, w) => (reZero lo z 0 f, w)
      resume := reZero lo z 0 s.jct.resume }
    pr := { s.pr with revertAt := s.pr.revertAt.map (reZero lo z 0) } }

/-- The crossing and turn counters advance by one frame under the TURN_LEN now set (R36, R39). -/
def Hub.advance (s : Hub) : Hub :=
  if s.tt.crossing + 1 ≥ s.turnLen then
    { s with tt := { s.tt with crossing := 0, turn := (s.tt.turn + 1) % 2 ^ 32 } }
  else { s with tt := { s.tt with crossing := s.tt.crossing + 1 } }

/-- The lane in use as clock source (R33); none with the XO. -/
def Hub.clockLane (s : Hub) : Option Nat :=
  if s.fld TT_STATUS 5 4 = 0 then some 8 else if s.fld TT_STATUS 5 4 = 1 then some 10 else none

/-- TURN_MARKER_RECEIVE: a marker of the lane in use names the crossing at offset 0 in the frame that begins at the
(2 + TURN_ADJ)-th tick from now (R271). While HOLD is being left for RUN or PULSE, it sets the crossing of entry (R434).
(Log entry 23: DEDUCED, unsafe) -/
def Hub.turnMarker (s : Hub) (lane turn : Nat) : Hub :=
  if s.clockLane ≠ some lane then s
  else
    let n := s.frame + 2 + s.fld (LN_TIMING lane) 21 16
    let leaving := s.mode = mHOLD ∧ s.bit SYS_MODE 12 ∧ (s.fld SYS_MODE 10 8 = mRUN ∨ s.fld SYS_MODE 10 8 = mPULSE) ∧ s.tt.exitAt = none
    { s with tt := { s.tt with markers := s.tt.markers ++ [(n, turn)], exitAt := if leaving then some n else s.tt.exitAt } }

def execTurnMarkerReceive (lane : Fin 11) (turn : BitVec 32) := lift fun s => s.turnMarker lane.val turn.toNat

/-- A marker at the frame it marks: it loads the counters, or is compared with them (R37).
(Log entry 23: DEDUCED, unsafe; log entry 24: DEDUCED, unsafe; log entry 237: DESIGN CHOICE, unsafe) -/
def Hub.applyMarker (s : Hub) (turn : Nat) : Hub :=
  let setup := s.modeIn [mIDLE, mPREPARE, mTEST]
  let s := { s with tt := { s.tt with marked := true } }
  let load := { s with tt := { s.tt with crossing := 0, turn := turn, await := false } }.zeroAt s.frame s.frame
  if s.tt.exitAt = some s.frame ∨ (setup ∧ s.tt.await) then load
  else if (s.tt.crossing = 0 ∧ s.tt.turn = turn) ∨ s.mode < mIDLE then s
  else ((if setup then load else s).incSat TT_SLIP_COUNT 15 0).emit 0x0302 [turn, s.tt.crossing, s.tt.turn, b2n setup]

/-- The markers of the frame that begins. -/
def Hub.markersDue (s : Hub) : Hub :=
  let due := s.tt.markers.filter (·.1 == s.frame)
  due.foldl (fun s m => s.applyMarker m.2) { s with tt := { s.tt with markers := s.tt.markers.filter (decide <| s.frame < ·.1) } }

/-- LAT_FRAMES and PAD_FRAMES take a new setting at the tick, in HOLD only at crossing 0 (R56, R55). -/
def Hub.takeLat (s : Hub) : Hub :=
  let l := s.fld TT_LAT 5 0
  if l = s.tt.lat ∨ (s.mode = mHOLD ∧ s.tt.crossing ≠ 0) then s
  else { s with tt := { s.tt with lat := l } }

/-- PAD_FRAMES: LAT_FRAMES − 15 on a single hub, LAT_FRAMES − 21 in joined operation (R54). -/
def Hub.pad (s : Hub) : Nat := s.tt.lat - (if s.joined then 21 else 15)

/-- TT_FRATE counts frames over 2^16 XO cycles (R60). (Log entry 22: DESIGN CHOICE, unsafe) -/
def Hub.measureRate (s : Hub) (xo : Nat) : Hub :=
  let w := s.tt.xoWin + xo
  let f := s.tt.frames + 1
  if w ≥ 65536 then
    { s with tt := { s.tt with xoWin := w - 65536, frames := 0 } }.setReg TT_FRATE (f * 40000000 / 65536)
  else { s with tt := { s.tt with xoWin := w, frames := f } }

/-- The clock monitor measures f_F over windows of 1024 XO cycles: `badClk` counts the XO cycles for which it has lain
outside 23.5 to 40.5 MHz (R34). (Log entry 21: DESIGN CHOICE, unsafe) -/
def Hub.monitorClock (s : Hub) (xo : Nat) : Hub :=
  let x := s.tt.monXo + xo
  let f := s.tt.monFrames + 1
  if x ≥ 1024 then
    let inside := 235 * x ≤ 400 * f ∧ 400 * f ≤ 405 * x
    { s with tt := { s.tt with monXo := 0, monFrames := 0, badClk := if inside then 0 else s.tt.badClk + x } }
  else { s with tt := { s.tt with monXo := x, monFrames := f } }

/-- The codec runs in RUN, PULSE and HOLD, and in TEST when TEST_STREAM = 1 (R235). -/
def Hub.codecRuns (s : Hub) : Bool := s.modeIn [mRUN, mPULSE, mHOLD] || (s.mode = mTEST && s.bit STR_CTRL 0)

/-- Form the effective action of the crossing now at offset 0, count what R44 suppresses, and record the crossing. The
pin blanks a crossing two ticks after it was seen (R49). -/
def Hub.formAction (s : Hub) (pinBlank : Bool) : Hub :=
  let w := s.effective s.tt.crossing s.tt.turn
  let pin := pinBlank && s.bit TT_CTRL 4
  let (p, (c, u, v)) := precedence s.mode w pin
  let s := if c then s.incSat TT_SUPP0 15 0 else s
  let s := if u then s.incSat TT_SUPP0 31 16 else s
  let s := if v then s.incSat TT_SUPP1 15 0 else s
  let s := s.setBit TT_STATUS 3 p.blank
  let calX := if s.modeIn [mPREPARE, mHOLD] then !p.blank else p.cal
  let r : FrameRec :=
    { n := s.frame, crossing := s.tt.crossing, turn := s.tt.turn, blank := p.blank, cal := p.cal,
      calCrossing := calX && actsCal s.mode, pulse := p.pulse, prove := p.prove, hk := bitAt w 4,
      pulseSet := bits w 18 16, flush := if actsBlank s.mode then bits w 15 8 else 0,
      stamp := s.tm.now, raw := s.tm.rawNow, phase := s.fld TM_PHASE 9 0, unsealed := s.asy.sealSt != 0, warn := s.bit RP_SUPPLY 8,
      holdover := s.bit TT_STATUS 7, gap := s.bit PAIR_STATUS 15 && decide (s.frame < s.pr.gapTo),
      coded := s.codecRuns, mode := s.mode, nfeat := (List.range 8).map fun g => s.fld (FE_STATE g) 19 16 }
  { s with hist := (r :: s.hist).take 160 }

/-- The level of the BLANK pin after polarity (R49). -/
def Hub.pinLevel (s : Hub) (pin : Bool) : Bool := pin != s.bit TT_CTRL 5

/-- What `n` XO cycles add to the time counter: 25 ns × (1 + RATE × 2^-40) each, that is 25 × (2^40 + RATE) in units of
2^-40 ns (R294). (Log entry 204: DEDUCED, unsafe) -/
def timeStep (rate : Int) (n : Nat) : Nat := n * (25 * ((2 ^ 40 : Int) + rate)).toNat

/-- TIME_NS wraps at this many units of 2^-32 ns. -/
def nsWrap : Nat := 2 ^ 64

/-- The 64-bit nanosecond count with its fraction, in 2^-40 ns; a wrap of TIME_NS not yet carried into EPOCH is included. -/
def Hub.timeFull (s : Hub) : Nat := ((s.tm.epoch * nsWrap + s.tm.cnt) * 256 + s.tm.residue) % 2 ^ 104

/-- The counter advances to the tick, whose capture the interpolator resolves to 1/256 ns (R294, R296). (Log entry 88: DEDUCED, unsafe) -/
def Hub.timeAdvance (s : Hub) (xo sub : Nat) : Hub :=
  let d := timeStep (toS 32 (s.reg TM_RATE)) xo
  let s := { s with tm := { s.tm with
      cnt := s.tm.cnt + (s.tm.residue + d) / 256, residue := (s.tm.residue + d) % 256, raw := s.tm.raw + d } }
  { s with tm := { s.tm with now := (s.timeFull / 2 ^ 32 + sub) % 2 ^ 72, rawNow := s.tm.raw / 2 ^ 32 + sub } }

/-- A TURN_LEN set since the last tick moves crossing 0 of the next turn (R39). -/
def Hub.turnLenTick (s : Hub) : Hub := if s.turnLen = s.afld TT_TURN_LEN 15 0 then s else s.zeroAt (s.frame + 1) (s.frame + s.toTurn)

/-- What a frame tick does to the frame, crossing and turn counters and to the Timetable. -/
def Hub.ttTick (s : Hub) (i : TickIn) : Hub :=
  let s := s.turnLenTick
  let s := { s with frame := s.frame + 1, xo := s.xo + i.xo, act := s.regs }.timeAdvance i.xo i.sub
  let s := ((s.measureRate i.xo).monitorClock i.xo).advance.markersDue
  let s := s.takeLat
  let s := s.setFld TT_LAT 13 8 s.pad
  let seen := s.pinLevel i.blank
  let blank2 := s.tt.pin2
  let s := { s with tt := { s.tt with pin1 := seen, pin2 := s.tt.pin1 } }
  (s.setBit TT_STATUS 2 seen).formAction blank2

/-- The record of frame `n`, if the pipeline still holds it. -/
def Hub.frameRec (s : Hub) (n : Nat) : Option FrameRec := s.hist.find? (·.n == n)

/-- The crossing at offset 0. -/
def Hub.now (s : Hub) : FrameRec := s.hist.headD {}

/-! ### What the tick that comes begins (R432-R434) -/

/-- The counters as the tick that comes will leave them. -/
def Hub.ahead (s : Hub) : Hub := { s with frame := s.frame + 1 }.advance.markersDue

/-- The tick that comes begins crossing 0. -/
def Hub.nextIsZero (s : Hub) : Bool := s.ahead.tt.crossing == 0

/-- The change takes effect at the tick that comes. -/
def Hub.changesNext (s : Hub) (c : Change) : Bool :=
  match c.kind with
  | 0 => true
  | 1 => s.nextIsZero
  | 2 => s.tt.exitAt == some (s.frame + 1)
  | 4 => s.nextIsZero && s.fld SYS_PREP 5 0 == 0
  | _ => false

/-- The mode in which the crossing that comes is formed; a change already due stays so.
(Log entry 19: DEDUCED, safe; log entry 150: DEDUCED, unsafe) -/
def Hub.comingMode (s : Hub) : Nat :=
  match s.pw.chg with
  | some c => if c.kind ≠ 3 ∧ (s.now.mode = c.goal ∧ s.now.n = s.frame ∨ s.changesNext c) then c.goal else s.mode
  | none => s.mode

/-- The counters start at crossing 0 of turn 0 on entry to PREPARE and TEST with the XO as source, and await a marker as HOLD is left for
IDLE (R37): the tick that comes begins it. -/
def Hub.startCounters (s : Hub) (coming : Nat) : Hub :=
  if s.mode = mHOLD ∧ coming = mIDLE ∧ s.now.mode = mHOLD then { s with tt := { s.tt with await := true } }
  else if s.clockLane.isNone ∧ coming ≠ s.mode ∧ s.now.mode ≠ coming ∧ (coming = mPREPARE ∨ coming = mTEST) then
    { s with tt := { s.tt with crossing := max 1 s.turnLen - 1, turn := 2 ^ 32 - 1 } }.zeroAt (s.frame + 1) (s.frame + 1)
  else s

/-- The crossing and turn that the next frame tick begins, as the mode that comes and a TURN marker that is due set them (R36, R37, R90). -/
def Hub.nextCross (s : Hub) : Nat × Nat :=
  let a := ((s.startCounters s.comingMode).setFld SYS_MODE 2 0 s.comingMode).ahead
  (a.tt.crossing, a.tt.turn)

/-! ### Bank swap (R46, R47) -/

/-- Exchange two registers. -/
def Hub.exchange (s : Hub) (a b : Nat) : Hub := (s.setReg a (s.reg b)).setReg b (s.reg a)

/-- Exchange the active and the inactive bank. -/
def Hub.exchangeBanks (s : Hub) : Hub :=
  let s := s.each (List.range 64) fun s i => s.exchange (TT_SLOT i) (TT_ACT_SLOT i)
  s.each (List.range 16) fun s k =>
    (s.exchange (TT_WIN_RANGE k) (TT_ACT_WIN_RANGE k)).exchange (TT_WIN_ACT k) (TT_ACT_WIN_ACT k)

/-- A pending swap at crossing 0: refused when a window fails, else taken, reported and answered (R46, R47). -/
def Hub.bankSwap (s : Hub) : Hub :=
  if s.swapDue then
    let s := s.setBit TT_STATUS 1 false
    if s.anyWinBad then s.complete (fun d => d.op = 0x0303) stBAD_ARG []
    else
      let s := s.exchangeBanks
      let s := s.setBit TT_STATUS 0 (!s.bit TT_STATUS 0)
      let s := s.emit 0x0303 [s.tt.turn]
      s.complete (fun d => d.op = 0x0303) stOK (leBytes 4 s.tt.turn)
  else s

/-! ### Settings, shared by commands and register writes (R48) -/

/-- Modes of R48 for bank writes and swaps, for TURN_LEN, and for the clock. -/
def ttBankModes : List Nat := [mIDLE, mPREPARE, mHOLD, mTEST]
def ttTurnModes : List Nat := [mIDLE, mPREPARE, mTEST]
def ttClockModes : List Nat := [mIDLE, mTEST]

/-- LAT_FRAMES lies in the range of R53 for the present configuration: a hub that has taken PAIR_JOIN is to hold the least of joined operation, with
which its pad is never shorter than 3 frames (R55, R318). (Log entry 247: DEDUCED, unsafe) -/
def Hub.latOk (s : Hub) (l : Nat) : Bool := decide ((if s.joined || s.bit PAIR_CTRL 0 then 24 else 18) ≤ l) && decide (l ≤ 48)

/-- XO_RATIO lies in the range of R32. -/
def ratioOk (r : Nat) : Bool := decide (0x99999A ≤ r) && decide (r ≤ 0x1000000)

/-- A new TURN_LEN: the counters await a TURN marker with an RX source (R39, R37). Setting the value that TURN_LEN has is a change too.
(Log entry 183: DESIGN CHOICE, unsafe) -/
def Hub.setTurnLen (s : Hub) (l : Nat) : Hub :=
  { s.setFld TT_TURN_LEN 15 0 l with tt := { s.tt with await := true, marked := false } }

/-- A new clock source: CLK_ACTIVE follows CLK_SRC, the PLL locks again and the crossing alignment is lost, with the markers of the old
source (R31). -/
def Hub.setClock (s : Hub) (src auto ratio : Nat) : Hub :=
  let old := s.fld TT_STATUS 5 4
  let s := ((s.setFld TT_CLOCK 1 0 src).setFld TT_CLOCK 4 4 auto).setFld TT_XO_RATIO 24 0 ratio
  let s := s.setFld TT_STATUS 5 4 src
  if src = old then s
  else { s.setBit TT_STATUS 6 (src == 2) with
      tt := { s.tt with await := true, locked := src == 2, markers := [], exitAt := none } }.dropMeasurements

/-! ### Commands (R61, R62) -/

/-- TT_WRITE: slot entries of the inactive bank. -/
def ttWriteBody (p : List Byte) (s : Hub) : Reply × Hub :=
  let first := pl p 0 1
  let count := pl p 1 1
  let es := (List.range count).map fun i => pl p (4 + 4 * i) 4
  guarded [(p.length ≠ 4 + 4 * count, stBAD_LEN),
    (count = 0 ∨ first + count > 64 ∨ ¬ plZero p 2 2 ∨ es.any (fun e => e &&& slotMask ≠ e || breaksR45 e), stBAD_ARG),
    (¬ s.modeIn ttBankModes, stBAD_MODE)] s fun s =>
  okay [] (s.each (List.range count) fun s i => s.setReg (TT_SLOT (first + i)) (es.getD i 0))

/-- TT_WIN_WRITE: one window of the inactive bank. A reserved bit of its action word is refused as R62 refuses one of a slot entry.
(Log entry 184: DEDUCED, unsafe) -/
def ttWinWriteBody (p : List Byte) (s : Hub) : Reply × Hub :=
  let k := pl p 0 1
  let start := pl p 4 2
  let stop := pl p 6 2
  let w := pl p 8 4
  guarded [(p.length ≠ 12, stBAD_LEN),
    (k > 15 ∨ stop < start ∨ breaksR45 w ∨ ¬ plZero p 1 3 ∨ w &&& 0x80F7FF1F ≠ w, stBAD_ARG),
    (¬ s.modeIn ttBankModes, stBAD_MODE)] s fun s =>
  okay [] ((s.setReg (TT_WIN_RANGE k) (stop * 65536 + start)).setReg (TT_WIN_ACT k) w)

/-- A bank swap is requested (R46). -/
def Hub.askSwap (s : Hub) : Hub := { s.setBit TT_STATUS 1 true with tt := { s.tt with swapAsk := s.frame } }

/-- TT_SWAP: request a bank swap at crossing 0 of the next turn; answered after it, with the check of R47. -/
def ttSwapBody (p : List Byte) (s : Hub) : Reply × Hub :=
  guarded [(p.length ≠ 0, stBAD_LEN), (s.bit TT_STATUS 1, stBUSY), (¬ s.modeIn ttBankModes, stBAD_MODE)] s fun s =>
  (.later 0, s.askSwap)

/-- TT_READ: slot entries of either bank. -/
def ttReadBody (p : List Byte) (s : Hub) : Reply × Hub :=
  let bank := pl p 0 1
  let first := pl p 1 1
  let count := pl p 2 1
  guarded [(p.length ≠ 4, stBAD_LEN), (bank > 1 ∨ count = 0 ∨ first + count > 64 ∨ ¬ plZero p 3 1, stBAD_ARG)] s fun s =>
  okay (words ((List.range count).map fun i => s.reg (if bank = 0 then TT_ACT_SLOT (first + i) else TT_SLOT (first + i)))) s

/-- TT_SET_TURN. -/
def ttSetTurnBody (p : List Byte) (s : Hub) : Reply × Hub :=
  let l := pl p 0 2
  guarded [(p.length ≠ 4, stBAD_LEN), (l < 64 ∨ ¬ plZero p 2 2, stBAD_ARG), (¬ s.modeIn ttTurnModes, stBAD_MODE)] s fun s =>
  okay [] (s.setTurnLen l)

/-- TT_SET_LATENCY. -/
def ttSetLatencyBody (p : List Byte) (s : Hub) : Reply × Hub :=
  let l := pl p 0 1
  guarded [(p.length ≠ 4, stBAD_LEN), (¬ s.latOk l ∨ ¬ plZero p 1 3, stBAD_ARG), (¬ s.modeIn ttBankModes, stBAD_MODE)] s fun s =>
  okay [] (s.setFld TT_LAT 5 0 l)

/-- TT_SET_CLOCK. -/
def ttSetClockBody (p : List Byte) (s : Hub) : Reply × Hub :=
  let src := pl p 0 1
  let auto := pl p 1 1
  let ratio := pl p 4 4
  guarded [(p.length ≠ 8, stBAD_LEN), (src > 2 ∨ auto > 1 ∨ ¬ ratioOk ratio ∨ ¬ plZero p 2 2, stBAD_ARG),
    (¬ s.modeIn ttClockModes, stBAD_MODE)] s fun s =>
  okay [] (s.setClock src auto ratio)

/-- TT_GET_TIMEBASE. -/
def ttGetTimebaseBody (p : List Byte) (s : Hub) : Reply × Hub :=
  guarded [(p.length ≠ 0, stBAD_LEN)] s fun s =>
  okay (crossPayload s.tt.crossing s.tt.turn ++ leBytes 4 (s.reg TT_FRATE) ++ leBytes 4 (s.reg TT_STATUS)) s

def execTtWrite (h : Hdr) (p : List Byte) := lift fun s => s.command 0x0301 h p (ttWriteBody p)
def execTtWinWrite (h : Hdr) (p : List Byte) := lift fun s => s.command 0x0302 h p (ttWinWriteBody p)
def execTtSwap (h : Hdr) (p : List Byte) := lift fun s => s.command 0x0303 h p (ttSwapBody p)
def execTtRead (h : Hdr) (p : List Byte) := lift fun s => s.command 0x0304 h p (ttReadBody p)
def execTtSetTurn (h : Hdr) (p : List Byte) := lift fun s => s.command 0x0305 h p (ttSetTurnBody p)
def execTtSetLatency (h : Hdr) (p : List Byte) := lift fun s => s.command 0x0306 h p (ttSetLatencyBody p)
def execTtSetClock (h : Hdr) (p : List Byte) := lift fun s => s.command 0x0307 h p (ttSetClockBody p)
def execTtGetTimebase (h : Hdr) (p : List Byte) := lift fun s => s.command 0x0308 h p (ttGetTimebaseBody p)

/-- TT_BANK_SWAP_APPLY: the requested swap at crossing 0 (R46). -/
def execTtBankSwapApply := lift Hub.bankSwap

/-- TT_CROSSING_READ: the read latches the turn of the same frame into TT_TURN_SNAP (R38). -/
def Hub.readCrossing (s : Hub) : Hub := s.setReg TT_TURN_SNAP s.tt.turn

def execTtCrossingRead := lift Hub.readCrossing

/-- TT_CTRL_SWAP_REQ: a write of TT_CTRL.SWAP_REQ requests a swap (R46), in the modes of R48. -/
def Hub.swapReq (s : Hub) : Hub :=
  if s.modeIn ttBankModes ∧ ¬ s.bit TT_STATUS 1 then s.askSwap else s

def execTtCtrlSwapReq := lift Hub.swapReq

end Sys2Proof.Machine
end

