-- ==== Sys2Proof/Machine/Afe.lean ====
section
/-! DEFINITION. Charge channels: range selection, overload and the reset switch, trims, skew, spare-ADC handover, and the
CHAN commands (03_charge_channels.md). -/

namespace Sys2Proof.Machine

/-! ### Levels and instants (R66, R84) -/

/-- The DC level that a trim code sets, in microvolts times 255 (R66: 0.200 V + code × 0.800 V / 255). -/
def trimLevel255 (code : Nat) : Nat := 200000 * 255 + code * 800000

/-- Hold k of a crossing lies this many 1/1024 frames after the crossing's frame tick (R84). -/
def holdOffset (phase : Nat) (skew : Int) (k : Nat) : Int := 256 * k + phase + skew

/-! ### Range selection (R69-R73) -/

/-- UP_r of R69. -/
def upThreshold (r : Nat) : Int := 7936 * ((8 ^ r : Nat) : Int)

/-- The down threshold into range r of R69. -/
def downThreshold (r : Nat) : Int := if r = 0 then 511 else 4095

/-- The held signal of path r. -/
def inPath (x : SampleIn) (r : Nat) : Int := if r = 0 then x.held.1 else if r = 1 then x.held.2.1 else x.held.2.2

/-- The serving ADC's code for path r, and that of the ADC connected beside it. -/
def inCode (x : SampleIn) (r : Nat) : Nat :=
  (if r = 0 then x.code.1 else if r = 1 then x.code.2.1 else x.code.2.2).toNat
def inOther (x : SampleIn) (r : Nat) : Nat :=
  (if r = 0 then x.other.1 else if r = 1 then x.other.2.1 else x.other.2.2).toNat

/-- Path r is saturated (R69). -/
def inSat (x : SampleIn) (r : Nat) : Bool := decide (((inPath x r).natAbs : Int) > upThreshold r)

/-- The lowest range whose path is not saturated; none for an overload (R70, R71). -/
def inMinRange (x : SampleIn) : Option Nat :=
  if ¬ inSat x 0 then some 0 else if ¬ inSat x 1 then some 1 else if ¬ inSat x 2 then some 2 else none

/-- A channel on which the environment puts no charge. (Log entry 25: DEDUCED, safe) -/
def quietIn (n : Fin 256) : SampleIn :=
  { ch := n, held := (0, 0, 0), code := (8192, 8192, 8192), other := (8192, 8192, 8192) }

/-! ### Spare ADCs (R86) -/

/-- The resting ADC of a quadrant. -/
def Hub.resting (s : Hub) (q : Nat) : Nat := s.fld (AFE_ADC_MAP q) 6 0

/-- The ADC that serves local channel k when Ar rests. -/
def servingAdc (r k : Nat) : Nat := if k < r then k else k + 1

/-- The local channel that a handover moves to the resting ADC: r upward, r − 1 downward (R86). -/
def Hub.hoChannel (s : Hub) (q : Nat) : Nat :=
  if s.bit (AFE_ADC_MAP q) 7 then s.resting q - 1 else s.resting q

/-- The quadrant has a retired ADC. -/
def Hub.retired (s : Hub) (q : Nat) : Bool := s.bit (AFE_ADC_MAP q) 15

/-- The first frame of a resting ADC's calibration that begins now; one that would begin under the supply-warning bit of the present frame
begins with the next (R119). -/
def Hub.calFrom (s : Hub) : Nat := if s.now.warn then s.frame + 1 else s.frame

/-- A failed handover or a failed calibration of the resting ADC (R87, R117): counted and reported, recalibrated, and
after the third in a row the ADC is retired (R88). -/
def Hub.hoFail (s : Hub) (q : Nat) : Hub :=
  let x := s.quad q
  let s := s.incSat AFE_HO_FAIL (8 * q + 7) (8 * q)
  let s := s.emit 0x0401 []
  let s := s.setQuad q { x with conn := none, agree := 0, fails := x.fails + 1, calStart := some s.calFrom, calDone := false }
  if x.fails + 1 ≥ 3 then
    let s := s.setFld (AFE_ADC_MAP q) 14 8 (s.resting q)
    let s := s.setBit (AFE_ADC_MAP q) 15 true
    let s := s.setQuad q { s.quad q with calStart := none }
    s.emit 0x0402 []
  else s

/-! ### One sample of one channel (R70-R82, R86, R95) -/

/-- RANGE_MODE in effect: none when automatic, else the fixed range (R73). -/
def Hub.fixedRange (s : Hub) (n : Nat) : Option Nat :=
  let m := s.afld (AFE_CH_CFG n) 26 24
  if m ≥ 4 then some (m - 4) else none

/-- The channel's reset switch is closed by an overload or by CHAN_RESET (R79, R80). -/
def Hub.resetClosed (s : Hub) (n : Nat) : Bool := s.bit (AFE_CH_STAT n) 18

/-- A calibration run of quadrant q is in progress. -/
def Hub.calRunning (s : Hub) (q : Nat) : Bool := match (s.calq q).run with | some r => r.ended.isNone | none => false

/-- The range that the calibration logic forces on a channel in this crossing (R82, R502). -/
def Hub.forcedRange (s : Hub) (n : Nat) : Option Nat :=
  match (s.calq (n / 64)).run with
  | some r => if s.now.calCrossing ∧ r.ended.isNone ∧ r.phase < 3 then some r.r else none
  | none => none

/-- This crossing is a calibration crossing for the channel: CAL is performed, or in PREPARE and HOLD a run of its
quadrant is in progress (R43, R123, R125), whose crossings then carry marker 4. (Log entry 190: DESIGN CHOICE, unsafe) -/
def Hub.calMarked (s : Hub) (n : Nat) : Bool :=
  s.now.cal || (s.now.calCrossing && s.calRunning (n / 64))

/-- The marker of a sample now, an overload of this sample included, by the order of R77; 7 when none. `cal` says whether
the crossing is a calibration crossing. -/
def Hub.markOf (s : Hub) (n : Nat) (c : Chan) (ovl cal : Bool) : Nat :=
  if ¬ (s.quad (n / 64)).on then 0
  else if ¬ s.abit (AFE_CH_CFG n) 0 then 3
  else if s.now.blank then 0
  else if cal then 4
  else if ovl ∨ c.ovl = some s.frame then 1
  else if s.resetClosed n ∨ s.frame < c.recTo ∨ (c.enTo ≠ 0 ∧ c.enTo ≤ s.frame + 4) then 2
  else if c.newAdc ∧ s.mode = mTEST ∧ s.abit AFE_CTRL 20 then 5
  else 7

/-- The samples of a channel, newest first, that an output can still need at frame `f`: those of the last 200 frames, the 16 before
them, and what the 12 HB1 outputs before them that stand for no marker are made of: the 11 samples before each and those of the 11 positions
after it (R147). (Log entry 50: DEDUCED, safe) -/
def keepLine (l : List (Nat × Int)) (f : Nat) : List (Nat × Int) :=
  let lo := 4 * (f - 200)
  let old := l.filter (·.1 < lo)
  let ps := ((old.map (·.1)).filter fun p => p % 2 == 0 && old.any (·.1 == p + 1)).take 12
  let need := fun (x : Nat) => ((old.take 16).any (·.1 == x)) ||
    ps.any fun p => (decide (p ≤ x) && decide (x ≤ p + 11)) || ((old.filter (·.1 < p)).take 11).any (·.1 == x)
  l.filter fun x => decide (lo ≤ x.1) || need x.1

/-- The result of one conversion. -/
structure Conv where
  samp : Samp
  chan : Chan
  overload : Bool
  agree : Option Bool
  converted : Bool

/-- One sample of one channel: the range, the marker, the linear value, and the channel's next state.
(Log entry 27: DEDUCED, unsafe; log entry 28: DEDUCED, unsafe; log entry 29: DEDUCED, unsafe) -/
def Hub.convert (s : Hub) (n k : Nat) (x : SampleIn) : Conv :=
  let c := s.chan n
  let q := n / 64
  let img := s.asy.imgAct
  let live := (s.quad q).on && s.abit (AFE_CH_CFG n) 0 && !s.now.blank
  let ovl := live && (inMinRange x).isNone && !s.resetClosed n && c.ovl != some s.frame
  let mark := s.markOf n c ovl (s.calMarked n)
  let m := (inMinRange x).getD 2
  let r := match s.forcedRange n with
    | some r => r
    | none => match s.fixedRange n with
      | some r => r
      | none => max m c.h
  let a := servingAdc (s.resting q) (n % 64)
  let code := inCode x r
  let d := deviation img q a n r code
  let satur := inSat x r && (inMinRange x).isSome
  let v0 := linearise img n r d
  let v := if satur then (if inPath x r < 0 then -8191 else 8191) * ((8 ^ r : Nat) : Int) else v0
  let normal := mark = 7
  let seam := normal && (match c.last with | some l => l != r | none => false)
  let samp : Samp := { lin := if normal then v else 0, mark := mark, rng := r, seam := seam, sat := satur && normal,
                       v := v0, d := d, code := code, under := s.markOf n c ovl false }
  let auto := (s.fixedRange n).isNone && (s.forcedRange n).isNone
  let down := auto && decide (r ≥ 1) && decide ((v.natAbs : Int) ≤ downThreshold (r - 1)) && r == c.h
  let hyst := s.afld AFE_CTRL 3 0
  let chan : Chan :=
    if normal then
      { c with h := if auto then r else 0,
               dn := if down then min hyst (c.dn + 1) else 0,
               last := some r,
               line := if s.filtFrom ≤ s.frame then keepLine ((4 * s.frame + k, v) :: c.line) s.frame else c.line }
    else { c with h := 0, dn := 0, ovl := if ovl then some s.frame else c.ovl }
  let chan := { chan with newAdc := c.newAdc && !live }
  let chan := if ovl then
      { chan with ovl := some s.frame, closeFrom := s.frame + 1,
                  closeTo := max chan.closeTo (s.frame + 2 + s.afld AFE_CTRL 6 4) }
    else chan
  let xq := s.quad q
  let agree := if normal ∧ xq.conn.isSome ∧ s.hoChannel q = n % 64 then
      let v2 := linearise img n r (deviation img q (s.resting q) n r (inOther x r))
      some (decide ((v0 - v2).natAbs ≤ s.afld AFE_CTRL 19 16 * 8 ^ r))
    else none
  { samp := samp, chan := chan, overload := ovl, agree := agree, converted := live }

/-- Store a conversion: the sample in its crossing's record, the channel, OVL_COUNT, ASY_RAW and the handover's count. -/
def Hub.storeConv (s : Hub) (n k : Nat) (v : Conv) : Hub :=
  let hist := match s.hist with
    | r :: t => { r with samp := tset (fun _ => {}) r.samp (4 * n + k) v.samp } :: t
    | [] => []
  let s := { s with hist := hist }.setChan n v.chan
  let s := if v.overload then s.incSat (AFE_CH_STAT n) 15 0 else s
  let old := tget (fun _ => 0) s.asy.raw n
  let raw := if v.converted then b2n (v.samp.mark != 7) * 2 ^ 16 + v.samp.rng * 2 ^ 14 + v.samp.code
    else putBits old 16 16 1
  let s := { s with asy := { s.asy with raw := tset (fun _ => 0) s.asy.raw n raw } }
  match v.agree with
  | none => s
  | some true => let x := s.quad (n / 64); s.setQuad (n / 64) { x with agree := min 64 (x.agree + 1) }
  | some false => if (s.quad (n / 64)).agree ≥ 64 then s else s.hoFail (n / 64)

/-- SAMPLE_CONVERSION: hold k of the crossing at offset 0, every channel (R70, R35). -/
def Hub.sample (s : Hub) (k : Nat) (xs : List SampleIn) : Hub :=
  if s.hist.isEmpty then s
  else (List.finRange 256).foldl (fun s n =>
    s.storeConv n.val k (s.convert n.val k ((xs.find? (·.ch == n)).getD (quietIn n)))) s

def execSampleConversion (k : Fin 4) (xs : List SampleIn) := lift fun s => s.sample k.val xs

/-- RANGE_STEP_DOWN: the downward counter has reached HYST_COUNT; H falls by one and the counter clears (R70). -/
def Hub.stepDown (s : Hub) (n : Nat) : Hub :=
  let c := s.chan n
  if c.h ≥ 1 ∧ c.dn ≥ s.afld AFE_CTRL 3 0 ∧ c.dn > 0 then s.setChan n { c with h := c.h - 1, dn := 0 } else s

def execRangeStepDown (ch : Fin 256) := lift fun s => s.stepDown ch.val

/-- RESET_SWITCH_OPEN: the closure has run its length; the switch opens and one frame of recovery marking follows (R79, R80). -/
def Hub.openSwitch (s : Hub) (n : Nat) : Hub :=
  let c := s.chan n
  if s.resetClosed n ∧ c.closeTo ≤ s.frame then
    (s.setBit (AFE_CH_STAT n) 18 false).setChan n { c with recTo := s.frame + 1, closeFrom := 0, closeTo := 0 }
  else s

def execResetSwitchOpen (ch : Fin 256) := lift fun s => s.openSwitch ch.val

/-- CHAN_RECOVERY_END: the 4 frames of markers after a channel is enabled have passed (R83). -/
def Hub.recoveryEnd (s : Hub) (n : Nat) : Hub :=
  let c := s.chan n
  if c.enTo ≠ 0 ∧ c.enTo ≤ s.frame then s.setChan n { c with enTo := 0 } else s

def execChanRecoveryEnd (ch : Fin 256) := lift fun s => s.recoveryEnd ch.val

/-- TRIM_RAMP_STEP: the applied trim moves one step toward its target, or the ramp is complete RAMP_FRAMES after its last
step (R67); ramps pause in a switch-over gap (R328). -/
def Hub.rampStep (s : Hub) (n : Nat) : Hub :=
  let c := s.chan n
  match c.rampNext with
  | none => s
  | some f =>
    if s.frame < f ∨ s.bit PAIR_STATUS 15 then s
    else
      let now := s.fld (AFE_CH_STAT n) 31 24
      let goal := s.fld (AFE_CH_CFG n) 15 8
      if now = goal then s.setChan n { c with rampNext := none }
      else
        let s := s.setFld (AFE_CH_STAT n) 31 24 (if now < goal then now + 1 else now - 1)
        s.setChan n { c with rampNext := some (s.frame + s.afld AFE_CTRL 15 8) }

def execTrimRampStep (ch : Fin 256) := lift fun s => s.rampStep ch.val

/-! ### Handover events (R86-R88, R116-R119) -/

/-- HANDOVER_ATTEMPT: the rotation period has expired and nothing holds the quadrant back; the resting ADC is connected
beside the serving ADC with its new ADC_OFS (R117-R119). The next period counts from the attempt, and the timer counts on while ROT_EN
is 0. (Log entry 187: DESIGN CHOICE, unsafe) -/
def Hub.hoAttempt (s : Hub) (q : Nat) : Hub :=
  let x := s.quad q
  if x.on ∧ x.conn.isNone ∧ x.calDone ∧ s.bit CAL_CTRL 1 ∧ ¬ s.retired q ∧ ¬ s.calRunning q ∧ ¬ s.now.warn ∧
      x.timer ≥ 1024 * x.period then
    let off := 0x1500 + 130 * q + 2 * s.resting q
    let s := { s with asy := { s.asy with
      img := imgPut s.asy.img off 2 (ofS 16 x.newOfs), imgAct := imgPut s.asy.imgAct off 2 (ofS 16 x.newOfs) } }
    s.setQuad q { x with conn := some s.frame, agree := 0, timer := 0, period := s.fld CAL_ROT 15 0 }
  else s

def execHandoverAttempt (q : Fin 4) := lift fun s => s.hoAttempt q.val

/-- HANDOVER_TAKEOVER: after 64 agreeing samples the new ADC serves the channel from this tick, and the former serving
ADC rests (R86). -/
def Hub.hoTakeover (s : Hub) (q : Nat) : Hub :=
  let x := s.quad q
  if x.conn.isSome ∧ x.agree ≥ 64 then
    let down := s.bit (AFE_ADC_MAP q) 7
    let n := 64 * q + s.hoChannel q
    let r := if down then s.resting q - 1 else s.resting q + 1
    let s := s.setFld (AFE_ADC_MAP q) 6 0 r
    let s := s.setBit (AFE_ADC_MAP q) 7 (if r ≥ 64 then true else if r = 0 then false else down)
    let s := s.incWrap (AFE_ADC_MAP q) 31 16
    let s := s.setQuad q { x with conn := none, agree := 0, fails := 0, calStart := some s.calFrom, calDone := false }
    s.setChan n { s.chan n with newAdc := true }
  else s

def execHandoverTakeover (q : Fin 4) := lift fun s => s.hoTakeover q.val

/-- HANDOVER_WITHDRAW: 1024 frames of connection without 64 agreeing samples (R87). -/
def Hub.hoWithdraw (s : Hub) (q : Nat) : Hub :=
  let x := s.quad q
  match x.conn with
  | some f => if x.agree < 64 ∧ f + 1024 ≤ s.frame then s.setQuad q { x with conn := none, agree := 0 } else s
  | none => s

def execHandoverWithdraw (q : Fin 4) := lift fun s => s.hoWithdraw q.val

/-- The place of the entry of least magnitude, the first of equals. -/
def leastAt (xs : List Int) : Nat :=
  (xs.zipIdx.foldl (fun (best : Option (Nat × Nat)) x => match best with
    | some b => if x.1.natAbs < b.1 then some (x.1.natAbs, x.2) else best
    | none => some (x.1.natAbs, x.2)) none).elim 0 (·.2)

/-- Steps 1 to 3 of R116: the comparator of lowest offset, the units of least non-linearity for each bit weight, and the trim of least
gain deviation. -/
def adcTrim (r : AdcCalIn) : AdcTrim := { comparator := leastAt r.offsets, units := r.dnl.map leastAt, gain := leastAt r.gains }

/-- Step 4 of R116: the mean deviation of the 4096 conversions from code 8192 in 1/16 code, half away from zero. -/
def adcOfs (r : AdcCalIn) : Int := rdiv (16 * ((r.codes : Int) - 4096 * 8192)) 4096

/-- Step 3 reached LIM_ADC_GAIN, which is in ppm (R117, R127). -/
def adcGainOk (r : AdcCalIn) (limit : Nat) : Bool := r.gains.any fun g => decide (g.natAbs ≤ limit)

/-- ADC_CAL_COMPLETE: the 40 960 frames of the resting ADC's calibration have passed; a result within the limits of R117
waits for the next handover, any other counts as a failed handover. A quadrant with a retired ADC calibrates none (R120). -/
def Hub.adcCalDone (s : Hub) (q : Nat) (r : AdcCalIn) : Hub :=
  let x := s.quad q
  match x.calStart with
  | none => s
  | some f =>
    if ¬ x.on ∨ x.calDone ∨ s.retired q ∨ s.frame < f + 40960 then s
    else
      let x := { x with trims := tset (fun _ => {}) x.trims (s.resting q) (adcTrim r) }
      let used := ofsOf s.asy.imgAct q (s.resting q)
      if adcGainOk r (imgGet s.asy.imgAct 0x320 2) ∧ ofsPlausible (adcOfs r) ∧ (adcOfs r - used).natAbs ≤ imgGet s.asy.imgAct 0x31E 2 then
        s.setQuad q { x with calDone := true, newOfs := adcOfs r, calStart := none }
      else (s.setQuad q x).hoFail q

def execAdcCalComplete (q : Fin 4) (r : AdcCalIn) := lift fun s => s.adcCalDone q.val r

/-! ### The tick -/

/-- Frame-tick work of the channels: closures that are due start (R79, R80), the rotation timers count unless a run or
the supply warning holds them, and a calibration that sees the warning in one of its frames starts again after it (R118, R119). -/
def Hub.afeTick (s : Hub) : Hub :=
  let s := s.each s.chans fun s (n, c) =>
    if c.closeFrom = s.frame ∧ c.closeTo > s.frame then s.setBit (AFE_CH_STAT n) 18 true else s
  s.each (List.range 4) fun s q =>
    let x := s.quad q
    if ¬ x.on then s
    else
      let warn := s.now.warn
      let x := if s.calRunning q ∨ warn then x else { x with timer := x.timer + 1 }
      let x := if warn ∧ x.calStart.any (s.frame < · + 40960) then { x with calStart := some (s.frame + 1) } else x
      s.setQuad q x

/-! ### Settings, shared by commands and register writes -/

/-- Set EN of a channel; one that is disabled in the present crossing is marked in a powered quadrant for the 4 frames from the next tick
(R83, R92). -/
def Hub.setEn (s : Hub) (n : Nat) (b : Bool) : Hub :=
  let old := s.abit (AFE_CH_CFG n) 0
  let s := s.setBit (AFE_CH_CFG n) 0 b
  if b ∧ ¬ old ∧ (s.quad (n / 64)).on then s.setChan n { s.chan n with enTo := s.frame + 5 } else s

/-- Set the target trim of a channel; in a powered quadrant the ramp starts, or is redirected, at the next tick (R67).
(Log entry 238: DESIGN CHOICE, unsafe) -/
def Hub.setTrim (s : Hub) (n code : Nat) : Hub :=
  let s := s.setFld (AFE_CH_CFG n) 15 8 code
  if (s.quad (n / 64)).on ∧ (s.fld (AFE_CH_STAT n) 31 24 ≠ code ∨ (s.chan n).rampNext.isSome) then
    s.setChan n { s.chan n with rampNext := some (s.frame + 1) }
  else s

/-- Close the reset switch of a channel from the next tick for `k` frames, or extend its closure (R80). -/
def Hub.closeReset (s : Hub) (n k : Nat) : Hub :=
  if ¬ s.bit (AFE_CH_CFG n) 0 then s
  else
    let c := s.chan n
    let stop := s.frame + 1 + k
    if s.resetClosed n then s.setChan n { c with closeTo := max c.closeTo stop }
    else s.setChan n { c with closeFrom := s.frame + 1, closeTo := max c.closeTo stop }

/-- The response of a setting command (R90): the first crossing under the setting, or the IDLE values. (Log entry 239: DESIGN CHOICE, unsafe) -/
def Hub.firstCross (s : Hub) : List Byte :=
  if s.mode = mIDLE then crossPayload 0xFFFF 0xFFFFFFFF
  else let (c, t) := s.nextCross; crossPayload c t

/-! ### CHAN commands (R90-R92) -/

/-- Channel bits that a single hub accepts (R323 gives the pair's upper half to the partner). -/
def maskBits (p : List Byte) : Nat := pl p 0 32
def maskHigh (p : List Byte) : Nat := pl p 32 32

/-- The Assay engine takes no request: it is off, loading or faulted (R17, R94). -/
def Hub.assayBusy (s : Hub) : Bool := s.asy.engine != 2

/-- A request to the partition waits for the Assay engine, or runs at once (R94). (Log entry 30: DEDUCED, unsafe) -/
def Hub.request (s : Hub) (f : Hub → Reply × Hub) : Reply × Hub := if s.assayBusy then (.later 1, s) else f s

def chanEnableBody (p : List Byte) (s : Hub) : Reply × Hub :=
  let en := pl p 64 1
  guarded [(p.length ≠ 68, stBAD_LEN), (maskHigh p ≠ 0 ∨ en > 1 ∨ ¬ plZero p 65 3, stBAD_ARG)] s fun s =>
  s.request fun s => okay s.firstCross (s.eachBit 256 (maskBits p) fun s n => s.setEn n (en == 1))

def chanSetTrimBody (p : List Byte) (s : Hub) : Reply × Hub :=
  let first := pl p 0 2
  let count := pl p 2 2
  guarded [(p.length ≠ 4 + count, stBAD_LEN), (count = 0 ∨ count > 256 ∨ first + count > 256, stBAD_ARG)] s fun s =>
  s.request fun s => okay s.firstCross (s.each (List.range count) fun s i => s.setTrim (first + i) (pl p (4 + i) 1))

def chanSetSkewBody (p : List Byte) (s : Hub) : Reply × Hub :=
  let first := pl p 0 2
  let count := pl p 2 2
  let skew := fun i => toS 8 (pl p (4 + i) 1)
  guarded [(p.length ≠ 4 + count, stBAD_LEN),
    (count = 0 ∨ count > 256 ∨ first + count > 256 ∨ (List.range count).any (fun i => decide (skew i < -32) || decide (skew i > 31)), stBAD_ARG),
    (s.modeIn [mRUN, mPULSE], stBAD_MODE)] s fun s =>
  s.request fun s => okay s.firstCross (s.each (List.range count) fun s i => s.setFld (AFE_CH_CFG (first + i)) 21 16 (ofS 6 (skew i)))

/-- RANGE_MODE encodings that are not reserved (R89). -/
def rangeModeOk (m : Nat) : Bool := m = 0 || m = 4 || m = 5 || m = 6

def chanSetRangeBody (p : List Byte) (s : Hub) : Reply × Hub :=
  let m := pl p 64 1
  guarded [(p.length ≠ 68, stBAD_LEN), (¬ rangeModeOk m ∨ maskHigh p ≠ 0 ∨ ¬ plZero p 65 3, stBAD_ARG),
    (s.modeIn [mRUN, mPULSE], stBAD_MODE)] s fun s =>
  s.request fun s => okay s.firstCross (s.eachBit 256 (maskBits p) fun s n => s.setFld (AFE_CH_CFG n) 26 24 m)

def chanResetBody (p : List Byte) (s : Hub) : Reply × Hub :=
  let k := pl p 64 1
  guarded [(p.length ≠ 68, stBAD_LEN), (k = 0 ∨ k > 8 ∨ maskHigh p ≠ 0 ∨ ¬ plZero p 65 3, stBAD_ARG),
    (s.mode = mIDLE, stBAD_MODE)] s fun s =>
  s.request fun s => okay s.firstCross (s.eachBit 256 (maskBits p) fun s n => s.closeReset n k)

def chanSetAfeBody (p : List Byte) (s : Hub) : Reply × Hub :=
  let hyst := pl p 0 1
  let hold := pl p 1 1
  let tol := pl p 2 1
  let ramp := pl p 3 1
  guarded [(p.length ≠ 4, stBAD_LEN),
    (hyst = 0 ∨ hyst > 15 ∨ tol = 0 ∨ tol > 15 ∨ ramp = 0 ∨ hold = 0 ∨ hold > 8, stBAD_ARG),
    (s.modeIn [mRUN, mPULSE], stBAD_MODE)] s fun s =>
  s.request fun s => okay s.firstCross
    ((((s.setFld AFE_CTRL 3 0 hyst).setFld AFE_CTRL 6 4 (hold - 1)).setFld AFE_CTRL 19 16 tol).setFld AFE_CTRL 15 8 ramp)

/-- AFE_CH_STAT with its live bits: RESETTING also shows a disabled channel's closed switch and the restore closure of
R81 (the next crossing is blanked too), RANGE_NOW the held or fixed range (R73). (Log entry 31: DEDUCED, unsafe) -/
def Hub.chStat (s : Hub) (n : Nat) : Nat :=
  let x := s.ahead
  let nextBlank := actsBlank s.comingMode && ((x.effective x.tt.crossing x.tt.turn % 2 == 1) || (s.tt.pin2 && s.bit TT_CTRL 4))
  let restore := s.bit TT_CTRL 6 && s.now.blank && nextBlank
  let closed := s.resetClosed n || !s.abit (AFE_CH_CFG n) 0 || restore
  putBits (putBits (s.reg (AFE_CH_STAT n)) 18 18 (b2n closed)) 17 16 ((s.fixedRange n).getD (s.chan n).h)

/-- Some trim of quadrant q has not reached its target. (Log entry 26: DEDUCED, unsafe) -/
def Hub.quadRamping (s : Hub) (q : Nat) : Bool :=
  s.chans.any fun (n, c) => n / 64 == q && c.rampNext.isSome

/-- AFE_STATUS: RAMPING, RETIRED, ROTATING and Q_READY as they stand. (Log entry 26: DEDUCED, unsafe) -/
def Hub.afeStatus (s : Hub) : Nat :=
  let f : (Nat → Bool) → Nat := fun p => (List.range 4).foldl (fun a q => a + b2n (p q) * 2 ^ q) 0
  b2n ((List.range 4).any s.quadRamping) * 2 ^ 12 + f s.retired * 2 ^ 8 +
    f (fun q => (s.quad q).conn.isSome) * 2 ^ 4 + f (fun q => (s.quad q).on && !s.quadRamping q)

def chanGetStatusBody (p : List Byte) (s : Hub) : Reply × Hub :=
  let first := pl p 0 2
  let count := pl p 2 2
  guarded [(p.length ≠ 4, stBAD_LEN), (count = 0 ∨ count > 256 ∨ first + count > 256, stBAD_ARG)] s fun s =>
  okay (words ((List.range count).map fun i => s.chStat (first + i))) s

def chanGetAdcMapBody (p : List Byte) (s : Hub) : Reply × Hub :=
  guarded [(p.length ≠ 0, stBAD_LEN)] s fun s =>
  okay (words ((List.range 4).map (fun q => s.reg (AFE_ADC_MAP q)) ++ [s.reg AFE_HO_FAIL, s.afeStatus])) s

def execChanEnable (h : Hdr) (p : List Byte) := lift fun s => s.commandChan 0x0401 h p chanEnableBody
def execChanSetTrim (h : Hdr) (p : List Byte) := lift fun s => s.commandChan 0x0402 h p chanSetTrimBody
def execChanSetSkew (h : Hdr) (p : List Byte) := lift fun s => s.commandChan 0x0403 h p chanSetSkewBody
def execChanSetRange (h : Hdr) (p : List Byte) := lift fun s => s.commandChan 0x0404 h p chanSetRangeBody
def execChanReset (h : Hdr) (p : List Byte) := lift fun s => s.commandChan 0x0405 h p chanResetBody
def execChanSetAfe (h : Hdr) (p : List Byte) := lift fun s => s.command 0x0406 h p (chanSetAfeBody p)
def execChanGetStatus (h : Hdr) (p : List Byte) := lift fun s => s.commandChan 0x0407 h p chanGetStatusBody
def execChanGetAdcMap (h : Hdr) (p : List Byte) := lift fun s => s.command 0x0408 h p (chanGetAdcMapBody p)

end Sys2Proof.Machine
end

