-- ==== Sys2Proof/Machine/Crypto.lean ====
section
/-! DEFINITION. The standard checks and digests the spec names: CRC-16 (R414), CRC-32C, SHA-256, HMAC-SHA-256 and ECDSA
P-256 (R98, R103, R112, R463). The spec names the last four and gives no constants; they are those of the published
standards (see the assumption log). -/

namespace Sys2Proof.Machine

/-! ### Cyclic redundancy checks -/

/-- One bit of a most-significant-first CRC of width `w`. -/
def crcStep (w poly : Nat) (c : Nat) (b : Bool) : Nat :=
  let top := (c / 2 ^ (w - 1)) % 2 == 1
  let c' := (c * 2) % 2 ^ w
  if top != b then c' ^^^ poly else c'

/-- A CRC over bits in the order they are sent, most significant register bit first, no final inversion. -/
def crcBits (w poly init : Nat) (bs : List Bool) : Nat := bs.foldl (crcStep w poly) init

/-- CRC-16 of R414: polynomial 0x1021, initial value 0xFFFF, no reflection, no final inversion. -/
def crc16 (bs : List Byte) : Nat := crcBits 16 0x1021 0xFFFF (bytesToBitsMsb bs)

/-- One bit of a reflected CRC. -/
def crcStepR (poly : Nat) (c : Nat) (b : Bool) : Nat :=
  let low := c % 2 == 1
  let c' := c / 2
  if low != b then c' ^^^ poly else c'

/-- CRC-32C: reflected polynomial 0x82F63B78, initial value and final inversion of all ones. (Log entry 33: PRESUMED, unsafe) -/
def crc32c (bs : List Byte) : Nat :=
  (bs.foldl (fun c b => (bitsLsb 8 b.toNat).foldl (crcStepR 0x82F63B78) c) 0xFFFFFFFF) ^^^ 0xFFFFFFFF

/-! ### SHA-256 and HMAC -/

def shaH0 : List Nat :=
  [0x6A09E667, 0xBB67AE85, 0x3C6EF372, 0xA54FF53A, 0x510E527F, 0x9B05688C, 0x1F83D9AB, 0x5BE0CD19]

def shaK : List Nat :=
  [0x428A2F98, 0x71374491, 0xB5C0FBCF, 0xE9B5DBA5, 0x3956C25B, 0x59F111F1, 0x923F82A4, 0xAB1C5ED5,
   0xD807AA98, 0x12835B01, 0x243185BE, 0x550C7DC3, 0x72BE5D74, 0x80DEB1FE, 0x9BDC06A7, 0xC19BF174,
   0xE49B69C1, 0xEFBE4786, 0x0FC19DC6, 0x240CA1CC, 0x2DE92C6F, 0x4A7484AA, 0x5CB0A9DC, 0x76F988DA,
   0x983E5152, 0xA831C66D, 0xB00327C8, 0xBF597FC7, 0xC6E00BF3, 0xD5A79147, 0x06CA6351, 0x14292967,
   0x27B70A85, 0x2E1B2138, 0x4D2C6DFC, 0x53380D13, 0x650A7354, 0x766A0ABB, 0x81C2C92E, 0x92722C85,
   0xA2BFE8A1, 0xA81A664B, 0xC24B8B70, 0xC76C51A3, 0xD192E819, 0xD6990624, 0xF40E3585, 0x106AA070,
   0x19A4C116, 0x1E376C08, 0x2748774C, 0x34B0BCB5, 0x391C0CB3, 0x4ED8AA4A, 0x5B9CCA4F, 0x682E6FF3,
   0x748F82EE, 0x78A5636F, 0x84C87814, 0x8CC70208, 0x90BEFFFA, 0xA4506CEB, 0xBEF9A3F7, 0xC67178F2]

/-- Addition modulo 2^32. -/
def add32 (a b : Nat) : Nat := (a + b) % 2 ^ 32

/-- Rotation right of a 32-bit word. -/
def rotr32 (x n : Nat) : Nat := (x / 2 ^ n + x % 2 ^ n * 2 ^ (32 - n)) % 2 ^ 32

/-- Extend the 16 words of a block by `n` words, newest first. -/
def shaExtend : Nat → List Nat → List Nat
  | 0, w => w
  | n + 1, w =>
    let g := fun i => w.getD i 0
    let x := g 14
    let y := g 1
    let s0 := rotr32 x 7 ^^^ rotr32 x 18 ^^^ (x / 2 ^ 3)
    let s1 := rotr32 y 17 ^^^ rotr32 y 19 ^^^ (y / 2 ^ 10)
    shaExtend n (add32 (add32 (g 15) s0) (add32 (g 6) s1) :: w)

/-- The eight working variables of a round. -/
structure ShaSt where
  a : Nat
  b : Nat
  c : Nat
  d : Nat
  e : Nat
  f : Nat
  g : Nat
  h : Nat

/-- One round. -/
def shaRound (s : ShaSt) (kw : Nat × Nat) : ShaSt :=
  let s1 := rotr32 s.e 6 ^^^ rotr32 s.e 11 ^^^ rotr32 s.e 25
  let ch := (s.e &&& s.f) ^^^ ((0xFFFFFFFF - s.e) &&& s.g)
  let t1 := add32 (add32 s.h s1) (add32 ch (add32 kw.1 kw.2))
  let s0 := rotr32 s.a 2 ^^^ rotr32 s.a 13 ^^^ rotr32 s.a 22
  let mj := (s.a &&& s.b) ^^^ (s.a &&& s.c) ^^^ (s.b &&& s.c)
  { a := add32 t1 (add32 s0 mj), b := s.a, c := s.b, d := s.c, e := add32 s.d t1, f := s.e, g := s.f, h := s.g }

/-- One block of 64 bytes. -/
def shaBlock (h : List Nat) (blk : List Byte) : List Nat :=
  let w0 := ((chunks 4 16 blk).map beNat).reverse
  let w := (shaExtend 48 w0).reverse
  let g := fun i => h.getD i 0
  let s := (shaK.zip w).foldl shaRound ⟨g 0, g 1, g 2, g 3, g 4, g 5, g 6, g 7⟩
  [add32 (g 0) s.a, add32 (g 1) s.b, add32 (g 2) s.c, add32 (g 3) s.d,
   add32 (g 4) s.e, add32 (g 5) s.f, add32 (g 6) s.g, add32 (g 7) s.h]

/-- A message padded to whole blocks. -/
def shaPad (m : List Byte) : List Byte :=
  let n := m.length
  m ++ [0x80] ++ List.replicate ((119 - n % 64) % 64) 0 ++ beBytes 8 (8 * n)

/-- SHA-256. (Log entry 33: PRESUMED, unsafe) -/
def sha256 (m : List Byte) : List Byte :=
  let p := shaPad m
  ((chunks 64 (p.length / 64 + 1) p).foldl shaBlock shaH0).flatMap (beBytes 4)

/-- HMAC-SHA-256 with a 32-byte key. (Log entry 33: PRESUMED, unsafe) -/
def hmac (key m : List Byte) : List Byte :=
  let k := key ++ List.replicate (64 - key.length) 0
  sha256 (k.map (· ^^^ 0x5C) ++ sha256 (k.map (· ^^^ 0x36) ++ m))

/-! ### ECDSA over P-256 -/

def p256P : Nat := 0xFFFFFFFF00000001000000000000000000000000FFFFFFFFFFFFFFFFFFFFFFFF
def p256N : Nat := 0xFFFFFFFF00000000FFFFFFFFFFFFFFFFBCE6FAADA7179E84F3B9CAC2FC632551
def p256B : Nat := 0x5AC635D8AA3A93E7B3EBBD55769886BC651D06B0CC53B0F63BCE3C3E27D2604B
def p256Gx : Nat := 0x6B17D1F2E12C4247F8BCE6E563A440F277037D812DEB33A0F4A13945D898C296
def p256Gy : Nat := 0x4FE342E2FE1A7F9B8EE7EB4A7C0F9E162BCE33576B315ECECBB6406837BF51F5

/-- `b ^ e mod m` for an exponent of `n` bits. -/
def powMod (m : Nat) : Nat → Nat → Nat → Nat
  | 0, _, _ => 1 % m
  | n + 1, b, e => let r := powMod m n (b * b % m) (e / 2); if e % 2 = 1 then r * b % m else r

/-- The inverse of `a` modulo a prime `m` of at most 256 bits. -/
def invMod (m a : Nat) : Nat := powMod m 256 a (m - 2)

/-- Subtraction modulo the field prime. -/
def subP (a b : Nat) : Nat := (a + p256P - b % p256P) % p256P

/-- Addition of two points; `none` is the point at infinity. -/
def ecAdd : Option (Nat × Nat) → Option (Nat × Nat) → Option (Nat × Nat)
  | none, q => q
  | p, none => p
  | some (x1, y1), some (x2, y2) =>
    if x1 = x2 ∧ (y1 + y2) % p256P = 0 then none
    else
      let l := if x1 = x2 then (3 * x1 * x1 + p256P - 3) * invMod p256P (2 * y1 % p256P) % p256P
        else subP y2 y1 * invMod p256P (subP x2 x1) % p256P
      let x3 := subP (subP (l * l % p256P) x1) x2
      some (x3, subP (l * subP x1 x3 % p256P) y1)

/-- `k` times a point, for a `k` of `n` bits. -/
def ecMul : Nat → Nat → Option (Nat × Nat) → Option (Nat × Nat)
  | 0, _, _ => none
  | n + 1, k, p => let r := ecMul n (k / 2) (ecAdd p p); if k % 2 = 1 then ecAdd p r else r

/-- (x, y) is a point of the curve. -/
def onCurve (x y : Nat) : Bool :=
  decide (x < p256P) && decide (y < p256P) && (y * y) % p256P == (x * x * x + (p256P - 3) * x + p256B) % p256P

/-- The signature (r, s) over a message digest verifies against the public key (x, y). (Log entry 33: PRESUMED, unsafe) -/
def ecdsaVerify (x y r s : Nat) (digest : List Byte) : Bool :=
  onCurve x y && decide (0 < r) && decide (r < p256N) && decide (0 < s) && decide (s < p256N) &&
    (let z := beNat digest
     let w := invMod p256N s
     match ecAdd (ecMul 256 (z * w % p256N) (some (p256Gx, p256Gy))) (ecMul 256 (r * w % p256N) (some (x, y))) with
     | none => false
     | some (px, _) => px % p256N == r)

end Sys2Proof.Machine
end

