-- ==== Sys2Proof/Machine/AssayUnit.lean ====
section
/-! DEFINITION. The Assay partition: bank stores, the hallmark, the seal and the ASSAY commands (04_assay_partition.md). -/

namespace Sys2Proof.Machine

/-! ### The Assay memory (R97-R100) -/

/-- A byte of the Assay memory; an erased byte reads 0xFF. -/
def Hub.nor (s : Hub) (a : Nat) : Nat := tget (fun _ => 0xFF) s.asy.nor a

/-- `n` bytes of bank `b` from an offset. -/
def Hub.bankBytes (s : Hub) (b off n : Nat) : List Byte :=
  (List.range n).map fun i => BitVec.ofNat 8 (s.nor (0x4000 * b + off + i))

/-- The device key as bytes. (Log entry 35: DEDUCED, unsafe) -/
def deviceKeyBytes : List Byte := leBytes 32 Config.deviceKey.toNat

/-- DEVICE_ID as bytes. (Log entry 35: DEDUCED, unsafe) -/
def deviceIdBytes : List Byte := leBytes 8 Config.deviceId.toNat

/-- The bytes 0x0500-0x170F of a bank hold no implausible value (R96). -/
def plausibleBank (byte : Nat → Nat) : Bool :=
  let w := fun o => byte o + 256 * byte (o + 1)
  ((List.range 256).all fun n => (List.range 3).all fun r =>
      ofsPlausible (toS 16 (w (0x500 + 16 * n + 2 * r))) && gainPlausible (w (0x508 + 16 * n + 2 * r))) &&
    (List.range 260).all fun i => ofsPlausible (toS 16 (w (0x1500 + 2 * i)))

/-- Bank `b` is valid (R100). -/
def Hub.bankValid (s : Hub) (b : Nat) : Bool :=
  leNat (s.bankBytes b 0 4) == 0x41535931 && leNat (s.bankBytes b 4 2) == 1 &&
    leNat (s.bankBytes b 0x1734 4) == 0x434F4D54 &&
    leNat (s.bankBytes b 0x1710 4) == crc32c (s.bankBytes b 0 0x1710) &&
    s.bankBytes b 0x1714 32 == hmac deviceKeyBytes (s.bankBytes b 0 0x1714) &&
    plausibleBank fun o => s.nor (0x4000 * b + o)

/-- SEQ of bank `b`. -/
def Hub.bankSeq (s : Hub) (b : Nat) : Nat := leNat (s.bankBytes b 8 4)

/-- Bytes 0x0000-0x170F of bank `b` as constants in use. -/
def Hub.bankImage (s : Hub) (b : Nat) : List (Nat × Nat) :=
  (List.range 0x1710).foldl (fun t i => tset nominalByte t i (s.nor (0x4000 * b + i))) []

/-- Choose the bank in use and take its constants, or the nominal ones (R100). -/
def Hub.chooseBank (s : Hub) : Hub :=
  let a := s.bankValid 0
  let b := s.bankValid 1
  let inUse := if a ∧ b then (if s.bankSeq 1 > s.bankSeq 0 then some 1 else some 0)
    else if a then some 0 else if b then some 1 else none
  let img := (inUse.map s.bankImage).getD []
  { s with asy := { s.asy with
      validA := a, validB := b, seqA := if a then s.bankSeq 0 else 0,
      seqB := if b then s.bankSeq 1 else 0, bankInUse := inUse, img := img, imgAct := img } }

/-! ### The hallmark (R103, R105) -/

/-- REF_DIGEST of the reference block in use. -/
def Hub.refDigest (s : Hub) : List Byte := sha256 (imgBytes s.asy.img 0x100 0x400)

/-- SEAL_MAC (R103). -/
def sealMac (fw ref : List Byte) (hm : Nat) : List Byte :=
  hmac deviceKeyBytes ([0x48, 0x4C, 0x4D, 0x01] ++ fw ++ ref ++ [BitVec.ofNat 8 hm])

/-- The hallmark fields of a bank: FW_DIGEST, REF_DIGEST, SEAL_MAC and HM_COUNT. -/
def Hub.hmFw (s : Hub) (b : Nat) : List Byte := s.bankBytes b 0x14 32
def Hub.hmRef (s : Hub) (b : Nat) : List Byte := s.bankBytes b 0x34 32
def Hub.hmMac (s : Hub) (b : Nat) : List Byte := s.bankBytes b 0x54 32
def Hub.hmCount (s : Hub) (b : Nat) : Nat := s.nor (0x4000 * b + 0x10)

/-- SEAL_MAC of bank `b` verifies. -/
def Hub.macOk (s : Hub) (b : Nat) : Bool := s.hmMac b == sealMac (s.hmFw b) (s.hmRef b) (s.hmCount b)

/-- The bank whose hallmark is in use, if one is (R103). -/
def Hub.hallmark (s : Hub) : Option Nat :=
  match s.asy.bankInUse with
  | some b => if s.macOk b ∧ s.hmCount b = s.asy.otp then some b else none
  | none => none

/-- The digests now equal those of the hallmark in use (R108, R109). -/
def Hub.unchanged (s : Hub) : Bool :=
  match s.hallmark with
  | some b => s.hmFw b == s.asy.fwDigest && s.hmRef b == s.refDigest
  | none => false

/-- A change of the seal state, reported with EV_SEAL_STATE (R110). -/
def Hub.setSeal (s : Hub) (st cause : Nat) : Hub :=
  if s.asy.sealSt = st ∧ s.asy.cause = cause then s
  else
    let s' := { s with asy := { s.asy with sealSt := st, cause := cause } }
    if s.asy.sealSt = st then s' else s'.emit 0x1001 [st, cause, s.asy.otp]

/-- EV_HALLMARK_RENEWED: the new HM_COUNT, the bank and its SEQ (R108). -/
def Hub.renewed (s : Hub) (b : Nat) : Hub := s.emit 0x1004 [s.asy.otp, b, s.bankSeq b]

/-- Verify the hallmark after a load (R105), completing a burn that was cut off (R110). -/
def Hub.verifyHallmark (s : Hub) : Hub :=
  match s.asy.bankInUse with
  | none => s.setSeal 2 1
  | some b =>
    if s.hmFw b ≠ s.asy.fwDigest then s.setSeal 2 2
    else if s.hmRef b ≠ s.refDigest then s.setSeal 2 3
    else if ¬ s.macOk b then s.setSeal 2 4
    else if s.hmCount b = s.asy.otp then s.setSeal 0 0
    else if s.hmCount b = s.asy.otp + 1 ∧ s.asy.otp < 32 then
      (({ s with asy := { s.asy with otp := s.asy.otp + 1 } }).setSeal 0 0).renewed b
    else s.setSeal 2 5

/-! ### Stores (R99, R101, R102, R108) -/

/-- The bank that a store writes and the SEQ it gives it (R99, R102). -/
def Hub.storeTarget (s : Hub) : Nat × Nat :=
  match s.asy.bankInUse with
  | some b => (1 - b, (s.bankSeq b + 1) % 2 ^ 32)
  | none => (0, 1)

/-- The reference block as it was loaded or last renewed: that of the bank in use, or the nominal one. An unsealed change is not in it.
(Log entry 248: DEDUCED, unsafe) -/
def Hub.refKept (s : Hub) : List Byte :=
  match s.asy.bankInUse with
  | some b => s.bankBytes b 0x100 0x400
  | none => imgBytes [] 0x100 0x400

/-- The reference block that a store writes: a renewal's is the one in use, while a working-block store leaves the block that the hallmark
seals, since an unsealed change lasts until the next load (R108, R109). (Log entry 248: DEDUCED, unsafe) -/
def Hub.storeRef (s : Hub) (kind : Nat) : List Byte := if kind = 1 then imgBytes s.asy.img 0x100 0x400 else s.refKept

/-- Bytes 0x0000-0x1733 of a store of the working block `work`: the header by R98 and R102, the reference block, CRC and BANK_MAC. -/
def Hub.storeImage (s : Hub) (kind : Nat) (work : List (Nat × Nat)) : List Byte :=
  let (_, seq) := s.storeTarget
  let block := s.storeRef kind
  let digest := sha256 block
  let (hm, fw, ref, mac) :=
    if kind = 1 then
      (s.asy.otp + 1, s.asy.fwDigest, digest, sealMac s.asy.fwDigest digest (s.asy.otp + 1))
    else match s.hallmark with
      | some b => (s.hmCount b, s.hmFw b, s.hmRef b, s.hmMac b)
      | none => (s.asy.otp, s.asy.fwDigest, digest, List.replicate 32 0)
  let body := leBytes 4 0x41535931 ++ leBytes 2 1 ++ [0, 0] ++ leBytes 4 seq ++ leBytes 4 (s.reg TM_SEC) ++
    [BitVec.ofNat 8 hm, 0, 0, 0] ++ fw ++ ref ++ mac ++ List.replicate 0x8C 0 ++ block ++ imgBytes work 0x500 0x1210
  let withCrc := body ++ leBytes 4 (crc32c body)
  withCrc ++ hmac deviceKeyBytes withCrc

/-- Erase a bank's sectors. -/
def eraseBank (nor : List (Nat × Nat)) (b : Nat) : List (Nat × Nat) :=
  nor.filter fun x => !(decide (0x4000 * b ≤ x.1) && decide (x.1 < 0x4000 * (b + 1)))

/-- Program bytes of the Assay memory. -/
def norPuts (nor : List (Nat × Nat)) (a : Nat) : List Byte → List (Nat × Nat)
  | [] => nor
  | b :: bs => norPuts (tset (fun _ => 0xFF) nor a b.toNat) (a + 1) bs

/-- Start a store of the working block `work`: the bank not in use is erased first, so it is invalid until COMMIT (R99, R100).
(Log entry 38: DEDUCED, unsafe) -/
def Hub.startStore (s : Hub) (kind : Nat) (work : List (Nat × Nat)) : Hub :=
  let (b, seq) := s.storeTarget
  let img := (s.storeImage kind work).zipIdx.map fun (x, i) => (i, x.toNat)
  { s with asy := { s.asy with
      nor := eraseBank s.asy.nor b,
      storing := some { kind := kind, bank := b, seq := seq, image := img, retried := false },
      pending := if kind = 0 then false else s.asy.pending, pendImg := if kind = 0 then [] else s.asy.pendImg,
      validA := if b = 0 then false else s.asy.validA, validB := if b = 1 then false else s.asy.validB,
      seqA := if b = 0 then 0 else s.asy.seqA, seqB := if b = 1 then 0 else s.asy.seqB } }

/-- A condition defers a working-block store (R101). -/
def Hub.storeDeferred (s : Hub) : Bool := s.bit RP_SUPPLY 8 || s.asy.sealSt == 1 || s.asy.storing.isSome

/-- Request a working-block store: deferred ones are held as STORE_PENDING, the latest replacing an older one (R101). -/
def Hub.requestStore (s : Hub) : Hub :=
  if s.storeDeferred then
    { s with asy := { s.asy with pending := true, pendImg := s.asy.img, deferrals := satInc 8 s.asy.deferrals } }
  else s.startStore 0 s.asy.img

/-- The partition's clocks run: in LOADING it is in retention, or loads (R446, R22). -/
def Hub.assayActs (s : Hub) : Bool := s.mode != mLOADING

/-- STORE_PENDING_START: no deferring condition remains, and the working block as it was requested is stored (R101). (Log entry 41: DEDUCED, safe) -/
def Hub.pendingStart (s : Hub) : Hub :=
  if s.assayActs ∧ s.asy.pending ∧ ¬ s.storeDeferred then s.startStore 0 s.asy.pendImg else s

def execStorePendingStart := lift Hub.pendingStart

/-- The store's deferred commands: ASSAY_STORE for a working-block store, ASSAY_SEAL for a renewal. -/
def storeCmd (kind : Nat) (d : Def) : Bool := if kind = 0 then d.op == 0x1006 && d.arg != 1 else d.op == 0x1004 && d.arg != 1

/-- The constants that calibration accepts, as bytes: PED and GAIN of every channel, and TREF. -/
def calBytes (img : List (Nat × Nat)) : List Byte := imgBytes img 0x500 0x1000 ++ imgBytes img 0x1708 8

/-- Bytes 0x0000-0x1733 of a store as an image. -/
def Store.asImage (st : Store) : List (Nat × Nat) := st.image.foldl (fun t x => tset nominalByte t x.1 x.2) []

/-- The image of the bank in use takes the header of a new one (R115). -/
def newHeader (img : List (Nat × Nat)) (st : Store) : List (Nat × Nat) :=
  (st.image.filter fun x => decide (x.1 < 0x100)).foldl (fun t x => tset nominalByte t x.1 x.2) img

/-- The bytes that a store has programmed. -/
def Store.bytes (st : Store) : List Byte := st.image.map fun x => BitVec.ofNat 8 x.2

/-- ASSAY_STORE_COMPLETE: the read-back agreed and COMMIT was programmed, or it failed: once it is retried, twice the store
fails and leaves what it programmed without COMMIT (R99). A renewal then burns one OTP bit and seals (R108). A bank that holds the
constants in use clears UNSTORED (R133). (Log entry 38: DEDUCED, unsafe) -/
def Hub.storeComplete (s : Hub) (good : Bool) : Hub :=
  match if s.assayActs then s.asy.storing else none with
  | none => s
  | some st =>
    let base := eraseBank s.asy.nor st.bank
    if good then
      let nor := norPuts base (0x4000 * st.bank) (st.bytes ++ leBytes 4 0x434F4D54)
      let s := if calBytes st.asImage = calBytes s.asy.img then s.setBit CAL_STATUS 12 false else s
      let s := { s with asy := { s.asy with
          nor := nor, img := newHeader s.asy.img st, storing := none, bankInUse := some st.bank, stores := wrapInc 16 s.asy.stores,
          lastStoreXo := some s.xo,
          validA := if st.bank = 0 then true else s.asy.validA, validB := if st.bank = 1 then true else s.asy.validB,
          seqA := if st.bank = 0 then st.seq else s.asy.seqA, seqB := if st.bank = 1 then st.seq else s.asy.seqB } }
      let s := s.emit 0x1002 [st.bank, st.seq, st.kind]
      if st.kind = 1 then
        let s := { s with asy := { s.asy with otp := min 32 (s.asy.otp + 1) } }
        let s := (s.setSeal 0 0).renewed st.bank
        s.complete (storeCmd 1) stOK ([BitVec.ofNat 8 s.asy.otp, 1, 0, 0] ++ leBytes 4 st.seq)
      else
        s.complete (storeCmd 0) stOK (leBytes 4 st.seq ++ [BitVec.ofNat 8 st.bank])
    else if ¬ st.retried then { s with asy := { s.asy with storing := some { st with retried := true } } }
    else
      let s := { s with asy := { s.asy with
          nor := norPuts base (0x4000 * st.bank) st.bytes, storing := none, storeFail := satInc 8 s.asy.storeFail } }
      let s := s.emit 0x1003 [st.bank, st.seq, st.kind, s.asy.storeFail]
      s.complete (storeCmd st.kind) stINTEGRITY []

def execAssayStoreComplete (good : Bool) := lift fun s => s.storeComplete good

/-! ### The Assay window (R115) -/

def Hub.asyStatus (s : Hub) : Nat :=
  b2n s.asy.storing.isSome * 2 ^ 10 + b2n s.asy.pending * 2 ^ 9 + b2n (s.bit RP_SUPPLY 8) * 2 ^ 8 +
    (match s.asy.bankInUse with | some b => b | none => 2) * 2 ^ 4 + s.asy.engine

/-- ASY_SEAL; CHANGED reads 0, its reset value, until the Assay engine has loaded. -/
def Hub.asySeal (s : Hub) : Nat :=
  s.asy.otp * 2 ^ 8 + s.asy.cause * 2 ^ 4 + b2n (decide (2 ≤ s.asy.engine) && !s.unchanged) * 2 ^ 3 + b2n s.asy.sealEn * 2 ^ 2 + s.asy.sealSt

def Hub.asyBank (s : Hub) : Nat :=
  (match s.asy.bankInUse with | some b => b | none => 0) * 4 + b2n s.asy.validB * 2 + b2n s.asy.validA

def Hub.asyStore (s : Hub) : Nat := s.asy.stores * 2 ^ 16 + s.asy.deferrals * 2 ^ 8 + s.asy.storeFail

/-- The hallmark's FW_DIGEST, REF_DIGEST and SEAL_MAC in the bank in use; zeros when there is no bank in use. (Log entry 39: DEDUCED, unsafe) -/
def Hub.hmField (s : Hub) (f : Nat → List Byte) : List Byte :=
  match s.asy.bankInUse with | some b => f b | none => List.replicate 32 0

/-- A word of the Assay window at a byte offset. (Log entry 39: DEDUCED, unsafe) -/
def Hub.asyWord (s : Hub) (o : Nat) : Nat :=
  if o = 0 then s.asyStatus else if o = 4 then s.asySeal else if o = 8 then s.asyBank else if o = 0xC then s.asyStore
  else if o = 0x10 then Config.deviceId.toNat % 2 ^ 32 else if o = 0x14 then Config.deviceId.toNat / 2 ^ 32
  else if o = 0x18 then s.asy.seqA else if o = 0x1C then s.asy.seqB
  else if 0x20 ≤ o ∧ o < 0x40 then pl (s.hmField s.hmFw) (o - 0x20) 4
  else if 0x40 ≤ o ∧ o < 0x60 then pl (s.hmField s.hmRef) (o - 0x40) 4
  else if 0x60 ≤ o ∧ o < 0x80 then pl (s.hmField s.hmMac) (o - 0x60) 4
  else if 0x1000 ≤ o ∧ o < 0x2710 then imgGet s.asy.img (o - 0x1000) 4
  else if 0x8000 ≤ o ∧ o < 0x8400 then tget (fun _ => 0) s.asy.raw ((o - 0x8000) / 4)
  else 0

/-! ### ASSAY commands (R107-R114) -/

/-- An ASSAY command of another length is refused; each ends a nonce (R112), and waits for the Assay engine when that takes no request.
(Log entry 37: DEDUCED, unsafe) -/
def Hub.assayCmd (s : Hub) (wrongLen : Bool) (f : Hub → Reply × Hub) : Reply × Hub :=
  let x := guarded [(wrongLen, stBAD_LEN)] s fun s => s.request f
  (x.1, x.2.dropNonce)

def assayStatusBody (p : List Byte) (s : Hub) : Reply × Hub :=
  s.assayCmd (p.length ≠ 0) fun s =>
  okay (words [s.asyStatus, s.asySeal, s.asyBank, s.asy.seqA, s.asy.seqB, s.asyStore]) s

def assayChallengeBody (p : List Byte) (s : Hub) : Reply × Hub :=
  guarded [(p.length ≠ 0, stBAD_LEN)] s.dropNonce fun s =>
  s.request fun s =>
    let n := (Config.nonce s.free).toNat
    okay (leBytes 16 n ++ deviceIdBytes ++ [BitVec.ofNat 8 s.asy.otp])
      { s with free := s.free + 1, asy := { s.asy with nonce := some (n, (s.xo, s.asy.otp)) } }

/-- The 1 s for which a nonce stays valid, in XO cycles. -/
def nonceLife : Nat := 40000000

/-- The nonce that is valid now, with the OTP count that its response carried. -/
def Hub.liveNonce (s : Hub) : Option (Nat × Nat) :=
  match s.asy.nonce with | some (n, (t, otp)) => if s.xo < t + nonceLife then some (n, otp) else none | none => none

/-- The key and signature of ASSAY_OPEN are good for the nonce (R112). (Log entry 35: DEDUCED, unsafe) -/
def Hub.openSigned (s : Hub) (p : List Byte) : Bool :=
  match s.liveNonce, Config.ownerKeyHash with
  | some (n, otp), some k =>
    leNat (sha256 (p.take 64)) == k.toNat &&
      ecdsaVerify (beNat (p.take 32)) (beNat ((p.drop 32).take 32)) (beNat ((p.drop 64).take 32)) (beNat ((p.drop 96).take 32))
        (sha256 (leBytes 16 n ++ deviceIdBytes ++ [BitVec.ofNat 8 otp]))
  | _, _ => false

def assayOpenBody (p : List Byte) (s : Hub) : Reply × Hub :=
  s.assayCmd (p.length ≠ 128) fun s =>
  guarded [(s.asy.sealEnRun < 2 ∨ ¬ s.openSigned p ∨ s.asy.sealSt = 1, stDENIED), (s.asy.otp ≥ 32, stNO_RESOURCE),
    (¬ s.modeIn [mIDLE, mPREPARE, mHOLD, mTEST], stBAD_MODE)] s fun s =>
  okay [] (s.setSeal 1 0)

def assaySealBody (p : List Byte) (s : Hub) : Reply × Hub :=
  s.assayCmd (p.length ≠ 0) fun s =>
  guarded [(s.asy.sealSt ≠ 1, stDENIED), (s.asy.storing.isSome ∨ s.bit RP_SUPPLY 8, stBUSY)] s fun s =>
  if s.unchanged then
    okay ([BitVec.ofNat 8 s.asy.otp, 0, 0, 0] ++ leBytes 4 (match s.asy.bankInUse with | some b => s.bankSeq b | none => 0))
      (s.setSeal 0 0)
  else (.later 2, s.startStore 1 s.asy.img)

/-- A byte of the reference block that R127 reserves: it holds 0. -/
def refReserved (o : Nat) : Bool := o = 0x31D || (decide (0x322 ≤ o) && decide (o < 0x500))

/-- Write bytes of the reference block in use (R113). -/
def Hub.writeRef (s : Hub) (off : Nat) (bs : List Byte) : Hub :=
  { s with asy := { s.asy with img := bs.zipIdx.foldl (fun t (b, i) =>
      tset nominalByte t (0x100 + off + i) (if refReserved (0x100 + off + i) then 0 else b.toNat)) s.asy.img } }

def assayWriteRefBody (p : List Byte) (s : Hub) : Reply × Hub :=
  let off := pl p 0 2
  let count := pl p 2 2
  s.assayCmd (p.length ≠ 4 + count) fun s =>
  guarded [(count = 0 ∨ off + count > 1024, stBAD_ARG), (s.asy.sealSt ≠ 1, stSEALED)] s fun s =>
  okay [] (s.writeRef off (p.drop 4))

def assayStoreBody (p : List Byte) (s : Hub) : Reply × Hub :=
  s.assayCmd (p.length ≠ 0) fun s =>
  if s.storeDeferred then fail stBUSY s.requestStore else (.later 2, s.startStore 0 s.asy.img)

def assayReadBankBody (p : List Byte) (s : Hub) : Reply × Hub :=
  let b := pl p 0 1
  let off := pl p 2 2
  let count := pl p 4 2
  s.assayCmd (p.length ≠ 6) fun s =>
  guarded [(b > 1 ∨ ¬ plZero p 1 1 ∨ count = 0 ∨ count > 1024 ∨ off + count > 0x1738, stBAD_ARG), (s.asy.storing.isSome, stBUSY)] s fun s =>
  okay (s.bankBytes b off count) s

def assayGetHallmarkBody (p : List Byte) (s : Hub) : Reply × Hub :=
  s.assayCmd (p.length ≠ 0) fun s =>
  okay (s.hmField s.hmFw ++ s.hmField s.hmRef ++ s.hmField s.hmMac ++
    [BitVec.ofNat 8 (match s.asy.bankInUse with | some b => s.hmCount b | none => 0), 0, 0, 0] ++ deviceIdBytes) s

def execAssayStatus (h : Hdr) (p : List Byte) := lift fun s => s.command 0x1001 h p (assayStatusBody p)
def execAssayChallenge (h : Hdr) (p : List Byte) := lift fun s => s.command 0x1002 h p (assayChallengeBody p)
def execAssayOpen (h : Hdr) (p : List Byte) := lift fun s => s.command 0x1003 h p (assayOpenBody p)
def execAssaySeal (h : Hdr) (p : List Byte) := lift fun s => s.command 0x1004 h p (assaySealBody p)
def execAssayWriteRef (h : Hdr) (p : List Byte) := lift fun s => s.command 0x1005 h p (assayWriteRefBody p)
def execAssayStore (h : Hdr) (p : List Byte) := lift fun s => s.command 0x1006 h p (assayStoreBody p)
def execAssayReadBank (h : Hdr) (p : List Byte) := lift fun s => s.command 0x1007 h p (assayReadBankBody p)
def execAssayGetHallmark (h : Hdr) (p : List Byte) := lift fun s => s.command 0x1008 h p (assayGetHallmarkBody p)

/-- CAL_REF_WRITE: a write of CAL_REF[i] acts as ASSAY_WRITE_REF while the seal is OPEN, in every mode except LOADING, and is ignored
otherwise (R134, R7). It is a request to the Assay engine, which takes none while it is not ready (R17, R94). -/
def Hub.calRefWrite (s : Hub) (i w : Nat) : Hub :=
  if s.assayActs ∧ ¬ s.assayBusy ∧ s.asy.sealSt = 1 then s.writeRef (4 * i) (leBytes 4 w) else s

def execCalRefWrite (i : Fin 256) (w : Word) := lift fun s => s.calRefWrite i.val w.toNat

/-- SEAL_EN_FALL: SEAL_EN has fallen while OPEN; the seal closes without renewal (R109). (Log entry 40: DEDUCED, unsafe) -/
def Hub.sealFall (s : Hub) : Hub :=
  if s.assayActs ∧ s.asy.sealSt = 1 ∧ ¬ s.asy.sealEn then (if s.unchanged then s.setSeal 0 0 else s.setSeal 2 6) else s

def execSealEnFall := lift Hub.sealFall

/-- NONCE_EXPIRE: 1 s after ASSAY_CHALLENGE (R112). -/
def Hub.nonceExpire (s : Hub) : Hub :=
  match s.asy.nonce with | some (_, (t, _)) => if t + nonceLife ≤ s.xo then s.dropNonce else s | none => s

def execNonceExpire := lift Hub.nonceExpire

/-- A command that waits for the Assay engine (R94). -/
def waitsAssay (d : Def) : Bool := d.arg == 1 && d.hdr.target != 1 && (d.op / 256 == 0x04 || d.op / 256 == 0x10 || d.op / 256 == 0x12)

/-- ASSAY_REQUEST_TIMEOUT: a request not accepted within 1 ms returns TIMEOUT (R94). (Log entry 30: DEDUCED, unsafe) -/
def Hub.requestTimeout (s : Hub) : Hub := s.complete (fun d => waitsAssay d && decide (d.since + xoMs ≤ s.xo)) stTIMEOUT []

def execAssayRequestTimeout := lift Hub.requestTimeout

/-- Frame-tick work of the partition: changed constants apply (R95, R113) and SEAL_EN is sampled. (Log entry 240: DESIGN CHOICE, unsafe) -/
def Hub.asyTick (s : Hub) (sealEn : Bool) : Hub :=
  { s with asy := { s.asy with imgAct := s.asy.img, sealEn := sealEn, sealEnRun := if sealEn then min 2 (s.asy.sealEnRun + 1) else 0 } }

end Sys2Proof.Machine
end

