-- ==== Sys2Proof/Machine/Calibration.lean ====
section
/-! DEFINITION. AFE runs: when they are due, what a run collects in its crossings, how it is judged, and the CAL commands
(05_calibration.md). -/

namespace Sys2Proof.Machine

/-! ### Settings of a run and when one is due (R121, R133) -/

/-- TCAL_DELTA, INJ_COUNT, STORE_AUTO and STORE_GAP of a CAL_CTRL word. -/
def calDelta (c : Nat) : Nat := bits c 15 8
def calInj (c : Nat) : Nat := bits c 20 16
def calStoreAuto (c : Nat) : Bool := bitAt c 2
def calStoreGap (c : Nat) : Nat := bits c 31 24

/-- STUCK of a quadrant. -/
def Hub.calStuck (s : Hub) (q : Nat) : Bool := s.bit CAL_STATUS (8 + q)

/-- The quadrant is due for an automatic run by temperature (R121). When none of its runs has ended since reset, HOLDOFF_TURNS count as
passed. (Log entry 188: DESIGN CHOICE, unsafe) -/
def Hub.calDue (s : Hub) (q : Nat) : Bool :=
  let x := s.calq q
  s.bit CAL_CTRL 0 && decide ((x.tnow - trefOf s.asy.img q).natAbs > calDelta (s.reg CAL_CTRL)) && !s.calStuck q &&
    (match x.turns with | none => true | some t => decide (t ≥ s.fld CAL_ROT 31 16))

/-- DUE: by temperature, or on entry to PREPARE with nominal constants in use (R121). -/
def Hub.calDueShown (s : Hub) (q : Nat) : Bool := s.calDue q || ((s.calq q).entry && s.asy.bankInUse.isNone)

/-- CAL_STATUS with DUE and RUNNING as they stand. -/
def Hub.calStatus (s : Hub) : Nat :=
  let f : (Nat → Bool) → Nat := fun p => (List.range 4).foldl (fun a q => a + b2n (p q) * 2 ^ q) 0
  putBits (putBits (s.reg CAL_STATUS) 7 4 (f fun q => (s.calq q).run.isSome)) 3 0 (f s.calDueShown)

/-- CAL_TEMP[q]. -/
def Hub.calTemp (s : Hub) (q : Nat) : Nat := ofS 16 (trefOf s.asy.img q) * 2 ^ 16 + ofS 16 (s.calq q).tnow

/-- TNOW_UPDATE: 65 536 frames after the last renewal, the means of the 16 readings of each sensor (R121). -/
def Hub.tnowUpdate (s : Hub) (ts : List Int) : Hub :=
  s.each (List.range 4) fun s q =>
    let x := s.calq q
    if s.frame < x.tnowAt + 65536 then s else s.setCalq q { x with tnow := ts.getD q 0, tnowAt := s.frame }

def execTnowUpdate (t0 t1 t2 t3 : BitVec 16) := lift fun s => s.tnowUpdate [t0.toInt, t1.toInt, t2.toInt, t3.toInt]

/-! ### Starting (R122, R131) -/

/-- Modes in which runs take place (R122). -/
def calModes : List Nat := [mPREPARE, mRUN, mPULSE, mHOLD, mTEST]

/-- The quadrant starts in a run that begins now. What waits to start when the mode leaves those of R122 stays waiting.
(Log entry 189: DESIGN CHOICE, unsafe) -/
def Hub.calStarts (s : Hub) (q : Nat) : Bool :=
  let x := s.calq q
  let y := s.quad q
  y.on && y.conn.isNone && (x.asked.isSome || x.entry || s.calDue q)

/-- Start a run of one quadrant. (Log entry 42: DEDUCED, unsafe) -/
def Hub.calStartQuad (s : Hub) (q : Nat) : Hub :=
  let x := s.calq q
  let r : CalRun := { start := s.frame, named := x.asked.isSome, stepFree := x.asked.getD false,
                      auto := s.calDue q && x.asked.isNone, entry := x.entry, ctrl := s.reg CAL_CTRL, tStart := x.tnow }
  s.setCalq q { x with run := some r, asked := none, entry := false }

/-- CAL_RUN_START: no run is in progress, and the quadrants that are due, named or entering PREPARE start at this tick (R122). -/
def Hub.calRunStart (s : Hub) : Hub :=
  let qs := (List.range 4).filter s.calStarts
  if qs.isEmpty ∨ ¬ s.modeIn calModes ∨ (List.range 4).any (fun q => (s.calq q).run.isSome) then s
  else
    let s := s.each qs Hub.calStartQuad
    s.complete (fun d => d.op == 0x1201 && d.arg != 1 && (List.range 4).all fun q => !bitAt d.arg q || (s.calq q).asked.isNone)
      stOK (crossPayload s.tt.crossing s.tt.turn)

def execCalRunStart := lift Hub.calRunStart

/-! ### What a run collects (R124-R126, R502) -/

/-- The enabled channels of a quadrant, by the register file of the last tick. -/
def Hub.calChannels (s : Hub) (q : Nat) : List Nat := ((List.range 64).map (64 * q + ·)).filter fun n => s.abit (AFE_CH_CFG n) 0

/-- The channels that the cycle in progress injects: cycles alternate, the even channels first. (Log entry 191: DESIGN CHOICE, unsafe) -/
def Hub.cycleChannels (s : Hub) (q : Nat) (r : CalRun) : List Nat :=
  if r.phase = 1 then (s.calChannels q).filter (fun n => n % 2 == r.idx % 2) else r.repeats.headD []

/-- The charge in 2^-8 fC that the calibration logic injects into channel `n` at the tick that began the present crossing: that of the
first crossing of a cycle, into its channels (R125). -/
def Hub.injection (s : Hub) (n : Nat) : Nat :=
  match (s.calq (n / 64)).run with
  | some r => if r.ended.isNone ∧ r.inCycle = 1 ∧ (s.cycleChannels (n / 64) r).contains n then 8 ^ r.r * qinjOf s.asy.imgAct (n / 64) else 0
  | none => 0

/-- What channel `n` has collected in range `r`. -/
def CalRun.accOf (x : CalRun) (n r : Nat) : CalAcc := tget (fun _ => {}) x.acc (4 * n + r)
def CalRun.setAcc (x : CalRun) (n r : Nat) (a : CalAcc) : CalRun := { x with acc := tset (fun _ => {}) x.acc (4 * n + r) a }

/-- Pedestal samples of one crossing (R124); samples under a marker are excluded (R126). -/
def pedestalOf (rec : FrameRec) (a : CalAcc) (n : Nat) : CalAcc :=
  (List.range 4).foldl (fun a k =>
    let x := tget (fun _ => {}) rec.samp (4 * n + k)
    if x.under = 7 then { a with n := a.n + 1, sd := a.sd + x.d, sdd := a.sdd + x.d * x.d, sv := a.sv + x.v } else a) a

/-- A pedestal crossing of the run. -/
def Hub.calPedestal (s : Hub) (q : Nat) (r : CalRun) : CalRun :=
  let r' := (s.calChannels q).foldl (fun r n => r.setAcc n r.r (pedestalOf s.now (r.accOf n r.r) n)) r
  if r.idx + 1 ≥ 64 then { r' with phase := 1, idx := 0 } else { r' with idx := r.idx + 1 }

/-- The next range, or the end of the run. -/
def CalRun.nextRange (r : CalRun) : CalRun :=
  if r.r ≥ 2 then { r with phase := 3 } else { r with r := r.r + 1, phase := 0, idx := 0 }

/-- The end of a cycle: valid sums are kept, and the channels whose cycle is invalid repeat it once (R126). (Log entry 44: DEDUCED, safe) -/
def Hub.calCycleEnd (s : Hub) (q : Nat) (r : CalRun) : CalRun :=
  let chs := s.cycleChannels q r
  let good := chs.filter fun n => !r.spoiled.contains n
  let bad := chs.filter r.spoiled.contains
  let r' := good.foldl (fun x n =>
    let a := x.accOf n x.r
    x.setAcc n x.r { a with cycles := a.cycles ++ [tget (fun _ => 0) r.sums n] }) r
  let r' := { r' with inCycle := 0, sums := [], spoiled := [] }
  if r.phase = 1 then
    let r' := { r' with idx := r.idx + 1, repeats := if bad.isEmpty then r.repeats else r.repeats ++ [bad] }
    if r.idx + 1 < 2 * calInj r.ctrl then r'
    else if r'.repeats.isEmpty then r'.nextRange else { r' with phase := 2 }
  else
    let r' := { r' with repeats := r.repeats.drop 1 }
    if r'.repeats.isEmpty then r'.nextRange else r'

/-- One crossing of an injection cycle (R125, R126). A crossing that a mode change makes no calibration crossing spoils the cycle too.
(Log entry 192: DESIGN CHOICE, unsafe) -/
def Hub.calCycle (s : Hub) (q : Nat) (r : CalRun) : CalRun :=
  let chs := s.cycleChannels q r
  let r' := chs.foldl (fun x n =>
    let xs := (List.range 4).map fun k => tget (fun _ => ({} : Samp)) s.now.samp (4 * n + k)
    if ¬ s.now.calCrossing ∨ xs.any (fun y => y.under != 7) then
      (if x.spoiled.contains n then x else { x with spoiled := n :: x.spoiled })
    else { x with sums := tset (fun _ => 0) x.sums n (tget (fun _ => 0) x.sums n + xs.foldl (fun a y => a + y.v) 0) }) r
  let r' := { r' with inCycle := r.inCycle + 1 }
  if r.inCycle ≥ 4 then s.calCycleEnd q r' else r'

/-- What the crossing that the coming tick ends has given the runs in progress. -/
def Hub.calCollect (s : Hub) : Hub :=
  s.each (List.range 4) fun s q =>
    let x := s.calq q
    match x.run with
    | none => s
    | some r =>
      if r.ended.isSome ∨ r.phase ≥ 3 ∨ s.frame < r.start then s
      else
        let r := { r with
          warn := r.warn || s.now.warn, tSum := r.tSum + x.tnow, tCnt := r.tCnt + 1, tEnd := x.tnow, lastCross := s.now.crossing, lastTurn := s.now.turn }
        let r := if r.phase = 0 then (if s.now.calCrossing then s.calPedestal q r else r)
          else if r.inCycle > 0 then s.calCycle q r else r
        s.setCalq q { x with run := some r }

/-- Frame-tick work: turns since the last run count, and a cycle starts where the next three crossings are calibration
crossings as well (R126). (Log entry 44: DEDUCED, safe) -/
def Hub.calTick (s : Hub) : Hub :=
  s.each (List.range 4) fun s q =>
    let x := s.calq q
    let x := if s.tt.crossing = 0 then { x with turns := x.turns.map (· + 1) } else x
    let s := s.setCalq q x
    match x.run with
    | none => s
    | some r =>
      let ahead := (List.range 3).all fun i => let (c, t) := s.addCross s.tt.crossing s.tt.turn (i + 1); s.willCalibrate s.now.mode c t
      if r.ended.isNone ∧ (r.phase = 1 ∨ r.phase = 2) ∧ r.inCycle = 0 ∧ s.now.calCrossing ∧ ahead then
        s.setCalq q { x with run := some { r with inCycle := 1 } }
      else s

/-! ### Judging (R127-R131) -/

/-- A 16-bit limit of the reference block in use. -/
def Hub.lim (s : Hub) (off : Nat) : Nat := imgGet s.asy.imgAct off 2

/-- The candidate PED and GAIN of a channel in a range, or none where the channel fails (R124-R126, R128). (Log entry 43: DEDUCED, unsafe) -/
def Hub.candidate (s : Hub) (x : CalRun) (n r : Nat) : Option (Int × Nat) :=
  let a := x.accOf n r
  let q := n / 64
  let m : Int := a.cycles.length
  let cnt : Int := a.n
  let pedOld := pedOf s.asy.imgAct n r
  let gainOld : Int := gainOf s.asy.imgAct n r
  let pedNew := pedOld + rdiv a.sd cnt
  let sum := a.cycles.foldl (· + ·) 0
  let sqs := a.cycles.foldl (fun t v => t + v * v) 0
  let sNum := sum * cnt - 16 * a.sv * m
  let num : Int := 4 * (8 ^ r : Nat) * (qinjOf s.asy.imgAct q : Int) * (refGainOf s.asy.imgAct n : Int)
  let gainNew := rdiv (gainOld * num * m * cnt) (256 * 16384 * sNum)
  let noise : Int := s.lim (0x314 + 2 * r)
  let spread : Int := s.lim 0x31A
  if a.cycles.length < (calInj x.ctrl + 1) / 2 ∨ a.n < 128 ∨ sNum ≤ 0 then none
  else if cnt * a.sdd - a.sd * a.sd > noise * noise * cnt * cnt then none
  else if 1024 * 1024 * (m * sqs - sum * sum) * cnt * cnt > spread * spread * sNum * sNum then none
  else if ¬ ofsPlausible pedNew ∨ ¬ gainPlausible gainNew.toNat then none
  else if ¬ x.stepFree ∧ ((pedNew - pedOld).natAbs > s.lim 0x310 ∨
      ((gainNew - gainOld).natAbs : Int) * 1024 > (s.lim 0x312 : Int) * gainOld) then none
  else some (pedNew, gainNew.toNat)

/-- The channel passes in all three ranges. -/
def Hub.calPasses (s : Hub) (x : CalRun) (n : Nat) : Bool := (List.range 3).all fun r => (s.candidate x n r).isSome

/-- The cause of R129, given how many channels failed; TNOW at the end is that of the run's last frame. -/
def Hub.calCause (s : Hub) (x : CalRun) (fails : Nat) : Nat :=
  let drift := decide (2 * (x.tEnd - x.tStart).natAbs > calDelta x.ctrl)
  match x.ended with
  | some c => if x.warn then 2 else if drift then 3 else c
  | none => if fails > tget nominalByte s.asy.imgAct 0x31C then 1 else if x.warn then 2 else if drift then 3 else 0

/-- The candidates of the passing channels, and TREF, in use (R130). (Log entry 221: DESIGN CHOICE, unsafe) -/
def Hub.calAccept (s : Hub) (q : Nat) (x : CalRun) (passing : List Nat) : Hub :=
  let img := passing.foldl (fun img n => (List.range 3).foldl (fun img r =>
    match s.candidate x n r with
    | some (p, g) => imgPut (imgPut img (0x500 + 16 * n + 2 * r) 2 (ofS 16 p)) (0x508 + 16 * n + 2 * r) 2 g
    | none => img) img) s.asy.img
  let tref := rdiv x.tSum x.tCnt
  { s with asy := { s.asy with img := imgPut img (0x1708 + 2 * q) 2 (ofS 16 tref) } }

/-- An accepted run requests a store once the gap has passed, else its constants stay unstored (R132). -/
def Hub.calStore (s : Hub) (x : CalRun) : Hub :=
  let s := s.setBit CAL_STATUS 12 true
  let passed : Bool := match s.asy.lastStoreXo with
    | none => true
    | some t => decide (t + calStoreGap x.ctrl * 400000000 ≤ s.xo)
  if calStoreAuto x.ctrl ∧ passed then s.requestStore else s

/-- Judge the run of a quadrant and report it (R129-R131, R137). A completed run ends in the last crossing it collected;
another at the crossing in which it is judged. (Log entry 45: DEDUCED, unsafe) -/
def Hub.calJudge (s : Hub) (q : Nat) (x : CalRun) : Hub :=
  let chs := if x.ended.isSome then [] else s.calChannels q
  let bad := chs.filter fun n => !s.calPasses x n
  let cause := s.calCause x bad.length
  let early := x.ended.isSome || x.phase < 3
  let c := if early then s.tt.crossing else x.lastCross
  let t := if early then s.tt.turn else x.lastTurn
  let s := s.setCalq q { s.calq q with run := none, turns := some (b2n (t != s.tt.turn)) }
  let s := s.setReg (CAL_CHFAIL (2 * q)) (bad.foldl (fun a n => if n % 64 < 32 then a + 2 ^ (n % 32) else a) 0)
  let s := s.setReg (CAL_CHFAIL (2 * q + 1)) (bad.foldl (fun a n => if n % 64 ≥ 32 then a + 2 ^ (n % 32) else a) 0)
  let s := s.setFld (CAL_QSTAT q) 7 4 cause
  let stuck := cause ≠ 0 ∧ x.auto ∧ s.fld (CAL_QSTAT q) 3 2 ≥ 2
  let s :=
    if cause = 0 then
      ((s.calAccept q x (chs.filter fun n => !bad.contains n)).incWrap (CAL_QSTAT q) 31 16).setFld (CAL_QSTAT q) 3 2 0
    else
      let s := s.incSat (CAL_QSTAT q) 15 8
      if x.auto then s.incSat (CAL_QSTAT q) 3 2 else s
  let s := s.emit 0x1201 [q, cause, bad.length, c, t]
  let s := if stuck then (s.setBit CAL_STATUS (8 + q) true).emit 0x1202 [q, cause] else s
  if cause = 0 then s.calStore x else s

/-- CAL_RUN_END: the run of a quadrant has completed or was ended (R129). -/
def Hub.calRunEnd (s : Hub) (q : Nat) : Hub :=
  match (s.calq q).run with
  | some r => if r.phase ≥ 3 ∨ r.ended.isSome then s.calJudge q r else s
  | none => s

def execCalRunEnd (q : Fin 4) := lift fun s => s.calRunEnd q.val

/-- End a run that has not completed for a cause of R129. Unless a change of mode ended it with the crossing before, the present frame is one
of the run. -/
def Hub.calEnd (s : Hub) (q cause : Nat) (inFrame : Bool) : Hub :=
  match (s.calq q).run with
  | some r =>
    if r.ended.isSome ∨ r.phase ≥ 3 then s
    else s.setCalq q { s.calq q with run := some { r with ended := some cause, tEnd := (s.calq q).tnow, warn := r.warn || (inFrame && s.now.warn) } }
  | none => s

/-- CAL_RUN_TIMEOUT: 2^20 frames after its start a run that has not completed is rejected (R123, R129). -/
def Hub.calTimeout (s : Hub) (q : Nat) : Hub :=
  match (s.calq q).run with
  | some r => if r.phase < 3 ∧ r.start + 2 ^ 20 ≤ s.frame then (s.calEnd q 6 true).calRunEnd q else s
  | none => s

def execCalRunTimeout (q : Fin 4) := lift fun s => s.calTimeout q.val

/-! ### CAL commands (R135, R136) -/

/-- (Log entry 47: DEDUCED, safe; log entry 241: DESIGN CHOICE, unsafe) -/
def calRunBody (p : List Byte) (s : Hub) : Reply × Hub :=
  let mask := pl p 0 1
  let fl := pl p 1 1
  guarded [(p.length ≠ 4, stBAD_LEN), (mask = 0 ∨ mask > 15 ∨ fl > 1 ∨ ¬ plZero p 2 2, stBAD_ARG),
    ((List.range 4).any (fun q => bitAt mask q && (s.calq q).run.isSome), stBUSY), (¬ s.modeIn calModes, stBAD_MODE)] s fun s =>
  s.request fun s =>
    (.later (16 + mask), s.eachBit 4 mask fun s q =>
      (s.setBit CAL_STATUS (8 + q) false).setCalq q { s.calq q with asked := some (fl == 1) })

def calAbortBody (p : List Byte) (s : Hub) : Reply × Hub :=
  let mask := pl p 0 1
  guarded [(p.length ≠ 4, stBAD_LEN), (mask > 15 ∨ ¬ plZero p 1 3, stBAD_ARG)] s fun s =>
  s.request fun s => okay [] (s.eachBit 4 mask fun s q => (s.calEnd q 4 true).calRunEnd q)

/-- Fields of CAL_CTRL and CAL_ROT that R133 does not reserve. -/
def calConfigOk (delta inj period : Nat) : Bool := decide (8 ≤ delta) && decide (1 ≤ inj) && decide (inj ≤ 31) && decide (48 ≤ period)

def calConfigBody (p : List Byte) (s : Hub) : Reply × Hub :=
  let delta := pl p 0 1
  let inj := pl p 1 1
  let fl := pl p 2 1
  let gap := pl p 3 1
  let hold := pl p 4 2
  let period := pl p 6 2
  guarded [(p.length ≠ 8, stBAD_LEN), (¬ calConfigOk delta inj period ∨ fl > 7, stBAD_ARG)] s fun s =>
  s.request fun s =>
    okay [] ((s.setReg CAL_CTRL (gap * 2 ^ 24 + inj * 2 ^ 16 + delta * 2 ^ 8 + fl)).setReg CAL_ROT (hold * 2 ^ 16 + period))

def calGetStatusBody (p : List Byte) (s : Hub) : Reply × Hub :=
  guarded [(p.length ≠ 0, stBAD_LEN)] s fun s =>
  okay (words ([s.calStatus] ++ (List.range 4).map s.calTemp ++ (List.range 4).map (fun q => s.reg (CAL_QSTAT q)) ++
    (List.range 8).map (fun i => s.reg (CAL_CHFAIL i)))) s

def execCalRun (h : Hdr) (p : List Byte) := lift fun s => s.command 0x1201 h p (calRunBody p)
def execCalAbort (h : Hdr) (p : List Byte) := lift fun s => s.command 0x1202 h p (calAbortBody p)
def execCalConfig (h : Hdr) (p : List Byte) := lift fun s => s.command 0x1203 h p (calConfigBody p)
def execCalGetStatus (h : Hdr) (p : List Byte) := lift fun s => s.command 0x1204 h p (calGetStatusBody p)

end Sys2Proof.Machine
end

