-- ==== Sys2Proof/Machine/Carriage.lean ====
section
/-! DEFINITION. The carriage of a Penor lane bit by bit: CRC, BCH code, scrambler, PAM4 levels and precoder, training frames,
CAPS and the payload streams (11_penor_links.md). -/

namespace Sys2Proof.Machine

/-! ### BCH code (R265) -/

/-- The product of two binary polynomials, of which the second has degree below `n`. -/
def clmul : Nat → Nat → Nat → Nat
  | 0, _, _ => 0
  | n + 1, a, b => (if b % 2 = 1 then a else 0) ^^^ clmul n (2 * a) (b / 2)

/-- Minimal polynomials of α, α^3, α^5, α^7, α^9, α^11, α^13 and α^15 over x^11 + x^2 + 1. -/
def bchMins : List Nat := [0x805, 0x925, 0x88D, 0x82D, 0xC0D, 0xF0B, 0x863, 0x973]

/-- The generator g(x), of degree 88. -/
def bchGen : Nat := bchMins.foldl (fun g m => clmul 12 g m) 1

/-- m(x) × x^88 mod g(x) of the message bits, first bit of highest degree. -/
def bchParity (bs : List Bool) : Nat := crcBits 88 (bchGen - 2 ^ 88) 0 bs

/-- Multiplication in GF(2^11). -/
def gfMul (a b : Nat) : Nat := go 11 a b
where
  go : Nat → Nat → Nat → Nat
    | 0, _, _ => 0
    | n + 1, a, b => (if b % 2 = 1 then a else 0) ^^^ go n (if a ≥ 1024 then (2 * a) ^^^ 0x805 else 2 * a) (b / 2)

/-- α^e. -/
def gfPow : Nat → Nat
  | 0 => 1
  | e + 1 => gfMul (gfPow e) 2

/-- `a ^ (2^n - 1)` raised from `a`; with n = 10 and one squaring more this is the inverse of `a`. -/
def gfChain (a : Nat) : Nat → Nat
  | 0 => 1
  | n + 1 => let r := gfChain a n; gfMul (gfMul r r) a

/-- The inverse: a^(2^11 - 2). -/
def gfInv (a : Nat) : Nat := let r := gfChain a 10; gfMul r r

/-- The value at `x` of a polynomial given from its highest coefficient down. -/
def gfHorner (x : Nat) (bs : List Bool) : Nat := bs.foldl (fun a b => gfMul a x ^^^ b2n b) 0

/-- The value at `x` of a polynomial given from its constant term up. -/
def gfEval (x : Nat) (cs : List Nat) : Nat := cs.foldr (fun c a => gfMul a x ^^^ c) 0

/-- Add `k × x^m × b` to a polynomial of nine coefficients. -/
def gfAddShift (c b : List Nat) (m k : Nat) : List Nat :=
  (List.range 17).map fun i => c.getD i 0 ^^^ (if i < m then 0 else gfMul k (b.getD (i - m) 0))

/-- What the search for the error locator holds. -/
structure Bm where
  c : List Nat := [1]
  b : List Nat := [1]
  l : Nat := 0
  m : Nat := 1
  d : Nat := 1

/-- One step of the search, with syndrome n. -/
def Bm.step (syn : List Nat) (s : Bm) (n : Nat) : Bm :=
  let d := (List.range (s.l + 1)).foldl (fun a i => a ^^^ gfMul (s.c.getD i 0) (syn.getD (n - i) 0)) 0
  if d = 0 then { s with m := s.m + 1 }
  else
    let c := gfAddShift s.c s.b s.m (gfMul d (gfInv s.d))
    if 2 * s.l ≤ n then { c := c, b := s.c, l := n + 1 - s.l, m := 1, d := d } else { s with c := c, m := s.m + 1 }

/-- The degrees below `len` at which the locator has its roots, found from degree len - 1 down. -/
def chien (loc : List Nat) (len : Nat) : List Nat :=
  ((List.range len).foldl (fun (acc : List Nat × Nat) e =>
    (if gfEval acc.2 loc = 0 then e :: acc.1 else acc.1, gfMul acc.2 0x402)) ([], 1)).1

/-- Correct at most 8 errors of a code word of R265 given in order of falling degree: the corrected word and the number of
bits corrected, or none on failure. -/
def bchDecode (bs : List Bool) : Option (List Bool × Nat) :=
  if bchParity (bs.take (bs.length - 88)) = natMsb (bs.drop (bs.length - 88)) then some (bs, 0)
  else
    let syn := (List.range 16).map fun j => gfHorner (gfPow (j + 1)) bs
    let r := (List.range 16).foldl (Bm.step syn) {}
    let es := chien r.c bs.length
    if r.l ≤ 8 ∧ es.length = r.l then
      some (es.foldl (fun w e => let i := w.length - 1 - e; w.set i (!w.getD i false)) bs, r.l)
    else none

/-! ### Scrambler, levels and precoder (R266, R267) -/

/-- `n` bits of a shift register with two taps: the register shifts left and the new bit enters at bit 0. -/
def lfsrBits (w t u : Nat) : Nat → Nat → List Bool
  | 0, _ => []
  | n + 1, s => let b := bitAt s t != bitAt s u; b :: lfsrBits w t u n ((2 * s + b2n b) % 2 ^ w)

/-- The scrambling sequence of a carriage. -/
def scrambleSeq : List Bool := lfsrBits 31 30 27 1584 0x1D4B72E6

/-- Scramble or descramble carriage bits 1583-0. -/
def scramble (bs : List Bool) : List Bool := List.zipWith (· != ·) bs scrambleSeq

/-- The level of a pair of bits, and the pair of a level. -/
def grayLevel (hi lo : Bool) : Nat := match hi, lo with | false, false => 0 | false, true => 1 | true, true => 2 | true, false => 3
def grayPair (x : Nat) : List Bool := if x = 0 then [false, false] else if x = 1 then [false, true] else if x = 2 then [true, true] else [true, false]

/-- Levels of bits in transmission order. -/
def toLevels : List Bool → List Nat
  | a :: b :: t => grayLevel a b :: toLevels t
  | _ => []

/-- Bits of levels. -/
def ofLevels (ys : List Nat) : List Bool := ys.flatMap grayPair

/-- The precoder: y[k] = (x[k] - y[k-1]) mod 4. -/
def precode : Nat → List Nat → List Nat
  | _, [] => []
  | y, x :: t => let y' := (x + 4 - y % 4) % 4; y' :: precode y' t

/-- Its inverse at the receiver: x[k] = (y[k] + y[k-1]) mod 4. -/
def unprecode : Nat → List Nat → List Nat
  | _, [] => []
  | y, z :: t => (z + y) % 4 :: unprecode z t

/-- 800 levels as a number, the first symbol in the highest two bits, and back. -/
def packLevels (ys : List Nat) : Nat := ys.foldl (fun a y => 4 * a + y % 4) 0
def unpackLevels (w : Nat) : List Nat := (List.range 800).map fun k => w / 4 ^ (799 - k) % 4

/-! ### The carriage (R262-R264, R269) -/

/-- A carriage: HDR and the 184 payload bytes. -/
structure Car where
  typ : Nat
  tm : Bool
  ptr : Nat
  cseq : Nat
  payload : List Byte
  deriving DecidableEq, Repr

def syncWord : Nat := 0xE4B1

/-- TYPE values of R263. -/
def tyIDLE : Nat := 0
def tySTREAM : Nat := 1
def tyRECORD : Nat := 2
def tySERVICE : Nat := 3
def tyTRIGGER : Nat := 4
def tyPAIR : Nat := 5
def tyCONTROL : Nat := 6
def tyTRAIN : Nat := 7

/-- HDR as a 16-bit number. -/
def Car.hdr (c : Car) : Nat := c.typ % 8 * 2 ^ 13 + b2n c.tm * 2 ^ 12 + c.ptr % 64 * 2 ^ 6 + c.cseq % 64

/-- HDR and PAYLOAD in transmission order. -/
def Car.body (c : Car) : List Bool := bitsMsb 16 c.hdr ++ bytesToBitsMsb c.payload

/-- The CRC-8 of R264. -/
def crc8 (bs : List Bool) : Nat := crcBits 8 0x07 0xFF bs

/-- The 1600 bits of a carriage as sent, scrambled. -/
def Car.encode (c : Car) : List Bool :=
  let b := c.body
  let crc := bitsMsb 8 (crc8 b)
  bitsMsb 16 syncWord ++ scramble (b ++ bitsMsb 88 (bchParity (b ++ crc)) ++ crc)

/-- A carriage read from its HDR and PAYLOAD. -/
def Car.ofBody (b : List Bool) : Car :=
  let h := natMsb (b.take 16)
  { typ := bits h 15 13, tm := bitAt h 12, ptr := bits h 11 6, cseq := bits h 5 0, payload := bitsToBytesMsb (b.drop 16) }

/-- The checks of R269 on 1600 received bits; `exact` when SYNC must match whole. The carriage and the number of bits that
were wrong in it, SYNC included. -/
def Car.decode (exact : Bool) (bs : List Bool) : Option (Car × Nat) :=
  let wrong := ((List.zipWith (· != ·) (bs.take 16) (bitsMsb 16 syncWord)).filter id).length
  if wrong > (if exact then 0 else 4) then none
  else
    let w := scramble (bs.drop 16)
    let b := w.take 1488
    match bchDecode (b ++ w.drop 1576 ++ (w.drop 1488).take 88) with
    | none => none
    | some (v, k) =>
      let b := v.take 1488
      if natMsb ((v.drop 1488).take 8) = crc8 b then some (Car.ofBody b, wrong + k) else none

/-! ### Training frames (R275) and test patterns (R290) -/

/-- `n` bits of PRBS13, x^13 + x^12 + x^2 + x + 1, and the register after them. -/
def prbs13 : Nat → Nat → List Bool × Nat
  | 0, s => ([], s)
  | n + 1, s =>
    let b := ((bitAt s 12 != bitAt s 11) != bitAt s 1) != bitAt s 0
    let (bs, s') := prbs13 n ((2 * s + b2n b) % 2 ^ 13)
    (b :: bs, s')

/-- The seed of a training generator. -/
def prbsSeed : Nat := 0x15A3

/-- A training frame of CONTROL and STATUS from a generator state: its 800 levels and the state after it. -/
def trainFrame (control status prbs : Nat) : List Nat × Nat :=
  let word := fun w => (bitsMsb 32 w).map fun b => 3 * b2n b
  let r := prbs13 1440 prbs
  (List.replicate 8 3 ++ List.replicate 8 0 ++ word control ++ word status ++ toLevels r.1, r.2)

/-- A tap's request or status: PRE, MAIN and POST of a CONTROL or STATUS word (tap 0, 1, 2). -/
def tapOf (w tap : Nat) : Nat := bits w (5 - 2 * tap) (4 - 2 * tap)
def setTap (w tap v : Nat) : Nat := putBits w (5 - 2 * tap) (4 - 2 * tap) v

/-! ### CAPS (R277) -/

/-- The payload of a CAPS carriage of the hub. -/
def capsPayload (lane hubId : Nat) (pre ack : Bool) : List Byte :=
  leBytes 2 0x5043 ++ [1, 0, BitVec.ofNat 8 lane, BitVec.ofNat 8 hubId, BitVec.ofNat 8 (b2n pre + 2 * b2n ack), 0] ++
    leBytes 8 Config.deviceId.toNat ++ List.replicate 168 0

/-! ### Payload streams (R270, R272) -/

/-- The messages that begin in a byte stream at an item boundary: those complete, and what is left: some bytes of an item to be
continued, or none when the stream is lost until the next PTR. A zero word ends the stream of the carriage. A LENGTH outside
R272 loses the stream. (Log entry 86: DEDUCED, unsafe) -/
def takeMessages : Nat → List Byte → List (List Byte) × Option (List Byte)
  | 0, bs => ([], some bs)
  | n + 1, bs =>
    if bs.length < 4 ∨ leNat (bs.take 4) = 0 then ([], some [])
    else
      let len := pl bs 2 2
      if len < 8 ∨ len > 1048 ∨ len % 4 ≠ 0 then ([], none)
      else if bs.length < len then ([], some bs)
      else let (ms, r) := takeMessages n (bs.drop len); (bs.take len :: ms, r)

/-- A valid carriage of a service stream whose bytes begin at payload word `w0`: `part` is the incomplete item, none while the
receiver waits for a PTR. -/
def takeStream (part : Option (List Byte)) (w0 ptr : Nat) (data : List Byte) : List (List Byte) × Option (List Byte) :=
  match part with
  | some bs => takeMessages 300 (bs ++ data)
  | none => if ptr < w0 ∨ ptr > 45 then ([], none) else takeMessages 300 (data.drop (4 * (ptr - w0)))

end Sys2Proof.Machine
end

