-- ==== Sys2Proof/Machine/Messages.lean ====
section
/-! DEFINITION. The bytes of commands, responses and events (R272, R413-R415, R424). -/

namespace Sys2Proof.Machine

/-- KIND values of R272. -/
def kPadding : Nat := 0
def kCommand : Nat := 0x20
def kResponse : Nat := 0x21
def kEvent : Nat := 0x22
def kTime : Nat := 0x23
def kLaneState : Nat := 0x24
def kLost : Nat := 0x25

/-- The envelope of R272. -/
def envelope (kind len : Nat) : List Byte := [BitVec.ofNat 8 kind, 0] ++ leBytes 2 len

/-- A message of a 16-byte header, whose bytes 8 and 9 take the CRC of R414, and a payload padded to a multiple of 4 bytes. -/
def framed (kind : Nat) (a b : List Byte) (payload : List Byte) : List Byte :=
  let crc := crc16 (a ++ [0, 0] ++ b ++ payload)
  let m := a ++ leBytes 2 crc ++ b ++ payload
  envelope kind (up4 (4 + m.length)) ++ m ++ List.replicate (up4 m.length - m.length) 0

/-- A response message (R415). -/
def respMsg (r : Resp) : List Byte :=
  framed kResponse (leBytes 2 r.seq ++ leBytes 2 r.op ++ leBytes 2 r.payload.length ++ [BitVec.ofNat 8 r.status, BitVec.ofNat 8 r.target])
    ([BitVec.ofNat 8 r.disp] ++ List.replicate 5 0) r.payload

/-- An event message (R424, R425). -/
def evMsg (e : Ev) : List Byte :=
  framed kEvent (leBytes 2 e.eseq ++ leBytes 2 e.code ++ leBytes 2 (4 * e.words.length) ++ [0, BitVec.ofNat 8 e.source])
    (leBytes 2 e.crossing ++ leBytes 4 e.turn) (words e.words)

/-- A command message (R413). -/
def cmdMsg (c : Cmd) : List Byte :=
  framed kCommand (leBytes 2 c.seq ++ leBytes 2 c.op ++ leBytes 2 c.payload.length ++ [BitVec.ofNat 8 c.flags, BitVec.ofNat 8 c.target])
    (List.replicate 6 0) c.payload

/-- The message an item of a siding stands for. -/
def Item.msg : Item → List Byte
  | .cmd c => cmdMsg c
  | .resp r _ => respMsg r
  | .ev e _ _ _ => evMsg e
  | .blob _ _ b => b
  | .block _ _ b => b
  | .log e _ _ _ => e
  | .inMem _ _ _ _ | .added _ _ _ _ _ | .gone => []

/-- The order in which firmware queued an item. -/
def Item.stamp : Item → Nat
  | .resp _ t => t
  | .ev _ _ _ t => t
  | .added _ _ _ _ t => t
  | _ => 0

/-- The bytes of the item of an entry: those that lie at ADDR where software has added the entry (R386, R387). -/
def Hub.itemMsg (s : Hub) : Item → List Byte
  | .added a len _ _ _ => s.bytes a len
  | it => it.msg

/-- A requester reads, through SECDED, the bytes of an item that lies in memory (R390). -/
def Hub.readBody (s : Hub) (requester : Nat) : Item → Bool × Hub
  | .added a len _ _ _ =>
    s.readWords requester 0 ((touched a len).map fun w => match memoryAt w with | some (_, width) => w / width * width | none => w).eraseDups
  | _ => (true, s)

/-- A consumer reads entry `i` of a siding and the item it describes; what it cannot read it discards (R389). (Log entry 211: DEDUCED, unsafe) -/
def Hub.readMsg (s : Hub) (n i requester : Nat) (it : Item) : Bool × Hub :=
  match s.readEntry n i requester with
  | (false, s) => (false, s)
  | (true, s) =>
    match s.readBody requester it with
    | (true, s) => (true, s)
    | (false, s) => (false, s.sidMark n fun xs => xs.set i .gone)

/-- A LANE_STATE message (R273). -/
def laneStateMsg (lane state flags control status : Nat) : List Byte :=
  envelope kLaneState 16 ++ [BitVec.ofNat 8 lane, BitVec.ofNat 8 state, BitVec.ofNat 8 flags, 0] ++ leBytes 4 control ++ leBytes 4 status

/-- LOST_RECORDS messages of a list of (GROUP, SEQ), 130 items each (R280, R281). -/
def lostMsgs (lane : Nat) (xs : List (Nat × Nat)) : List (List Byte) :=
  let parts := chunks 130 (xs.length / 130 + 1) xs
  let parts := parts.filter (· ≠ [])
  parts.zipIdx.map fun (ys, i) =>
    envelope kLost (8 + 8 * ys.length) ++
      [BitVec.ofNat 8 lane, BitVec.ofNat 8 ys.length, BitVec.ofNat 8 i, BitVec.ofNat 8 (b2n (i + 1 == parts.length))] ++
      ys.flatMap fun (y : Nat × Nat) => [BitVec.ofNat 8 y.1, 0, 0, 0] ++ leBytes 4 y.2

end Sys2Proof.Machine
end

