-- ==== Sys2Proof/Machine/Casting.lean ====
section
/-! DEFINITION. The casting codec as functions of words: the sample index and the predictors, the token grammar as the
hub codes it and as the decoder reads it, and the decoding of Ulipa sections (10_casting_codec.md, R243-R257). -/

namespace Sys2Proof.Machine

/-! ### The sample index (R243) -/

/-- Q of a canonical word. -/
def indexOf (w : Nat) : Option Int :=
  let m := toS 14 (bits w 13 0)
  let a := m.natAbs
  let s : Int := if m < 0 then -1 else 1
  match bits w 15 14 with
  | 0 => if a ≤ 8191 then some m else none
  | 1 => if 1024 ≤ a ∧ a ≤ 8191 then some (s * (a + 7168)) else none
  | 2 => if 1024 ≤ a ∧ a ≤ 8191 then some (s * (a + 14336)) else none
  | _ => none

/-- The canonical word of an index. -/
def wordOfIndex (q : Int) : Nat :=
  let s : Int := if q < 0 then -1 else 1
  if q.natAbs ≤ 8191 then wordOf 0 q
  else if q.natAbs ≤ 15359 then wordOf 1 (s * (q.natAbs - 7168 : Nat))
  else wordOf 2 (s * (q.natAbs - 14336 : Nat))

/-- The largest index. -/
def maxIndex : Int := 22527

/-- Limit a prediction (R245). -/
def clampIndex (p : Int) : Int := max (-maxIndex) (min p maxIndex)

/-! ### Histories and predictors (R244, R245) -/

/-- One channel while an ingot is coded or decoded: the words of its history (newest first, those of this ingot included),
E at the positions of this ingot (newest first), and E at the last two positions before it. -/
structure ChanSt where
  words : List Nat
  es : List Int := []
  before : Option (Int × Int)
  deriving DecidableEq, Repr

/-- E `k` positions back (k ≥ 1); a position before the first of the history reads as E of that first position. -/
def ChanSt.back (c : ChanSt) (k : Nat) : Int :=
  match c.es[k - 1]? with
  | some e => e
  | none => match c.before with
    | some (a, b) => if k - c.es.length = 1 then a else b
    | none => c.es.getLastD 0

/-- Put one word. -/
def ChanSt.put (c : ChanSt) (w : Nat) : ChanSt :=
  let e := match indexOf w with
    | some q => q
    | none => if c.words.isEmpty then 0 else c.back 1
  { c with words := w :: c.words, es := e :: c.es }

/-- P[t] by PRED; `nbr` gives E_n[t] and E_n[t - 1] of the neighbour, when NBR[c] is below c. -/
def predict (pred : Nat) (c : ChanSt) (nbr : Option (Int × Int)) : Int :=
  match pred with
  | 0 => 0
  | 1 => clampIndex (c.back 1)
  | 2 => clampIndex (2 * c.back 1 - c.back 2)
  | _ => match nbr with
    | some (a, b) => clampIndex (c.back 1 + a - b)
    | none => clampIndex (c.back 1)

/-- E_n[t] and E_n[t - 1] of a finished channel at position `t` of the ingot. -/
def nbrAt (c : ChanSt) (t : Nat) : Int × Int :=
  let es := c.es.reverse
  let e := es.getD t 0
  let p := if t > 0 then es.getD (t - 1) 0 else match c.before with | some (a, _) => a | none => e
  (e, p)

/-! ### Rice codes (R248, R249) -/

/-- u of a residue, and back. -/
def zig (e : Int) : Nat := if e ≥ 0 then (2 * e).toNat else (-2 * e - 1).toNat
def unzig (u : Nat) : Int := if u % 2 = 0 then (u / 2 : Nat) else -((u / 2 + 1 : Nat) : Int)

/-- The adaptive parameter: A and M. -/
structure Rice where
  a : Nat := 32
  m : Nat := 4
  deriving DecidableEq, Repr

/-- k: the smallest value in 0-15 with M × 2^k ≥ A, else 15. -/
def Rice.k (r : Rice) : Nat := ((List.range 16).find? fun k => r.a ≤ r.m * 2 ^ k).getD 15

/-- After each Rice code. -/
def Rice.next (r : Rice) (u : Nat) : Rice :=
  if r.m + 1 = 16 then { a := (r.a + u) / 2, m := 8 } else { a := r.a + u, m := r.m + 1 }

/-- The largest legal u. -/
def maxU : Nat := 90108

/-- The bits of one Rice code. -/
def riceBits (k u : Nat) : List Bool :=
  let q := u / 2 ^ k
  if q ≤ 15 then List.replicate q true ++ [false] ++ bitsMsb k (u % 2 ^ k)
  else List.replicate 16 true ++ bitsMsb 17 u

/-! ### Coding (R246, R247, R250) -/

/-- How many of the first `n` words are canonical, up to the first that is not. -/
def canonRun (ws : List Nat) (n : Nat) : Nat := ((ws.take n).takeWhile fun w => (indexOf w).isSome).length

/-- How many words, at most `n`, a MATCH at distance `d` copies: `past` is the history newest first. -/
def matchRun : Nat → List Nat → Nat → List Nat → Nat
  | 0, _, _, _ => 0
  | _, _, _, [] => 0
  | n + 1, past, d, w :: ws => if past[d - 1]? = some w then 1 + matchRun n (w :: past) d ws else 0

/-- Code a run of residues. -/
def codeResidues (pred : Nat) (nbr : Nat → Option (Int × Int)) : List Nat → Nat → ChanSt → Rice → List Bool × ChanSt × Rice
  | [], _, c, r => ([], c, r)
  | w :: ws, t, c, r =>
    let u := zig ((indexOf w).getD 0 - predict pred c (nbr t))
    let (bs, c', r') := codeResidues pred nbr ws (t + 1) (c.put w) (r.next u)
    (riceBits r.k u ++ bs, c', r')

/-- Code the words of one channel. `pick` is the hub's choice of the next token, of its length and of its distance, which
R250 leaves open; a choice that the grammar does not allow falls back to an ESCAPE. `fuel` bounds the number of tokens.
(Log entry 65: DESIGN CHOICE, safe) -/
def codeChannel (pick : Nat → Nat) (pred : Nat) (nbr : Nat → Option (Int × Int)) (cold : Bool) :
    Nat → List Nat → Nat → ChanSt → Rice → List Bool
  | 0, _, _, _, _ => []
  | _, [], _, _, _ => []
  | f + 1, ws, t, c, r =>
    let x := pick f
    let len := 1 + x / 3 % 64
    let d := 1 + x / 192 % 4096
    let nr := canonRun ws len
    let nm := matchRun len c.words d ws
    if x % 3 = 0 ∧ nr > 0 ∧ ¬ (cold ∧ t = 0) then
      let (bs, c', r') := codeResidues pred nbr (ws.take nr) t c r
      [false] ++ bitsMsb 6 (nr - 1) ++ bs ++ codeChannel pick pred nbr cold f (ws.drop nr) (t + nr) c' r'
    else if x % 3 = 1 ∧ nm > 0 ∧ ¬ (cold ∧ t = 0) then
      [true, false] ++ bitsMsb 6 (nm - 1) ++ bitsMsb 12 (d - 1) ++
        codeChannel pick pred nbr cold f (ws.drop nm) (t + nm) ((ws.take nm).foldl ChanSt.put c) r
    else
      let n := min len ws.length
      [true, true] ++ bitsMsb 6 (n - 1) ++ (ws.take n).flatMap (bitsMsb 16) ++
        codeChannel pick pred nbr cold f (ws.drop n) (t + n) ((ws.take n).foldl ChanSt.put c) r

/-- What predictor 3 sees of the neighbour of channel `c` among the channels before it. -/
def nbrOf (nbr : List Nat) (done : List ChanSt) (c t : Nat) : Option (Int × Int) :=
  let n := nbr.getD c 0
  if n < c then (done[n]?).map fun x => nbrAt x t else none

/-- The bits of all channels: `starts` are the channels at the start of the ingot, `cols` their words. -/
def codeAll (pick : Nat → Nat → Nat) (pred : Nat) (nbr : List Nat) (cold : Bool) (cols : List (List Nat)) :
    List ChanSt → List ChanSt → Nat → List Bool
  | _, [], _ => []
  | done, st :: rest, c =>
    let ws := cols.getD c []
    codeChannel (pick c) pred (nbrOf nbr done c) cold ws.length ws 0 st {} ++
      codeAll pick pred nbr cold cols (done ++ [ws.foldl ChanSt.put st]) rest (c + 1)

/-- Pad with zero bits to the next multiple of 32 and pack (R246). -/
def packBody (bs : List Bool) : List Byte := bitsToBytesMsb (bs ++ List.replicate ((32 - bs.length % 32) % 32) false)

/-! ### Decoding (R255) -/

/-- Error codes of R255. -/
def errIllegal : Nat := 1
def errDistance : Nat := 2
def errLength : Nat := 3
def errCrc : Nat := 4
def errTruncated : Nat := 5
def errMismatch : Nat := 6

/-- Read an n-bit field, most significant bit first. -/
def readBits (n : Nat) (bs : List Bool) : Except Nat (Nat × List Bool) :=
  if bs.length < n then .error errTruncated else .ok (natMsb (bs.take n), bs.drop n)

/-- Count leading ones, at most `n`. -/
def leadOnes : Nat → List Bool → Nat
  | n + 1, true :: bs => 1 + leadOnes n bs
  | _, _ => 0

/-- Read one Rice code; u above 90 108 is illegal. -/
def readRice (k : Nat) (bs : List Bool) : Except Nat (Nat × List Bool) :=
  let q := leadOnes 16 bs
  match (if q = 16 then readBits 17 (bs.drop 16)
      else if bs.length ≤ q then .error errTruncated
      else (readBits k (bs.drop (q + 1))).map fun (v, r) => (q * 2 ^ k + v, r)) with
  | .error e => .error e
  | .ok (u, r) => if u > maxU then .error errIllegal else .ok (u, r)

/-- What distinguishes an ingot's channel from a Ulipa section (R257): the predictor, the first token's rule, and the checks
on words. -/
structure Dialect where
  pred : Nat
  cold : Bool
  section_ : Bool
  deriving DecidableEq, Repr

/-- An ESCAPE word that R255 calls illegal. -/
def badEscape (w : Nat) : Bool := if isMarker w then decide (bits w 13 0 > 5) else bits w 13 0 == 0x2000

/-- Read `n` residues. -/
def readResidues (dl : Dialect) (nbr : Nat → Option (Int × Int)) : Nat → Nat → ChanSt → Rice → List Bool →
    Except Nat (ChanSt × Rice × List Bool)
  | 0, _, c, r, bs => .ok (c, r, bs)
  | n + 1, t, c, r, bs =>
    match readRice r.k bs with
    | .error e => .error e
    | .ok (u, bs) =>
      if dl.section_ then readResidues dl nbr n (t + 1) (c.put (ofS 16 (unzig u))) (r.next u) bs
      else
        let q := predict dl.pred c (nbr t) + unzig u
        if q.natAbs > 22527 then .error errIllegal
        else readResidues dl nbr n (t + 1) (c.put (wordOfIndex q)) (r.next u) bs

/-- Copy `n` words from distance `d`. -/
def copyWords (d : Nat) : Nat → ChanSt → ChanSt
  | 0, c => c
  | n + 1, c => copyWords d n (c.put (c.words.getD (d - 1) 0))

/-- Read `n` escaped words. -/
def readEscapes (dl : Dialect) : Nat → ChanSt → List Bool → Except Nat (ChanSt × List Bool)
  | 0, c, bs => .ok (c, bs)
  | n + 1, c, bs =>
    match readBits 16 bs with
    | .error e => .error e
    | .ok (w, bs) => if ¬ dl.section_ ∧ badEscape w then .error errIllegal else readEscapes dl n (c.put w) bs

/-- Read tokens until `total` words stand. `fuel` bounds the number of tokens. -/
def readTokens (dl : Dialect) (nbr : Nat → Option (Int × Int)) (total : Nat) :
    Nat → Nat → ChanSt → Rice → List Bool → Except Nat (ChanSt × List Bool)
  | 0, _, c, _, bs => .ok (c, bs)
  | f + 1, t, c, r, bs =>
    if t ≥ total then .ok (c, bs)
    else match bs with
      | [] => .error errTruncated
      | false :: bs =>
        if dl.cold ∧ t = 0 then .error errIllegal
        else match readBits 6 bs with
          | .error e => .error e
          | .ok (n, bs) =>
            if t + n + 1 > total then .error errLength
            else match readResidues dl nbr (n + 1) t c r bs with
              | .error e => .error e
              | .ok (c, r, bs) => readTokens dl nbr total f (t + n + 1) c r bs
      | [true] => .error errTruncated
      | true :: false :: bs =>
        if dl.cold ∧ t = 0 then .error errIllegal
        else match readBits 6 bs with
          | .error e => .error e
          | .ok (n, bs) =>
            if t + n + 1 > total then .error errLength
            else match readBits 12 bs with
              | .error e => .error e
              | .ok (d, bs) =>
                if d + 1 > c.words.length then .error errDistance
                else readTokens dl nbr total f (t + n + 1) (copyWords (d + 1) (n + 1) c) r bs
      | true :: true :: bs =>
        match readBits 6 bs with
        | .error e => .error e
        | .ok (n, bs) =>
          if t + n + 1 > total then .error errLength
          else match readEscapes dl (n + 1) c bs with
            | .error e => .error e
            | .ok (c, bs) => readTokens dl nbr total f (t + n + 1) c r bs

/-- What may remain after the last token: fewer than 32 bits, all zero. -/
def checkTail (bs : List Bool) : Option Nat :=
  if bs.length ≥ 32 then some errLength else if bs.any id then some errIllegal else none

/-- Decode the channels of a coded body. -/
def readAll (pred : Nat) (nbr : List Nat) (cold : Bool) (nsamp : Nat) :
    List ChanSt → List ChanSt → Nat → List Bool → Except Nat (List ChanSt)
  | done, [], _, bs => match checkTail bs with | some e => .error e | none => .ok done
  | done, st :: rest, c, bs =>
    match readTokens ⟨pred, cold, false⟩ (nbrOf nbr done c) nsamp nsamp 0 st {} bs with
    | .error e => .error e
    | .ok (x, bs) => readAll pred nbr cold nsamp (done ++ [x]) rest (c + 1) bs

/-- The words of this ingot in a decoded channel, oldest first. -/
def ChanSt.fresh (c : ChanSt) (nsamp : Nat) : List Nat := (c.words.take nsamp).reverse

/-- Reserved values of an ingot header (R240). (Log entry 68: DEDUCED, unsafe) -/
def headerReserved (h : List Byte) : Bool :=
  let b := fun i => pl h i 1
  b 0 != 1 || decide (b 1 > 7) || b 3 != 1 || b 0x0A == 0 || decide (b 0x0A > 64) || bitAt (b 0x0B) 7 ||
    bits (b 0x0B) 4 3 == 3 || bits (b 0x0B) 6 5 == 3 || decide (pl h 0x14 2 ≥ 4096) || decide (pl h 0x16 2 > 4096)

/-- Decode an ingot against the histories of its channels (R255): the columns, or an error code. -/
def decodeIngot (nbr : List Nat) (starts : List ChanSt) (h body : List Byte) : Except Nat (List (List Nat)) :=
  let size := pl h 0x16 2
  let nsamp := pl h 0x0A 1
  let flags := pl h 0x14 2
  if h.length < 32 ∨ body.length < size then .error errTruncated
  else if crc32c (h.take 0x1C ++ body.take size) ≠ pl h 0x1C 4 then .error errCrc
  else if headerReserved h then .error errIllegal
  else if size % 4 ≠ 0 ∨ (bitAt flags 0 ∧ size ≠ 64 * nsamp) then .error errLength
  else if bitAt flags 0 then
    .ok ((List.range 32).map fun c => (List.range nsamp).map fun i => pl body (2 * (nsamp * c + i)) 2)
  else
    match readAll (bits (pl h 0x0B 1) 2 1) nbr (bitAt flags 1) nsamp [] starts 0 (bytesToBitsMsb (body.take size)) with
    | .error e => .error e
    | .ok cs => .ok (cs.map fun c => c.fresh nsamp)

/-- Unpack a Ulipa section of `units` 16-bit units (R257). -/
def decodeSection (units : Nat) (body : List Byte) : Except Nat (List Nat) :=
  match readTokens ⟨0, false, true⟩ (fun _ => none) units units 0 { words := [], before := none } {} (bytesToBitsMsb body) with
  | .error e => .error e
  | .ok (c, bs) => match checkTail bs with | some e => .error e | none => .ok (c.fresh units)

end Sys2Proof.Machine
end

