-- ==== Sys2Proof/Machine/FeCode.lean ====
section
/-! DEFINITION. The instruction set of the feature engines: encoding and decoding (R168, R170, R171), costs and the static
count (R179), image checks (R180), and what one instruction does in one lane (R168, R171-R176). -/

namespace Sys2Proof.Machine

/-! ### Encoding (R170, R171) -/

/-- OP in [31:26], GP in [25:23] and GN in [22]. -/
def feHead (op : Nat) (gd : Guard) : Nat := op * 2 ^ 26 + gd.p.val * 2 ^ 23 + b2n gd.neg * 2 ^ 22

/-- Formats A, I, W, P and O of R170. -/
def fmtA (op : Nat) (gd : Guard) (d a b sh : Nat) : Nat := feHead op gd + d * 2 ^ 18 + a * 2 ^ 13 + b * 2 ^ 8 + sh
def fmtI (op : Nat) (gd : Guard) (d a imm : Nat) : Nat := feHead op gd + d * 2 ^ 18 + a * 2 ^ 13 + imm
def fmtW (op : Nat) (gd : Guard) (d a first edge cnt : Nat) : Nat :=
  feHead op gd + d * 2 ^ 18 + a * 2 ^ 13 + first * 2 ^ 8 + edge * 2 ^ 5 + cnt

/-- The 32-bit word of an instruction, with 0 in every field that it does not use. -/
def feEncode : FeIns → Nat
  | .nop gd => feHead 0x00 gd
  | .mov gd d a => fmtA 0x01 gd d a 0 0
  | .movi gd d imm => feHead 0x02 gd + d.val * 2 ^ 18 + imm.toNat
  | .ldk gd d k => fmtI 0x03 gd d 0 k
  | .ldl gd d j => fmtI 0x04 gd d 0 j
  | .ldw gd d a => fmtA 0x05 gd d a 0 0
  | .ldwi gd d i => fmtI 0x06 gd d 0 i
  | .add gd d a b => fmtA 0x08 gd d a b 0
  | .sub gd d a b => fmtA 0x09 gd d a b 0
  | .addi gd d a imm => fmtI 0x0A gd d a imm.toNat
  | .mul gd d a b => fmtA 0x0B gd d a b 0
  | .mulsh gd d a b sh => fmtA 0x0C gd d a b sh
  | .max gd d a b => fmtA 0x0D gd d a b 0
  | .min gd d a b => fmtA 0x0E gd d a b 0
  | .abs gd d a => fmtA 0x0F gd d a 0 0
  | .shl gd d a sh => fmtA 0x10 gd d a 0 sh
  | .shr gd d a sh => fmtA 0x11 gd d a 0 sh
  | .and gd d a b => fmtA 0x12 gd d a b 0
  | .or gd d a b => fmtA 0x13 gd d a b 0
  | .xor gd d a b => fmtA 0x14 gd d a b 0
  | .wsum gd d first cnt => fmtW 0x18 gd d 0 first 0 cnt
  | .wpeak gd d first cnt => fmtW 0x19 gd d 0 first 0 cnt
  | .wmin gd d first cnt => fmtW 0x1A gd d 0 first 0 cnt
  | .interp gd d a first edge cnt => fmtW 0x1C gd d a first (b2n edge) cnt
  | .cmpgt gd pd a b => fmtA 0x20 gd pd a b 0
  | .cmpge gd pd a b => fmtA 0x21 gd pd a b 0
  | .cmpeq gd pd a b => fmtA 0x22 gd pd a b 0
  | .ptst gd pd a m => fmtI 0x23 gd pd a m.toNat
  | .plog gd pd pa pb fn => fmtA 0x24 gd pd pa pb fn
  | .feat gd slot a => fmtA 0x28 gd slot a 0 0
  | .tower gd a uq => fmtA 0x29 gd 0 a 0 uq
  | .trig gd tv ts => fmtA 0x2A gd 0 0 0 (b2n tv * 8 + ts)
  | .skipz gd pc n => fmtA 0x30 gd pc 0 0 n.toNat
  | .endRun gd => feHead 0x3F gd

/-! ### Decoding -/

/-- A 5-bit source code that R164 does not reserve. -/
def srcOf (x : Nat) : Option FeSrc := if h : x < 28 then some ⟨x, h⟩ else none

/-- A number below a bound. -/
def finOf (n x : Nat) : Option (Fin n) := if h : x < n then some ⟨x, h⟩ else none

/-- The guard of a word; P0 with GN = 1 is reserved (R168). -/
def guardOf (w : Nat) : Option Guard :=
  let p := bits w 25 23
  let n := bitAt w 22
  if p = 0 ∧ n then none else (finOf 8 p).map fun p => ⟨p, n⟩

/-- The instruction is written as R168, R172 and R177 let it: the guard is not reserved, a span ends by W[31], WPEAK and
WMIN have an even D, and SKIPZ and END carry the guard P0. -/
def feWf : FeIns → Bool
  | .wsum gd _ first cnt => gd.ok && decide (first.val + cnt.val ≤ 31)
  | .wpeak gd d first cnt | .wmin gd d first cnt => gd.ok && decide (d.val % 2 = 0) && decide (first.val + cnt.val ≤ 31)
  | .interp gd _ _ first _ cnt => gd.ok && decide (first.val + cnt.val ≤ 31)
  | .skipz gd _ n => gd == ⟨0, false⟩ && n != 0
  | .endRun gd => gd == ⟨0, false⟩
  | .nop gd | .mov gd _ _ | .movi gd _ _ | .ldk gd _ _ | .ldl gd _ _ | .ldw gd _ _ | .ldwi gd _ _ | .add gd _ _ _
  | .sub gd _ _ _ | .addi gd _ _ _ | .mul gd _ _ _ | .mulsh gd _ _ _ _ | .max gd _ _ _ | .min gd _ _ _ | .abs gd _ _
  | .shl gd _ _ _ | .shr gd _ _ _ | .and gd _ _ _ | .or gd _ _ _ | .xor gd _ _ _ | .cmpgt gd _ _ _ | .cmpge gd _ _ _
  | .cmpeq gd _ _ _ | .ptst gd _ _ _ | .plog gd _ _ _ _ | .feat gd _ _ | .tower gd _ _ | .trig gd _ _ => gd.ok

/-- The instruction whose fields a word holds, before the checks of `feWf`; none for a reserved OP, source or bit. (Log entry 51: DEDUCED, unsafe) -/
def feFields (w : Nat) : Option FeIns := do
  let gd ← guardOf w
  let d ← finOf 16 (bits w 21 18)
  let pd := finOf 8 (bits w 21 18)
  let a := srcOf (bits w 17 13)
  let b := srcOf (bits w 12 8)
  let first ← finOf 32 (bits w 12 8)
  let cnt ← finOf 32 (bits w 4 0)
  let low := bits w 7 0
  let imm := bits w 12 0
  let shOk := low < 32
  match bits w 31 26 with
  | 0x00 => if bits w 21 0 = 0 then some (.nop gd) else none
  | 0x01 => if shOk then a.map fun a => .mov gd d a else none
  | 0x02 => some (.movi gd d (BitVec.ofNat 18 w))
  | 0x03 => (finOf 252 imm).map fun k => .ldk gd d k
  | 0x04 => (finOf 16 imm).map fun j => .ldl gd d j
  | 0x05 => if shOk then a.map fun a => .ldw gd d a else none
  | 0x06 => (finOf 32 imm).map fun i => .ldwi gd d i
  | 0x08 => if shOk then do some (.add gd d (← a) (← b)) else none
  | 0x09 => if shOk then do some (.sub gd d (← a) (← b)) else none
  | 0x0A => a.map fun a => .addi gd d a (BitVec.ofNat 13 w)
  | 0x0B => if shOk then do some (.mul gd d (← a) (← b)) else none
  | 0x0C => if shOk then do some (.mulsh gd d (← a) (← b) cnt) else none
  | 0x0D => if shOk then do some (.max gd d (← a) (← b)) else none
  | 0x0E => if shOk then do some (.min gd d (← a) (← b)) else none
  | 0x0F => if shOk then a.map fun a => .abs gd d a else none
  | 0x10 => if shOk then a.map fun a => .shl gd d a cnt else none
  | 0x11 => if shOk then a.map fun a => .shr gd d a cnt else none
  | 0x12 => if shOk then do some (.and gd d (← a) (← b)) else none
  | 0x13 => if shOk then do some (.or gd d (← a) (← b)) else none
  | 0x14 => if shOk then do some (.xor gd d (← a) (← b)) else none
  | 0x18 => if bits w 17 13 = 0 ∧ low < 64 then some (.wsum gd d first cnt) else none
  | 0x19 => if bits w 17 13 = 0 ∧ low < 64 then some (.wpeak gd d first cnt) else none
  | 0x1A => if bits w 17 13 = 0 ∧ low < 64 then some (.wmin gd d first cnt) else none
  | 0x1C => if low < 64 then a.map fun a => .interp gd d a first (bitAt w 5) cnt else none
  | 0x20 => if low = 0 then do some (.cmpgt gd (← pd) (← a) (← b)) else none
  | 0x21 => if low = 0 then do some (.cmpge gd (← pd) (← a) (← b)) else none
  | 0x22 => if low = 0 then do some (.cmpeq gd (← pd) (← a) (← b)) else none
  | 0x23 => do some (.ptst gd (← pd) (← a) (BitVec.ofNat 13 w))
  | 0x24 => do some (.plog gd (← pd) (← finOf 8 (bits w 17 13)) (← finOf 8 (bits w 12 8)) (← finOf 4 low))
  | 0x28 => if bits w 12 0 = 0 then a.map fun a => .feat gd d a else none
  | 0x29 => if d.val = 0 ∧ bits w 12 8 = 0 then do some (.tower gd (← a) (← finOf 4 low)) else none
  | 0x2A => if bits w 21 4 = 0 then some (.trig gd (bitAt w 3) ⟨bits w 2 0, by unfold bits; omega⟩) else none
  | 0x30 => if bits w 17 8 = 0 then pd.map fun pc => .skipz gd pc (BitVec.ofNat 8 low) else none
  | 0x3F => if bits w 21 0 = 0 then some (.endRun gd) else none
  | _ => none

/-- Decode a program word; none for a reserved instruction. -/
def feDecode (w : Nat) : Option FeIns := (feFields w).filter feWf

/-! ### Costs and images (R171, R177, R179, R180) -/

/-- Cost in issue cycles (R171). -/
def feCost : FeIns → Nat
  | .ldw .. | .mul .. | .mulsh .. | .wsum .. | .wpeak .. | .wmin .. => 2
  | .interp .. => 4
  | _ => 1

/-- The instruction is END. -/
def feIsEnd : FeIns → Bool
  | .endRun _ => true
  | _ => false

/-- The index of the first END at or after `i`. -/
def firstEnd (prog : List FeIns) (i : Nat) : Option Nat := ((prog.drop i).findIdx? feIsEnd).map (i + ·)

/-- The static issue count of an entry (R179). -/
def issueCount (prog : List FeIns) (e : Nat) : Option Nat :=
  (firstEnd prog e).map fun k => ((prog.drop e).take (k + 1 - e)).foldl (fun a i => a + feCost i) 0

/-- FEAT names a slot below NFEAT, and SKIPZ does not skip beyond the next END (R177, R180). (Log entry 227: DESIGN CHOICE, unsafe) -/
def insFits (nfeat : Nat) (prog : List FeIns) (i : Nat) : FeIns → Bool
  | .feat _ slot _ => decide (slot.val < nfeat)
  | .skipz _ _ n => match firstEnd prog (i + 1) with | some k => decide (i + n.toNat < k) | none => false
  | _ => true

/-- Word at a byte offset of an image. -/
def imgWord (img : List (Nat × Nat)) (off : Nat) : Nat :=
  let b := fun i => tget (fun _ => 0) img (off + i)
  b 0 + 256 * b 1 + 65536 * b 2 + 16777216 * b 3

/-- The first `n` bytes of a staging image. -/
def stagedBytes (img : List (Nat × Nat)) (n : Nat) : List Byte := (List.range n).map fun i => BitVec.ofNat 8 (tget (fun _ => 0) img i)

/-- ENTRY0-ENTRY3 of header word 1. -/
def entryOf (h : Nat) (k : Nat) : Nat := bits h (8 * k + 7) (8 * k)

/-- The checks of R180 and R179 on a feature-engine image: a status, or the FE_COUNT word. (Log entry 228: DESIGN CHOICE, unsafe) -/
def feCheckImage (img : List (Nat × Nat)) : Except Nat Nat :=
  let h0 := imgWord img 0x400
  let h1 := imgWord img 0x404
  let h2 := imgWord img 0x408
  let nfeat := bits h0 31 24
  let cnt := bits h2 15 0
  if bits h0 15 0 ≠ 0x4645 ∨ bits h0 23 16 ≠ 1 ∨ nfeat > 8 ∨ cnt = 0 ∨ cnt > 256 ∨ bits h2 31 16 ≠ 0 ∨ imgWord img 0x40C ≠ 0 then .error 3
  else
    let decoded := (List.range cnt).map fun i => feDecode (imgWord img (4 * i))
    if decoded.any Option.isNone then .error 3
    else
      let prog := decoded.filterMap id
      let counts := (List.range 4).map fun k => if entryOf h1 k < cnt then issueCount prog (entryOf h1 k) else none
      if counts.any Option.isNone ∨ ¬ prog.zipIdx.all (fun (ins, i) => insFits nfeat prog i ins) then .error 3
      else
        let cs := counts.filterMap id
        if cs.any (· > 28) then .error 14
        else .ok (cs.zipIdx.foldl (fun a (c, k) => a + c * 2 ^ (8 * k)) 0)

/-! ### One instruction in one lane (R168, R171-R175) -/

/-- The value of an unwritten slot and of a result that is not found: 0x8000_0000. -/
def feNone : Int := -2147483648

/-- Clamp to 32 bits; the flag says that the result was outside (R168). -/
def clamp32 (v : Int) : Int × Bool := (satS 32 v, decide (satS 32 v ≠ v))

/-- What an instruction whose guard is true does in a lane: registers written, Z and N, SATF, a predicate, a slot, and a
tower contribution with its UQ. -/
structure LaneOut where
  regs : List (Nat × Int) := []
  zn : Option (Bool × Bool) := none
  sat : Bool := false
  pred : Option (Nat × Bool) := none
  slot : Option (Nat × Int) := none
  tower : Option (Int × Nat) := none
  deriving DecidableEq, Repr

/-- A result written to D with Z and N. -/
def putD (d : Fin 16) (v : Int) : LaneOut := { regs := [(d.val, v)], zn := some (decide (v = 0), decide (v < 0)) }

/-- A result that saturates. -/
def putSat (d : Fin 16) (v : Int) : LaneOut := { putD d (clamp32 v).1 with sat := (clamp32 v).2 }

/-- A bitwise operation on 32-bit words. -/
def bitwise32 (f : Nat → Nat → Nat) (a b : Int) : Int := toS 32 (f (ofS 32 a) (ofS 32 b))

/-- The entries of a span that are not marked, with their indices, lowest index first (R172). -/
def spanOf (win : Nat → Option Int) (first cnt : Nat) : List (Nat × Int) :=
  (List.range (cnt + 1)).filterMap fun i => (win (first + i)).map fun v => (first + i, v)

/-- The first entry that is best by `better` (R172). -/
def extreme (better : Int → Int → Bool) : List (Nat × Int) → Option (Nat × Int)
  | [] => none
  | x :: xs => some (xs.foldl (fun m y => if better y.2 m.2 then y else m) x)

/-- WPEAK and WMIN: the extreme to D and its index to D + 1. -/
def putExtreme (d : Fin 16) (r : Option (Nat × Int)) : LaneOut :=
  match r with
  | some (i, v) => { putD d v with regs := [(d.val, v), (d.val + 1, (i : Int))] }
  | none => { putD d feNone with regs := [(d.val, feNone), (d.val + 1, feNone)] }

/-- One pair of INTERP, a = W[i+1] and b = W[i] (R173). -/
def interpPair (t a b : Int) (edge : Bool) : Option Int :=
  if edge then (if a ≥ t ∧ t > b then some (rdiv (256 * (a - t)) (a - b)) else none)
  else (if a < t ∧ t ≤ b then some (rdiv (256 * (t - a)) (b - a)) else none)

/-- The scan of INTERP from i = first + k - 1 down to first. -/
def interpScan (win : Nat → Option Int) (t : Int) (edge : Bool) (first : Nat) : Nat → Option Int
  | 0 => none
  | k + 1 =>
    let i := first + k
    match win (i + 1), win i with
    | some a, some b =>
      match interpPair t a b edge with
      | some f => some (256 * (2 - (i : Int)) + f)
      | none => interpScan win t edge first k
    | _, _ => interpScan win t edge first k

/-- PLOG's functions (R171). -/
def plogFn (fn : Nat) (x y : Bool) : Bool :=
  if fn = 0 then x && y else if fn = 1 then x || y else if fn = 2 then x && !y else x != y

/-- What a lane sees: its sources, its window (none: marked), K, L and its predicates. -/
structure LaneIn where
  src : Nat → Int
  win : Nat → Option Int
  k : Nat → Int
  l : Nat → Int
  pred : Nat → Bool

/-- One instruction in one lane whose guard is true. -/
def feLane (i : LaneIn) : FeIns → LaneOut
  | .nop _ => {}
  | .mov _ d a => putD d (i.src a)
  | .movi _ d imm => putD d imm.toInt
  | .ldk _ d k => putD d (i.k k)
  | .ldl _ d j => putD d (i.l j)
  | .ldw _ d a => putD d ((i.win ((i.src a) % 32).toNat).getD 0)
  | .ldwi _ d w => putD d ((i.win w).getD 0)
  | .add _ d a b => putSat d (i.src a + i.src b)
  | .sub _ d a b => putSat d (i.src a - i.src b)
  | .addi _ d a imm => putSat d (i.src a + imm.toInt)
  | .mul _ d a b => putSat d (i.src a * i.src b)
  | .mulsh _ d a b sh => putSat d (rdiv (i.src a * i.src b) (2 ^ sh.val : Nat))
  | .max _ d a b => putD d (max (i.src a) (i.src b))
  | .min _ d a b => putD d (min (i.src a) (i.src b))
  | .abs _ d a => putSat d (i.src a).natAbs
  | .shl _ d a sh => putSat d (i.src a * (2 ^ sh.val : Nat))
  | .shr _ d a sh => putD d (rdiv (i.src a) (2 ^ sh.val : Nat))
  | .and _ d a b => putD d (bitwise32 (· &&& ·) (i.src a) (i.src b))
  | .or _ d a b => putD d (bitwise32 (· ||| ·) (i.src a) (i.src b))
  | .xor _ d a b => putD d (bitwise32 (· ^^^ ·) (i.src a) (i.src b))
  | .wsum _ d first cnt => putD d ((spanOf i.win first cnt).foldl (fun t x => t + x.2) 0)
  | .wpeak _ d first cnt => putExtreme d (extreme (fun x m => decide (x > m)) (spanOf i.win first cnt))
  | .wmin _ d first cnt => putExtreme d (extreme (fun x m => decide (x < m)) (spanOf i.win first cnt))
  | .interp _ d a first edge cnt =>
    match interpScan i.win (i.src a) edge first cnt with
    | some v => { putD d v with zn := some (false, decide (v < 0)) }
    | none => { putD d feNone with zn := some (true, true) }
  | .cmpgt _ pd a b => { pred := some (pd.val, decide (i.src a > i.src b)) }
  | .cmpge _ pd a b => { pred := some (pd.val, decide (i.src a ≥ i.src b)) }
  | .cmpeq _ pd a b => { pred := some (pd.val, decide (i.src a = i.src b)) }
  | .ptst _ pd a m => { pred := some (pd.val, ofS 32 (i.src a) &&& m.toNat != 0) }
  | .plog _ pd pa pb fn => { pred := some (pd.val, plogFn fn (i.pred pa) (i.pred pb)) }
  | .feat _ slot a => { slot := some (slot.val, i.src a) }
  | .tower _ a uq => { tower := some (i.src a, uq.val) }
  | .trig _ _ _ => {}
  | .skipz _ _ _ => {}
  | .endRun _ => {}

/-- The guard of an instruction. -/
def feGuard : FeIns → Guard
  | .nop g | .mov g _ _ | .movi g _ _ | .ldk g _ _ | .ldl g _ _ | .ldw g _ _ | .ldwi g _ _ | .add g _ _ _ | .sub g _ _ _
  | .addi g _ _ _ | .mul g _ _ _ | .mulsh g _ _ _ _ | .max g _ _ _ | .min g _ _ _ | .abs g _ _ | .shl g _ _ _ | .shr g _ _ _
  | .and g _ _ _ | .or g _ _ _ | .xor g _ _ _ | .wsum g _ _ _ | .wpeak g _ _ _ | .wmin g _ _ _ | .interp g _ _ _ _ _
  | .cmpgt g _ _ _ | .cmpge g _ _ _ | .cmpeq g _ _ _ | .ptst g _ _ _ | .plog g _ _ _ _ | .feat g _ _ | .tower g _ _
  | .trig g _ _ | .skipz g _ _ | .endRun g => g

end Sys2Proof.Machine
end

