-- ==== Sys2Proof/Machine/Filter.lean ====
section
/-! DEFINITION. The half-band chain and the trigger FIR as functions of the samples, the coefficient banks, the configuration
and the FILT commands (06_filter_chain.md), and the stream admission rule (R286). -/

namespace Sys2Proof.Machine

/-! ### The admission rule (R254, R286) -/

/-- Demand of a group times TURN_LEN: (516 × (1 + RATE) + 256 × FLUSH_ALLOW / TURN_LEN) × TURN_LEN. -/
def demandOf (turnLen rate allow : Nat) : Nat := 516 * (1 + rate) * turnLen + 256 * allow

/-- The lowest set bit of a mask of TX0-TX5. -/
def lowestLane (mask : Nat) : Option Nat := (List.range 6).find? (bitAt mask)

/-- Capacity of a lane beside the service lane `svc`: 1380 for that lane, else 1472 (R286). -/
def laneCap (svc : Option Nat) (n : Nat) : Nat := if svc = some n then 1380 else 1472

/-- Sum of the capacities of a set of lanes beside the service lane `svc`. -/
def capOf (svc : Option Nat) (mask : Nat) : Nat := (List.range 6).foldl (fun a n => if bitAt mask n then a + laneCap svc n else a) 0

/-- Sum of the capacities of a set of lanes that are all in service. -/
def capSum (mask : Nat) : Nat := capOf (lowestLane mask) mask

/-- The largest capacity of a set of lanes. -/
def capMax (mask : Nat) : Nat := (List.range 6).foldl (fun a n => if bitAt mask n then max a (laneCap (lowestLane mask) n) else a) 0

/-- The configuration is admitted: the demands of the groups fit the lanes less the largest (R286). -/
def admitted (turnLen lanes : Nat) (rate allow : Nat → Nat) : Bool :=
  decide ((List.range 8).foldl (fun a g => a + demandOf turnLen (rate g) (allow g)) 0 ≤ (capSum lanes - capMax lanes) * turnLen)

/-- RATE, FLUSH_ALLOW and STREAM_LANES as now set. -/
def Hub.rateSet (s : Hub) (g : Nat) : Nat := s.fld (FLT_GCFG g) 0 0
def Hub.allowSet (s : Hub) (g : Nat) : Nat := s.fld (STR_GCFG g) 15 8
def Hub.streamLanes (s : Hub) : Nat := s.fld MSH_CTRL 5 0

/-- The configuration now set is admitted. -/
def Hub.admits (s : Hub) : Bool := admitted s.turnLen s.streamLanes s.rateSet s.allowSet

/-! ### Epochs: configuration and coefficients by label (R154, R156) -/

/-- The 35 words of a bank at reset (R142, R146), as signed coefficients and FIR_ALIGN. -/
def coefReset : List Int := hbResetA ++ hbResetB ++ hbResetA ++ hbResetB ++ List.replicate 16 4096 ++ [120]

/-- The address of word `i` of a group's bank layout (R158), inactive at 0x1000 and active at 0x2000. -/
def bankWord (active : Bool) (g i : Nat) : Nat := 0x40040000 + (if active then 0x2000 else 0x1000) + 0x100 * g + 4 * i

/-- Word `i` of a bank as a coefficient: signed 18 bits, FIR_ALIGN unsigned. -/
def coefOf (i w : Nat) : Int := if i = 34 then (w % 256 : Nat) else toS 18 w

/-- The coefficients of a bank. -/
def Hub.bankCoef (s : Hub) (active : Bool) (g : Nat) : List Int :=
  (List.range 35).map fun i => coefOf i (s.reg (bankWord active g i))

/-- The epoch that a label of frame `n` belongs to. (Log entry 50: DEDUCED, safe) -/
def Hub.epochAt (s : Hub) (g n : Nat) : Epoch :=
  ((s.flt g).epochs.find? (·.start ≤ n)).getD { start := 0, cfg := 0, coef := coefReset, clear := true }

/-- The latest frame at or before `n` from which the delay lines were cleared (R152, R156). -/
def Hub.clearedAt (s : Hub) (g n : Nat) : Nat :=
  (((s.flt g).epochs.find? fun e => e.clear && decide (e.start ≤ n)).map (·.start)).getD 0

/-- The first frame after `n` from which the delay lines were cleared, if there is one. -/
def Hub.nextClear (s : Hub) (g n : Nat) : Option Nat :=
  (((s.flt g).epochs.filter fun e => e.clear && decide (n < e.start)).getLast?).map (·.start)

/-- RATE, HB1_SEL and HB2_SEL of a configuration word (R139). -/
def cfgRate (w : Nat) : Nat := bits w 0 0
def cfgHb1 (w : Nat) : Nat := bits w 3 2
def cfgHb2 (w : Nat) : Nat := bits w 5 4

/-- Delay of HB1 and of HB2 in full-rate samples (R144). -/
def hb1Delay (sel : Nat) : Nat := if sel = 0 then 11 else if sel = 1 then 5 else 0
def hb2Delay (sel : Nat) : Nat := if sel = 0 then 22 else if sel = 1 then 10 else 0

/-- D of R144. -/
def chainDelay (cfg : Nat) : Nat := hb1Delay (cfgHb1 cfg) + if cfgRate cfg = 0 then hb2Delay (cfgHb2 cfg) else 0

/-- H of R144: the word of index j is handed over H frames after its crossing. -/
def handDelay (cfg j : Nat) : Nat := 5 + (chainDelay cfg + 2 * j) / 4

/-- Epochs, newest first, without those that no label needs: `used lo hi` says that a label from `lo` up to `hi` may still be asked for. An
epoch is needed where it is in effect, one that cleared the delay lines also from the clear before it up to the clear after it.
(Log entry 50: DEDUCED, safe) -/
def keepEpochs (used : Nat → Nat → Bool) : Nat → Nat → List Epoch → List Epoch
  | _, _, [] => []
  | hi, clear, e :: t =>
    let before := ((t.find? (·.clear)).map (·.start)).getD 0
    let rest := keepEpochs used e.start (if e.clear then e.start else clear) t
    if used e.start hi || (e.clear && (used e.start clear || used before e.start)) then e :: rest else rest

/-- The epochs of a group that an output can still need: those of the crossings in the pipeline, and those of the samples that the delay lines of
its channels hold (R147). (Log entry 50: DEDUCED, safe) -/
def Hub.neededEpochs (s : Hub) (g : Nat) (es : List Epoch) : List Epoch :=
  let held := (List.range 32).flatMap fun k => (s.chan (32 * g + k)).line.map (·.1 / 4)
  keepEpochs (fun lo hi => decide (s.frame < hi + 200) || held.any fun n => decide (lo ≤ n) && decide (n < hi)) (s.frame + 1) (s.frame + 1) es

/-- A group's epochs with a configuration change that takes effect at the tick of frame `f`: C = F − 4, and the delay lines are cleared
(R156). -/
def Hub.epochsWith (s : Hub) (g w f : Nat) : List Epoch :=
  s.neededEpochs g ({ start := f - 4, cfg := w, coef := (s.epochAt g (f - 4)).coef, clear := true } :: (s.flt g).epochs)

/-! ### Delay lines (R147, R148) -/

/-- The value at a position of a line of non-marker samples, if that sample was no marker. -/
def lineAt (l : List (Nat × Int)) (p : Nat) : Option Int := (l.find? (·.1 == p)).map (·.2)

/-- The m-th sample before position p in the frozen delay line (m ≥ 1); 0 before the line was cleared. -/
def tapPast (l : List (Nat × Int)) (p m lo : Nat) : Int :=
  match (l.filter (·.1 < p))[m - 1]? with
  | some (q, v) => if q < lo then 0 else v
  | none => 0

/-- The sample `m` steps after position p: the last non-marker input repeated where a marker run, or the change at `hi`,
begins first (R148, R156). (Log entry 49: DEDUCED, unsafe) -/
def tapNext (l : List (Nat × Int)) (step : Nat) (hi : Option Nat) : Nat → Nat → Int → Int
  | 0, _, v => v
  | m + 1, p, v =>
    match lineAt l (p + step) with
    | some w => if hi.any (· ≤ p + step) then v else tapNext l step hi m (p + step) w
    | none => v

/-- Scale, round half away from zero and clamp (R142); the flag says that it clamped. -/
def scaled (acc : Int) (scale : Nat) : Int × Bool :=
  let v := rdiv acc scale
  (clampLin v, decide (v ≠ clampLin v))

/-- One half-band output at position p (R141) from a line whose positions are `step` apart. -/
def halfBand (cs : List Int) (l : List (Nat × Int)) (step p lo : Nat) (hi : Option Nat) : Int × Bool :=
  let x := (lineAt l p).getD 0
  let acc := cs.zipIdx.foldl (fun a (c, i) =>
    a + c * (tapPast l p (2 * i + 1) lo + tapNext l step hi (2 * i + 1) p x)) (65536 * x)
  scaled acc 131072

/-- HB1's output at an even position p. -/
def Hub.hb1 (s : Hub) (ch p : Nat) : Int × Bool :=
  let g := ch / 32
  let e := s.epochAt g (p / 4)
  let l := (s.chan ch).line
  match cfgHb1 e.cfg with
  | 0 => halfBand (e.coef.take 6) l 1 p (4 * s.clearedAt g (p / 4)) ((s.nextClear g (p / 4)).map (4 * ·))
  | 1 => halfBand ((e.coef.drop 6).take 3) l 1 p (4 * s.clearedAt g (p / 4)) ((s.nextClear g (p / 4)).map (4 * ·))
  | _ => ((lineAt l p).getD 0, false)

/-- HB1's line as HB2 takes it: its outputs at even positions that stand for no marker (R147), newest first. -/
def Hub.hb1Line (s : Hub) (ch : Nat) : List (Nat × Int) :=
  let l := (s.chan ch).line
  l.filterMap fun (p, _) => if p % 2 = 0 ∧ (lineAt l (p + 1)).isSome then some (p, (s.hb1 ch p).1) else none

/-- HB2's output at position p = 4 N. -/
def Hub.hb2 (s : Hub) (ch p : Nat) : Int × Bool :=
  let g := ch / 32
  let e := s.epochAt g (p / 4)
  let l := s.hb1Line ch
  match cfgHb2 e.cfg with
  | 0 => halfBand ((e.coef.drop 9).take 6) l 2 p (4 * s.clearedAt g (p / 4)) ((s.nextClear g (p / 4)).map (4 * ·))
  | 1 => halfBand ((e.coef.drop 15).take 3) l 2 p (4 * s.clearedAt g (p / 4)) ((s.nextClear g (p / 4)).map (4 * ·))
  | _ => let (v, f) := s.hb1 ch p; (v, f)

/-- A full-rate sample of frame `n`; one whose crossing the pipeline does not hold reads as blanked. -/
def Hub.sampAt (s : Hub) (ch n k : Nat) : Samp :=
  match s.frameRec n with
  | some r => tget (fun _ => {}) r.samp (4 * ch + k)
  | none => { mark := 0 }

/-- The marker of a set of samples of frame `n` (R78, R147); 7 when there is none. -/
def Hub.marksOf (s : Hub) (ch n : Nat) (ks : List Nat) : Nat := firstMark (ks.map fun k => (s.sampAt ch n k).mark)

/-- The marker of a word of the stream or of a record: that of the samples its position stands for. In HOLD every word of an enabled channel is
blanked (01_hub_at_a_glance.md, R123, R230). (Log entry 216: DEDUCED, unsafe) -/
def Hub.wordMark (s : Hub) (ch n : Nat) (ks : List Nat) : Nat :=
  let m := s.marksOf ch n ks
  if (s.frameRec n).any (·.mode == mHOLD) then firstMark [m, 0] else m

/-- The marker of a stream word (R78, R147). -/
def Hub.streamMark (s : Hub) (ch n j : Nat) : Nat :=
  s.wordMark ch n (if cfgRate (s.epochAt (ch / 32) n).cfg = 0 then [0, 1, 2, 3] else [2 * j, 2 * j + 1])

/-- A stream word with its saturation flag (R140, R142, R143, R78). (Log entry 222: DESIGN CHOICE, unsafe) -/
def Hub.streamWord (s : Hub) (ch n j : Nat) : Nat × Bool :=
  let m := s.streamMark ch n j
  if m ≠ 7 then (markerWord m, false)
  else
    let (v, f) := if cfgRate (s.epochAt (ch / 32) n).cfg = 0 then s.hb2 ch (4 * n) else s.hb1 ch (4 * n + 2 * j)
    let (w, g) := encodeWord v
    (w, f || g)

/-- The tick at which a word is handed to the codec (R144). -/
def Hub.handFrame (s : Hub) (g n j : Nat) : Nat := n + handDelay (s.epochAt g n).cfg j

/-- The word indices of a crossing. -/
def Hub.wordsOf (s : Hub) (g n : Nat) : List Nat := if cfgRate (s.epochAt g n).cfg = 0 then [0] else [0, 1]

/-- The tick at which the codec takes a word: its own hand-over, or a later one of an earlier word that a configuration change has
overtaken, since ingots hold words in the order of their crossings (R235, R156). (Log entry 48: DEDUCED, unsafe) -/
def Hub.takeFrame (s : Hub) (g n j : Nat) : Nat :=
  (List.range 14).foldl (fun f k => if k = 0 ∨ k > n then f else max f (s.handFrame g (n - k) ((s.wordsOf g (n - k)).getLastD 0)))
    (s.handFrame g n j)

/-- The words (N, j) of a group whose tick by `at_` is the present one, in order. -/
def Hub.wordsAt (s : Hub) (at_ : Nat → Nat → Nat) (g : Nat) : List (Nat × Nat) :=
  ((List.range 14).reverse).flatMap fun k =>
    if k > s.frame then [] else (s.wordsOf g (s.frame - k)).filterMap fun j => if at_ (s.frame - k) j = s.frame then some (s.frame - k, j) else none

/-- The words of a group handed over at the present tick, and those the codec takes. -/
def Hub.handed (s : Hub) (g : Nat) : List (Nat × Nat) := s.wordsAt (s.handFrame g) g
def Hub.codecTakes (s : Hub) (g : Nat) : List (Nat × Nat) := s.wordsAt (s.takeFrame g) g

/-! ### The trigger FIR (R145-R150) -/

/-- A trigger output as it reaches the engine (R145): value, saturation, marker code (7 none) and settling. -/
structure FirOut where
  v : Int
  sat : Bool
  mark : Nat
  settling : Bool
  align : Nat
  deriving DecidableEq, Repr

/-- Fewer than 16 non-marker samples have entered since the last marker or clear (R150). -/
def Hub.settlingFir (s : Hub) (ch n lo : Nat) : Bool :=
  !((List.range 16).all fun i =>
    decide (lo + i ≤ 4 * n + 3) && (lineAt (s.chan ch).line (4 * n + 3 - i)).isSome)

/-- y[N] of a channel for the crossing of frame `n`. -/
def Hub.fir (s : Hub) (ch n : Nat) : FirOut :=
  let g := ch / 32
  let e := s.epochAt g n
  let m := s.marksOf ch n [0, 1, 2, 3]
  let align := (e.coef.getD 34 0).toNat
  let lo := 4 * s.clearedAt g n
  let l := ((s.chan ch).line.filter fun x => decide (x.1 < 4 * n + 4)).take 16
  if m ≠ 7 then { v := 0, sat := false, mark := m, settling := false, align := align }
  else
    let acc := ((e.coef.drop 18).take 16).zipIdx.foldl (fun a (h, i) =>
      a + h * (match l[i]? with | some (q, v) => if q < lo then 0 else v | none => 0)) 0
    let (v, f) := scaled acc 65536
    { v := v, sat := f, mark := 7, settling := s.settlingFir ch n lo, align := align }

/-- The output at full-rate position p is settling: fewer than D positions have passed since the first non-marker sample
after a marker run, or since a clear, and the output, of marker `m`, is no marker (R149). -/
def Hub.settlingAt (s : Hub) (ch p d m : Nat) : Bool :=
  let l := (s.chan ch).line
  let lo := 4 * s.clearedAt (ch / 32) (p / 4)
  m == 7 && (List.range d).any fun i =>
    decide (i ≤ p) &&
      (decide (p - i = lo) || (decide (p - i > 0) && (lineAt l (p - i)).isSome && (lineAt l (p - i - 1)).isNone))

/-- The filters stand still: PD2 is in reset, or LOADING powers no more of it than the decoder and the elastic buffer (R22). -/
def Hub.filtersOff (s : Hub) : Bool := !s.bit RP_PD_STATUS 2 || s.now.mode == mLOADING

/-- Frame-tick work of the filter: a frame in which they stand still gives them no sample; saturated trigger outputs of the crossing delivered
to the engines and saturated stream words handed over are counted (R142, R145). (Log entry 222: DESIGN CHOICE, unsafe) -/
def Hub.fltTick (s : Hub) : Hub :=
  let s := if s.filtersOff then { s with filtFrom := s.frame + 1 } else s
  s.each (List.range 8) fun s g =>
    let chs := (List.range 32).map (32 * g + ·)
    let nf := if s.frame < 7 then 0 else (chs.filter fun c => (s.fir c (s.frame - 7)).sat).length
    let ns := (s.handed g).foldl (fun a (n, j) => a + (chs.filter fun c => (s.streamWord c n j).2).length) 0
    let s := if nf > 0 then (s.addSat (FLT_SAT_COUNT g) 15 0 nf).setBit FLT_SAT_STICKY (8 + g) true else s
    if ns > 0 then (s.addSat (FLT_SAT_COUNT g) 31 16 ns).setBit FLT_SAT_STICKY g true else s

/-! ### Swaps and configuration changes (R153-R157) -/

/-- A group's swap is pending. -/
def Hub.swapPending (s : Hub) (g : Nat) : Bool := s.bit FLT_STATUS g
def Hub.cfgPending (s : Hub) (g : Nat) : Bool := s.bit FLT_STATUS (16 + g)

/-- A swap of a group of the mask is pending: its inactive bank takes no write (R153). -/
def Hub.bankBusy (s : Hub) (mask : Nat) : Bool := (List.range 8).any fun g => bitAt mask g && s.swapPending g

/-- Request a swap of the groups of a mask at the next tick. -/
def Hub.reqSwap (s : Hub) (mask : Nat) : Hub :=
  s.eachBit 8 mask fun s g => (s.setFlt g { s.flt g with swapAt := some (s.frame + 1) }).setBit FLT_STATUS g true

/-- The frame from which a change at the present tick acts: C = F − 4 (R154). -/
def Hub.swapLabel (s : Hub) : Nat := s.frame - 4

/-- One group's bank swap: outputs labelled C onward use the new bank, and the register banks exchange. -/
def Hub.swapGroup (s : Hub) (g : Nat) : Hub :=
  let e := s.epochAt g s.swapLabel
  let new : Epoch := { start := s.swapLabel, cfg := e.cfg, coef := s.bankCoef false g, clear := false }
  let x := s.flt g
  let s := s.setFlt g { x with epochs := s.neededEpochs g (new :: x.epochs), swapAt := none }
  let s := s.each (List.range 35) fun s i => s.exchange (bankWord false g i) (bankWord true g i)
  (s.setBit FLT_STATUS g false).setBit FLT_STATUS (8 + g) (!s.bit FLT_STATUS (8 + g))

/-- FILTER_SWAP_APPLY: every requested swap that is due takes effect, and the commands that wait for no other swap are answered (R154, R155). -/
def Hub.filterSwap (s : Hub) : Hub :=
  let due := (List.range 8).filter fun g => (s.flt g).swapAt.any (· ≤ s.frame)
  if due.isEmpty then s
  else
    let mask := due.foldl (fun a g => a + 2 ^ g) 0
    let (c, t) := s.crossAt s.swapLabel
    let s := s.each due Hub.swapGroup
    let s := (s.setReg FLT_SWAP_CROSSING (mask * 65536 + c)).setShadow FLT_SWAP_TURN t
    let s := s.emit 0x0501 [mask, c, t]
    s.complete (fun d => d.op == 0x0504 && !s.bankBusy d.arg) stOK (crossPayload c t)

def execFilterSwapApply := lift Hub.filterSwap

/-- The tick at which a change requested now takes effect (R156). -/
def Hub.cfgFrame (s : Hub) : Nat := if s.mode = mHOLD then s.frame + s.toTurn + 4 else s.frame + 1

/-- Request a configuration change of one group; a change to the value already in effect has no effect (R156). -/
def Hub.reqCfg (s : Hub) (g w : Nat) : Hub :=
  let s := s.setReg (FLT_GCFG g) w
  if s.reg (FLT_GCFG_ACT g) = w then s
  else (s.setFlt g { s.flt g with cfgAt := some (w, s.cfgFrame) }).setBit FLT_STATUS (16 + g) true

/-- FILTER_CONFIG_APPLY: every change that is due takes effect at this tick for outputs labelled C onward, and clears
the group's delay lines (R156, R157). -/
def Hub.filterConfig (s : Hub) : Hub :=
  s.each (List.range 8) fun s g =>
    let x := s.flt g
    match x.cfgAt with
    | none => s
    | some (w, f) =>
      if s.frame < f then s
      else
        let s := s.setFlt g { x with epochs := s.epochsWith g w f, cfgAt := none }
        (s.setReg (FLT_GCFG_ACT g) w).setBit FLT_STATUS (16 + g) false

def execFilterConfigApply := lift Hub.filterConfig

/-! ### FILT commands (R159, R160) -/

/-- The configuration with the masked groups at RATE `r` is admitted. -/
def Hub.admitsRate (s : Hub) (mask r : Nat) : Bool :=
  admitted s.turnLen s.streamLanes (fun g => if bitAt mask g then r else s.rateSet g) s.allowSet

/-- Some masked group's demand would rise. -/
def Hub.rateRises (s : Hub) (mask r : Nat) : Bool := (List.range 8).any fun g => bitAt mask g && decide (s.rateSet g < r)

/-- (Log entry 242: DESIGN CHOICE, unsafe) -/
def filtSetConfigBody (p : List Byte) (s : Hub) : Reply × Hub :=
  let mask := pl p 0 1
  let rate := pl p 1 1
  let a := pl p 2 1
  let b := pl p 3 1
  let w := rate + 4 * a + 16 * b
  guarded [(p.length ≠ 4, stBAD_LEN), (mask = 0 ∨ rate > 1 ∨ a ≥ 3 ∨ b ≥ 3, stBAD_ARG),
    (s.modeIn [mLOADING, mRUN, mPULSE], stBAD_MODE),
    ((List.range 8).any (fun g => bitAt mask g && s.cfgPending g), stBUSY),
    (s.rateRises mask rate ∧ ¬ s.admitsRate mask rate, stNOT_ADMITTED)] s fun s =>
  let (c, t) := if s.mode = mHOLD then (0, (s.tt.turn + 1) % 2 ^ 32) else s.crossAt (s.frame + 1 - 4)
  okay (if s.mode = mIDLE then crossPayload 0xFFFF 0xFFFFFFFF else crossPayload c t) (s.eachBit 8 mask fun s g => s.reqCfg g w)

/-- A coefficient sent as s32 is in range (R159). -/
def coefOk (v : Int) : Bool := decide (-131072 ≤ v) && decide (v ≤ 131071)

/-- (Log entry 224: DESIGN CHOICE, unsafe) -/
def filtWriteHbBody (p : List Byte) (s : Hub) : Reply × Hub :=
  let mask := pl p 0 1
  let stage := pl p 1 1
  let set := pl p 2 1
  let n := if set = 0 then 6 else 3
  let cs := (List.range n).map fun i => toS 32 (pl p (4 + 4 * i) 4)
  let base := (if stage = 0 then 0 else 9) + (if set = 0 then 0 else 6)
  guarded [(p.length ≠ 4 + 4 * n, stBAD_LEN),
    (mask = 0 ∨ stage > 1 ∨ set > 1 ∨ ¬ plZero p 3 1 ∨ ¬ cs.all coefOk, stBAD_ARG),
    (s.bankBusy mask, stBUSY)] s fun s =>
  okay [] (s.eachBit 8 mask fun s g => s.each (List.range n) fun s i => s.setReg (bankWord false g (base + i)) (ofS 18 (cs.getD i 0)))

def filtWriteFirBody (p : List Byte) (s : Hub) : Reply × Hub :=
  let mask := pl p 0 1
  let cs := (List.range 16).map fun i => toS 32 (pl p (4 + 4 * i) 4)
  guarded [(p.length ≠ 68, stBAD_LEN), (mask = 0 ∨ ¬ plZero p 2 2 ∨ ¬ cs.all coefOk, stBAD_ARG), (s.bankBusy mask, stBUSY)] s fun s =>
  okay [] (s.eachBit 8 mask fun s g =>
    (s.each (List.range 16) fun s i => s.setReg (bankWord false g (18 + i)) (ofS 18 (cs.getD i 0))).setReg (bankWord false g 34) (pl p 1 1))

/-- Modes in which a swap is accepted (R155). -/
def swapModes : List Nat := [mIDLE, mPREPARE, mHOLD, mTEST]

def filtSwapBody (p : List Byte) (s : Hub) : Reply × Hub :=
  let mask := pl p 0 1
  guarded [(p.length ≠ 4, stBAD_LEN), (mask = 0 ∨ ¬ plZero p 1 3, stBAD_ARG), (¬ s.modeIn swapModes, stBAD_MODE),
    (s.bankBusy mask, stBUSY)] s fun s =>
  (.later mask, s.reqSwap mask)

def filtReadBody (p : List Byte) (s : Hub) : Reply × Hub :=
  let g := pl p 0 1
  let bank := pl p 1 1
  guarded [(p.length ≠ 4, stBAD_LEN), (g > 7 ∨ bank > 1 ∨ ¬ plZero p 2 2, stBAD_ARG)] s fun s =>
  okay (words ((List.range 35).map (fun i => s.reg (bankWord (bank == 0) g i)) ++ [s.reg (FLT_GCFG_ACT g)])) s

def filtGetStatusBody (p : List Byte) (s : Hub) : Reply × Hub :=
  guarded [(p.length ≠ 0, stBAD_LEN)] s fun s =>
  okay (words ([s.reg FLT_STATUS, s.reg FLT_SAT_STICKY] ++ (List.range 8).map (fun g => s.reg (FLT_SAT_COUNT g)) ++
    (List.range 8).map (fun g => s.reg (FLT_GCFG_ACT g)))) s

def execFiltSetConfig (h : Hdr) (p : List Byte) := lift fun s => s.command 0x0501 h p (filtSetConfigBody p)
def execFiltWriteHb (h : Hdr) (p : List Byte) := lift fun s => s.command 0x0502 h p (filtWriteHbBody p)
def execFiltWriteFir (h : Hdr) (p : List Byte) := lift fun s => s.command 0x0503 h p (filtWriteFirBody p)
def execFiltSwap (h : Hdr) (p : List Byte) := lift fun s => s.command 0x0504 h p (filtSwapBody p)
def execFiltRead (h : Hdr) (p : List Byte) := lift fun s => s.command 0x0505 h p (filtReadBody p)
def execFiltGetStatus (h : Hdr) (p : List Byte) := lift fun s => s.command 0x0506 h p (filtGetStatusBody p)

/-- FLT_CTRL_SWAP_GROUPS: a write of SWAP_GROUPS requests a swap of the groups named (R154, R155). -/
def Hub.swapGroups (s : Hub) (mask : Nat) : Hub :=
  if mask = 0 ∨ ¬ s.modeIn swapModes ∨ s.bankBusy mask then s else s.reqSwap mask

def execFltCtrlSwapGroups (mask : BitVec 8) := lift fun s => s.swapGroups mask.toNat

/-- FLT_SWAP_CROSSING_READ: the read latches FLT_SWAP_TURN (R158). -/
def execFltSwapCrossingRead := lift fun s => s.latchTurn FLT_SWAP_TURN

end Sys2Proof.Machine
end

