-- ==== Sys2Proof/Machine/Engines.lean ====
section
/-! DEFINITION. The feature engines: what a lane sees, the run of a program, starting, stopping, faults, and the ENGINE
commands but ENGINE_LOAD (07_feature_engines.md). -/

namespace Sys2Proof.Machine

/-! ### What a lane sees (R164-R166) -/

/-- y[N] of a channel; one for which the FIR has produced no output since the last reset of PD2 reads 0 and is settling (R164, R22).
(Log entry 249: DEDUCED, unsafe) -/
def Hub.yOf (s : Hub) (ch n : Nat) : FirOut :=
  if s.filtFrom ≤ n ∧ (s.frameRec n).isSome then s.fir ch n
  else { v := 0, sat := false, mark := 7, settling := true, align := ((s.epochAt (ch / 32) n).coef.getD 34 0).toNat }

/-- W[i] of a channel in the run of frame `n`; none: marked, as is what a reset of PD2 has left (R165, R152). (Log entry 249: DEDUCED, unsafe) -/
def Hub.window (s : Hub) (ch n i : Nat) : Option Int :=
  let p := 4 * n + 3 - i
  if i > 4 * n + 3 ∨ p < 4 * max s.filtFrom (s.clearedAt (ch / 32) n) ∨ (s.frameRec (p / 4)).isNone then none
  else
    let x := s.sampAt ch (p / 4) (p % 4)
    if x.mark = 7 then some x.lin else none

/-- STAT of a lane but for SATF, N and Z (R166). -/
def Hub.statBase (s : Hub) (ch n : Nat) : Nat :=
  let y := s.yOf ch n
  let yp := if n = 0 then { y with v := 0, sat := false, mark := 7, settling := true } else s.yOf ch (n - 1)
  let x := fun k => b2n (s.window ch n (3 - k)).isNone * 2 ^ (5 + k)
  (if y.mark = 7 then 0 else y.mark * 2 ^ 13) + b2n (((s.frameRec n).map (·.blank)).getD false) * 2 ^ 9 +
    x 0 + x 1 + x 2 + x 3 + b2n yp.settling * 2 ^ 4 + b2n (yp.mark != 7) * 2 ^ 3 + b2n y.sat * 2 ^ 2 +
    b2n y.settling * 2 + b2n (y.mark != 7)

/-- A predicate of a lane; P0 reads 1 (R167). -/
def FeRun.predOf (r : FeRun) (l p : Nat) : Bool := p = 0 || tget (fun _ => false) r.preds (8 * l + p)

/-- A lane register (R167). -/
def Engine.vOf (e : Engine) (l j : Nat) : Int := tget (fun _ => 0) e.v (16 * l + j)

/-- Source `a` of lane `l` of engine `g` (R164). -/
def Hub.feSrc (s : Hub) (g l : Nat) (e : Engine) (r : FeRun) (a : Nat) : Int :=
  let ch := 32 * g + l
  if a < 16 then e.vOf l a
  else if a < 20 then (s.window ch r.n (19 - a)).getD 0
  else if a = 20 then (s.yOf ch r.n).v
  else if a = 21 then (if r.n = 0 then 0 else (s.yOf ch (r.n - 1)).v)
  else if a = 22 then
    ((s.statBase ch r.n + b2n (tget (fun _ => false) r.satf l) * 2 ^ 12 + b2n (tget (fun _ => false) r.neg l) * 2 ^ 11 +
      b2n (tget (fun _ => false) r.z l) * 2 ^ 10 : Nat) : Int)
  else if a = 23 then l
  else if a = 24 then ch
  else if a = 25 then (s.yOf ch r.n).align
  else if a = 26 then (s.crossAt r.n).1
  else 0

/-- First byte of the program memory of engine g. -/
def feBase (g : Nat) : Nat := 0x38000000 + 0x1000 * g

/-- What lane `l` sees. -/
def Hub.laneIn (s : Hub) (g l : Nat) (e : Engine) (r : FeRun) : LaneIn :=
  { src := s.feSrc g l e r
    win := s.window (32 * g + l) r.n
    k := fun k => toS 32 (s.memWord (feBase g + 0x410 + 4 * k))
    l := fun j => toS 32 (s.memWord (feBase g + 0x800 + 64 * l + 4 * j))
    pred := r.predOf l }

/-! ### One instruction (R168, R174-R177) -/

/-- The guard of an instruction is true in a lane. -/
def FeRun.guarded (r : FeRun) (l : Nat) (gd : Guard) : Bool := r.predOf l gd.p.val != gd.neg

/-- Put what a lane's instruction does into the engine and its run. -/
def applyLane (l : Nat) (o : LaneOut) (x : Engine × FeRun) : Engine × FeRun :=
  let (e, r) := x
  let e := { e with v := o.regs.foldl (fun t (j, v) => tset (fun _ => 0) t (16 * l + j) v) e.v }
  let r := match o.zn with
    | some (z, n) => { r with z := tset (fun _ => false) r.z l z, neg := tset (fun _ => false) r.neg l n }
    | none => r
  let r := if o.sat then { r with satf := tset (fun _ => false) r.satf l true } else r
  let r := match o.pred with
    | some (p, b) => if p = 0 then r else { r with preds := tset (fun _ => false) r.preds (8 * l + p) b }
    | none => r
  let r := match o.slot with
    | some (i, v) => { r with slots := tset (fun _ => feNone) r.slots (16 * l + i) v }
    | none => r
  let r := match o.tower with
    | some (v, q) => { r with tower := tset (fun _ => 0) r.tower l v, uq := tset (fun _ => 0) r.uq l q }
    | none => r
  (e, r)

/-- One instruction in every lane whose guard is true. -/
def Hub.feLanes (s : Hub) (g : Nat) (ins : FeIns) (x : Engine × FeRun) : Engine × FeRun :=
  (List.range 32).foldl (fun y l =>
    if y.2.guarded l (feGuard ins) then applyLane l (feLane (s.laneIn g l y.1 y.2) ins) y else y) x

/-- The lanes in which a guard is true, as a mask. -/
def FeRun.laneMask (r : FeRun) (gd : Guard) : Nat :=
  (List.range 32).foldl (fun a l => if r.guarded l gd then a + 2 ^ l else a) 0

/-- A feature engine's state (R181): 0 stopped, 1 start pending, 2 running, 3 faulted. -/
def Hub.feState (s : Hub) (g : Nat) : Nat := s.fld (FE_STATE g) 2 0
def Hub.setFeState (s : Hub) (g st : Nat) : Hub := s.setFld (FE_STATE g) 2 0 st

/-- An engine fault: cause, instruction index and crossing are recorded, logged and reported, and the run delivers nothing, though it has
ended (R183, R59). (Log entry 246: DESIGN CHOICE, unsafe) -/
def Hub.feFault (s : Hub) (g cause : Nat) : Hub :=
  let e := s.eng g
  let (pc, n) := match e.run with | some r => (r.pc, r.n) | none => (0, s.frame - 7)
  let (c, t) := s.crossAt n
  let s := s.setEng g { e with run := none, startAt := none, stopAt := none, outs := e.outs.filter (·.n != n) }
  let s := ((s.setFeState g 3).setFld (FE_STATE g) 11 8 cause).setFld (FE_STATE g) 31 24 pc
  let s := (s.setReg (FE_FAULT_CROSSING g) c).setShadow (FE_FAULT_TURN g) t
  let s := s.logFault 3 g (if cause = 2 then 3 + g else if cause = 4 then 13 else 0xFF) cause
  s.emit 0x0601 [g, cause, pc, c, t]

/-- The instruction at an index of engine g's program memory; none when the word is reserved. (Log entry 52: DEDUCED, unsafe) -/
def Hub.feAt (s : Hub) (g pc : Nat) : Option FeIns := if pc < 256 then feDecode (s.memWord (feBase g + 4 * pc)) else none

/-- The fetch at an engine's next instruction: SECDED, and the fault of a reserved instruction (R183, R390, R392). -/
def Hub.feFetch (s : Hub) (g : Nat) : Hub :=
  match (s.eng g).run with
  | none => s
  | some r =>
    if r.ended then s
    else match s.readWords (8 + g) 2 [feBase g + 4 * r.pc] with
      | (false, s) => s.feFault g 2
      | (true, s) => if (s.feAt g r.pc).isNone then s.feFault g 3 else s

/-- The words of the program memory that an instruction reads: a scalar constant, or the lane constants where its guard is true. -/
def feReads (g : Nat) (r : FeRun) : FeIns → List Nat
  | .ldk _ _ k => [feBase g + 0x410 + 4 * k.val]
  | .ldl gd _ j => ((List.range 32).filter fun l => r.guarded l gd).map fun l => feBase g + 0x800 + 64 * l + 4 * j.val
  | _ => []

/-- A lane's slot of a run. -/
def FeRun.slotOf (r : FeRun) (l i : Nat) : Int := tget (fun _ => feNone) r.slots (16 * l + i)

/-- The feature block of a completed run (R174). -/
def Hub.featureBlock (s : Hub) (g : Nat) (r : FeRun) : List Byte :=
  let (c, t) := s.crossAt r.n
  let nfeat := s.fld (FE_STATE g) 19 16
  let satLanes := (List.range 32).foldl (fun a l => if tget (fun _ => false) r.satf l then a + 2 ^ l else a) 0
  let flags := b2n (r.trigLanes != 0) + 2 * b2n r.tvalid + 4 * r.tslot + 32 * b2n (satLanes != 0) + 64 * b2n r.entry1
  leBytes 2 c ++ [BitVec.ofNat 8 nfeat, BitVec.ofNat 8 flags] ++ leBytes 4 t ++
    leBytes 4 (s.yOf (32 * g) r.n).align ++ leBytes 4 r.trigLanes ++ leBytes 4 satLanes ++
    (List.range nfeat).flatMap fun i => (List.range 32).flatMap fun l => leBytes 4 (ofS 32 (r.slotOf l i))

/-- The lowest set bit of a mask of lanes. -/
def lowLane (mask : Nat) : Nat := ((List.range 32).find? (bitAt mask)).getD 0

/-- END: results go to the output stage, counters advance, and a stop that waited for this run takes effect (R162, R174-R176, R182). -/
def Hub.feEnd (s : Hub) (g : Nat) (e : Engine) (r : FeRun) : Hub :=
  let satLanes := (List.range 32).foldl (fun a l => if tget (fun _ => false) r.satf l then a + 2 ^ l else a) 0
  let out : FeOut := { n := r.n, valid := true, tower := r.tower, uq := r.uq, satf := satLanes, trigLanes := r.trigLanes,
                       trigTime := if r.trigLanes ≠ 0 ∧ r.tvalid then some (r.slotOf (lowLane r.trigLanes) r.tslot) else none,
                       block := s.featureBlock g r }
  let stop := e.stopAt.any (· ≤ r.n)
  let s := s.setEng g { e with run := some { r with ended := true }, outs := (out :: e.outs).take 160,
                               stopAt := if stop then none else e.stopAt }
  let s := if r.trigLanes ≠ 0 then s.incWrap (FE_TRIGS g) 31 0 else s
  let s := if satLanes ≠ 0 then s.incSat (FE_SATF g) 15 0 else s
  if stop then s.setFeState g 0 else s

/-- The effect of the instruction at the next index. -/
def Hub.feApply (s : Hub) (g : Nat) (e : Engine) (r : FeRun) (ins : FeIns) : Hub :=
  let r := { r with cycles := r.cycles + feCost ins }
  match ins with
  | .endRun _ => s.feEnd g e r
  | .skipz _ pc n =>
    let none' := (List.range 32).all fun l => !r.predOf l pc.val
    s.setEng g { e with run := some { r with pc := r.pc + 1 + if none' then n.toNat else 0 } }
  | .trig gd tv ts =>
    let m := r.laneMask gd
    let r := if m = 0 then r else { r with trigLanes := r.trigLanes ||| m, tslot := ts.val, tvalid := tv }
    s.setEng g { e with run := some { r with pc := r.pc + 1 } }
  | ins =>
    let (e, r) := s.feLanes g ins (e, r)
    s.setEng g { e with run := some { r with pc := r.pc + 1 } }

/-- The instruction is the next one of the run in progress of engine g, and a cycle is left to issue it (R162). -/
def Hub.feIssues (s : Hub) (g : Nat) (r : FeRun) (ins : FeIns) : Bool :=
  !r.ended && decide (r.cycles + feCost ins ≤ 28) && s.feAt g r.pc == some ins

/-- One instruction of engine g's program: it issues when it is the next one of the run in progress. An uncorrectable constant is a fault
(R393). (Log entry 55: DEDUCED, safe) -/
def Hub.feStep (s : Hub) (g : Nat) (ins : FeIns) : Hub :=
  match (s.eng g).run with
  | some r =>
    if s.feIssues g r ins then
      match s.readWords (8 + g) 0 (feReads g r ins) with
      | (true, s) => (s.feApply g (s.eng g) r ins).feFetch g
      | (false, s) => s.feFault g 2
    else s
  | none => s

def execFeNop (g : Fin 8) (gd : Guard) := lift fun s => s.feStep g.val (.nop gd)
def execFeMov (g : Fin 8) (gd : Guard) (d : Fin 16) (a : FeSrc) := lift fun s => s.feStep g.val (.mov gd d a)
def execFeMovi (g : Fin 8) (gd : Guard) (d : Fin 16) (imm : BitVec 18) := lift fun s => s.feStep g.val (.movi gd d imm)
def execFeLdk (g : Fin 8) (gd : Guard) (d : Fin 16) (k : Fin 252) := lift fun s => s.feStep g.val (.ldk gd d k)
def execFeLdl (g : Fin 8) (gd : Guard) (d : Fin 16) (j : Fin 16) := lift fun s => s.feStep g.val (.ldl gd d j)
def execFeLdw (g : Fin 8) (gd : Guard) (d : Fin 16) (a : FeSrc) := lift fun s => s.feStep g.val (.ldw gd d a)
def execFeLdwi (g : Fin 8) (gd : Guard) (d : Fin 16) (i : Fin 32) := lift fun s => s.feStep g.val (.ldwi gd d i)
def execFeAdd (g : Fin 8) (gd : Guard) (d : Fin 16) (a b : FeSrc) := lift fun s => s.feStep g.val (.add gd d a b)
def execFeSub (g : Fin 8) (gd : Guard) (d : Fin 16) (a b : FeSrc) := lift fun s => s.feStep g.val (.sub gd d a b)
def execFeAddi (g : Fin 8) (gd : Guard) (d : Fin 16) (a : FeSrc) (imm : BitVec 13) := lift fun s => s.feStep g.val (.addi gd d a imm)
def execFeMul (g : Fin 8) (gd : Guard) (d : Fin 16) (a b : FeSrc) := lift fun s => s.feStep g.val (.mul gd d a b)
def execFeMulsh (g : Fin 8) (gd : Guard) (d : Fin 16) (a b : FeSrc) (sh : Fin 32) := lift fun s => s.feStep g.val (.mulsh gd d a b sh)
def execFeMax (g : Fin 8) (gd : Guard) (d : Fin 16) (a b : FeSrc) := lift fun s => s.feStep g.val (.max gd d a b)
def execFeMin (g : Fin 8) (gd : Guard) (d : Fin 16) (a b : FeSrc) := lift fun s => s.feStep g.val (.min gd d a b)
def execFeAbs (g : Fin 8) (gd : Guard) (d : Fin 16) (a : FeSrc) := lift fun s => s.feStep g.val (.abs gd d a)
def execFeShl (g : Fin 8) (gd : Guard) (d : Fin 16) (a : FeSrc) (sh : Fin 32) := lift fun s => s.feStep g.val (.shl gd d a sh)
def execFeShr (g : Fin 8) (gd : Guard) (d : Fin 16) (a : FeSrc) (sh : Fin 32) := lift fun s => s.feStep g.val (.shr gd d a sh)
def execFeAnd (g : Fin 8) (gd : Guard) (d : Fin 16) (a b : FeSrc) := lift fun s => s.feStep g.val (.and gd d a b)
def execFeOr (g : Fin 8) (gd : Guard) (d : Fin 16) (a b : FeSrc) := lift fun s => s.feStep g.val (.or gd d a b)
def execFeXor (g : Fin 8) (gd : Guard) (d : Fin 16) (a b : FeSrc) := lift fun s => s.feStep g.val (.xor gd d a b)
def execFeWsum (g : Fin 8) (gd : Guard) (d : Fin 16) (first cnt : Fin 32) := lift fun s => s.feStep g.val (.wsum gd d first cnt)
def execFeWpeak (g : Fin 8) (gd : Guard) (d : Fin 16) (first cnt : Fin 32) := lift fun s => s.feStep g.val (.wpeak gd d first cnt)
def execFeWmin (g : Fin 8) (gd : Guard) (d : Fin 16) (first cnt : Fin 32) := lift fun s => s.feStep g.val (.wmin gd d first cnt)
def execFeInterp (g : Fin 8) (gd : Guard) (d : Fin 16) (a : FeSrc) (first : Fin 32) (edge : Bool) (cnt : Fin 32) :=
  lift fun s => s.feStep g.val (.interp gd d a first edge cnt)
def execFeCmpgt (g : Fin 8) (gd : Guard) (pd : Fin 8) (a b : FeSrc) := lift fun s => s.feStep g.val (.cmpgt gd pd a b)
def execFeCmpge (g : Fin 8) (gd : Guard) (pd : Fin 8) (a b : FeSrc) := lift fun s => s.feStep g.val (.cmpge gd pd a b)
def execFeCmpeq (g : Fin 8) (gd : Guard) (pd : Fin 8) (a b : FeSrc) := lift fun s => s.feStep g.val (.cmpeq gd pd a b)
def execFePtst (g : Fin 8) (gd : Guard) (pd : Fin 8) (a : FeSrc) (mask : BitVec 13) := lift fun s => s.feStep g.val (.ptst gd pd a mask)
def execFePlog (g : Fin 8) (gd : Guard) (pd pa pb : Fin 8) (fn : Fin 4) := lift fun s => s.feStep g.val (.plog gd pd pa pb fn)
def execFeFeat (g : Fin 8) (gd : Guard) (slot : Fin 16) (a : FeSrc) := lift fun s => s.feStep g.val (.feat gd slot a)
def execFeTower (g : Fin 8) (gd : Guard) (a : FeSrc) (uq : Fin 4) := lift fun s => s.feStep g.val (.tower gd a uq)
def execFeTrig (g : Fin 8) (gd : Guard) (tvalid : Bool) (tslot : Fin 8) := lift fun s => s.feStep g.val (.trig gd tvalid tslot)
def execFeSkipz (g : Fin 8) (gd : Guard) (pc : Fin 8) (n : BitVec 8) := lift fun s => s.feStep g.val (.skipz gd pc n)
def execFeEnd (g : Fin 8) (gd : Guard) := lift fun s => s.feStep g.val (.endRun gd)

/-- FE_OVERRUN: the end of core cycle 31 without END (R59, R162). -/
def Hub.feOverrun (s : Hub) (g : Nat) : Hub :=
  match (s.eng g).run with
  | some r => if r.ended then s else s.feFault g 1
  | none => s

def execFeOverrun (g : Fin 8) := lift fun s => s.feOverrun g.val

/-! ### The tick (R161, R162, R178, R181) -/

/-- Modes in which programs run (R181). -/
def feModes : List Nat := [mPREPARE, mRUN, mPULSE, mHOLD, mTEST]

/-- The selection that applies to the crossing of frame `n` (R178). -/
def Engine.cfgAt (e : Engine) (n : Nat) : Nat := ((e.cfgs.find? (·.1 ≤ n)).map (·.2)).getD 0

/-- The run for the crossing seven frames back starts at cycle 0 (R161, R162, R178). -/
def Hub.feStart (s : Hub) (g : Nat) : Hub :=
  let n := s.frame - 7
  let e := s.eng g
  let cfg := e.cfgAt n
  let (b, c) := match s.frameRec n with | some r => (r.blank, r.cal) | none => (false, false)
  let entry1 := bitAt cfg 2 && (b || c)
  let pc := entryOf (s.memWord (feBase g + 0x404)) (if entry1 then 1 else bits cfg 1 0)
  let s := s.setEng g { e with run := some { n := n, pc := pc, entry1 := entry1 } }
  match s.readWords (8 + g) 0 [feBase g + 0x404] with
  | (true, s) => s.feFetch g
  | (false, s) => s.feFault g 2

/-- Whether an engine's first run is the one of this frame: its C has come, or it waits without one for the mode (R181, R182). -/
def Hub.feBegins (s : Hub) (g : Nat) : Bool :=
  s.feState g == 1 && (match (s.eng g).startAt with | some c => decide (c + 7 ≤ s.frame) | none => true)

/-- Frame-tick work of the engines, by the mode of the frame that begins: a run not ended by the last frame is an overrun; engines leave state 2 with the mode;
started engines begin, and every running engine begins its run. (Log entry 54: DEDUCED, safe; log entry 225: DESIGN CHOICE, unsafe) -/
def Hub.feTick (s : Hub) : Hub :=
  let s := s.each (List.range 8) Hub.feOverrun
  let s := s.each (List.range 8) fun s g => s.setEng g { s.eng g with run := none }
  if ¬ feModes.contains s.now.mode then
    s.each (List.range 8) fun s g =>
      if s.feState g = 1 ∨ s.feState g = 2 then (s.setFeState g 1).setEng g { s.eng g with startAt := none, stopAt := none } else s
  else if s.frame < 7 then s
  else
    let new := (List.range 8).filter s.feBegins
    let s := s.each new fun s g => (s.setFeState g 2).setEng g { s.eng g with startAt := none }
    let (c, t) := s.crossAt (s.frame - 7)
    let s := if new.isEmpty then s else s.emit 0x0602 [new.foldl (fun a g => a + 2 ^ g) 0, c, t]
    s.each (List.range 8) fun s g => if s.feState g = 2 then s.feStart g else s

/-! ### Starting, stopping and selecting (R181, R182, R178) -/

/-- A program is loaded: its static counts are known (R186). -/
def Hub.feLoaded (s : Hub) (g : Nat) : Bool := s.reg (FE_COUNT g) != 0

/-- The engine is running or start pending. -/
def Hub.feBusy (s : Hub) (g : Nat) : Bool := s.feState g = 1 || s.feState g = 2

/-- The frame of C for a start or a selection accepted now; none in IDLE (R182). -/
def Hub.feFirst (s : Hub) : Option Nat :=
  if s.modeIn [mPREPARE, mTEST] then some (s.frame + 1 - 7)
  else if s.modeIn [mRUN, mPULSE, mHOLD] then some (s.frame + s.toTurn)
  else none

/-- CROSSING and TURN of a frame, or the IDLE values. -/
def Hub.crossOr (s : Hub) (n : Option Nat) : List Byte :=
  match n with | some n => crossPayload (s.crossAt n).1 (s.crossAt n).2 | none => crossPayload 0xFFFF 0xFFFFFFFF

/-- Start the engines of a mask. (Log entry 53: DEDUCED, unsafe) -/
def Hub.feStartAll (s : Hub) (mask : Nat) (keep : Bool) : Hub :=
  s.eachBit 8 mask fun s g =>
    let e := s.eng g
    (s.setFeState g 1).setEng g { e with v := if keep then e.v else [], startAt := s.feFirst, stopAt := none }

/-- Frame of the last run of an engine stopped now (R182). (Log entry 245: DESIGN CHOICE, unsafe) -/
def Hub.feLast (s : Hub) : Option Nat :=
  if s.mode = mHOLD then some (s.frame + s.toTurn - 1) else if s.modeIn [mPREPARE, mTEST] then some (s.frame - 7) else none

/-- Stop one engine: at once when no run of it is to come, else after its last run. (Log entry 226: DESIGN CHOICE, unsafe) -/
def Hub.feStopOne (s : Hub) (g : Nat) : Hub :=
  let e := s.eng g
  let running : Bool := match e.run with | some r => !r.ended | none => false
  if s.feState g = 1 ∨ (s.feState g = 2 ∧ s.mode ≠ mHOLD ∧ ¬ running) then
    (s.setFeState g 0).setEng g { e with startAt := none, stopAt := none }
  else if s.feState g = 2 then s.setEng g { e with stopAt := s.feLast }
  else s

/-- Select entries of one engine from crossing 0 of the next turn (R178). -/
def Hub.feSelect (s : Hub) (g w : Nat) : Hub :=
  let e := s.eng g
  let f := s.frame + s.toTurn
  (s.setReg (FE_CFG g) w).setEng g { e with cfgs := (f, w) :: (e.cfgs.filter (·.1 < f)).take 3 }

/-- FE_STATUS. -/
def Hub.feStatus (s : Hub) : Nat :=
  let f : Nat → Nat := fun st => (List.range 8).foldl (fun a g => if s.feState g = st then a + 2 ^ g else a) 0
  f 3 * 2 ^ 16 + f 1 * 2 ^ 8 + f 2

/-! ### ENGINE commands (R187, R188) -/

def engineStartBody (p : List Byte) (s : Hub) : Reply × Hub :=
  let mask := pl p 0 1
  let fl := pl p 1 1
  let any := fun (f : Nat → Bool) => (List.range 8).any fun g => bitAt mask g && f g
  guarded [(p.length ≠ 4, stBAD_LEN), (mask = 0 ∨ fl > 1 ∨ ¬ plZero p 2 2, stBAD_ARG),
    (any fun g => !s.feLoaded g, stNO_RESOURCE), (any s.feBusy, stBUSY)] s fun s =>
  okay (s.crossOr s.feFirst) (s.feStartAll mask (fl == 1))

def engineStopBody (p : List Byte) (s : Hub) : Reply × Hub :=
  let mask := pl p 0 1
  guarded [(p.length ≠ 4, stBAD_LEN), (mask = 0 ∨ ¬ plZero p 1 3, stBAD_ARG), (s.modeIn [mRUN, mPULSE], stBAD_MODE)] s fun s =>
  okay (s.crossOr s.feLast) (s.eachBit 8 mask Hub.feStopOne)

def engineSelectBody (p : List Byte) (s : Hub) : Reply × Hub :=
  let mask := pl p 0 1
  let ne := pl p 1 1
  let me := pl p 2 1
  guarded [(p.length ≠ 4, stBAD_LEN), (mask = 0 ∨ ne = 1 ∨ ne > 3 ∨ me > 1 ∨ ¬ plZero p 3 1, stBAD_ARG)] s fun s =>
  okay (if s.mode = mIDLE then crossPayload 0xFFFF 0xFFFFFFFF else crossPayload 0 ((s.tt.turn + 1) % 2 ^ 32))
    (s.eachBit 8 mask fun s g => s.feSelect g (4 * me + ne))

def engineStatusBody (p : List Byte) (s : Hub) : Reply × Hub :=
  guarded [(p.length ≠ 0, stBAD_LEN)] s fun s =>
  okay (words (s.feStatus :: (List.range 8).flatMap fun g => [s.reg (FE_STATE g), s.reg (FE_COUNT g), s.reg (FE_TRIGS g), s.reg (FE_PROG_CRC g)])) s

def engineReadLanesBody (p : List Byte) (s : Hub) : Reply × Hub :=
  let g := pl p 0 1
  let first := pl p 1 1
  let count := pl p 2 1
  guarded [(p.length ≠ 4, stBAD_LEN), (g > 7 ∨ first > 31 ∨ count = 0 ∨ count > 16 ∨ first + count > 32 ∨ ¬ plZero p 3 1, stBAD_ARG),
    (s.feBusy g, stDENIED)] s fun s =>
  okay (words ((List.range count).flatMap fun i => (List.range 16).map fun j => ofS 32 ((s.eng g).vOf (first + i) j))) s

def execEngineStart (h : Hdr) (p : List Byte) := lift fun s => s.command 0x0602 h p (engineStartBody p)
def execEngineStop (h : Hdr) (p : List Byte) := lift fun s => s.command 0x0603 h p (engineStopBody p)
def execEngineSelect (h : Hdr) (p : List Byte) := lift fun s => s.command 0x0604 h p (engineSelectBody p)
def execEngineStatus (h : Hdr) (p : List Byte) := lift fun s => s.command 0x0605 h p (engineStatusBody p)
def execEngineReadLanes (h : Hdr) (p : List Byte) := lift fun s => s.command 0x0606 h p (engineReadLanesBody p)

/-- FE_CTRL_START: START bits start engines as ENGINE_START does, lane registers cleared (R186). -/
def Hub.feCtrlStart (s : Hub) (mask : Nat) : Hub :=
  if s.mode = mLOADING ∨ (List.range 8).any (fun g => bitAt mask g && (!s.feLoaded g || s.feBusy g)) then s
  else s.feStartAll mask false

def execFeCtrlStart (mask : BitVec 8) := lift fun s => s.feCtrlStart mask.toNat

/-- FE_CTRL_STOP: STOP bits stop engines as ENGINE_STOP does (R186). -/
def Hub.feCtrlStop (s : Hub) (mask : Nat) : Hub :=
  if s.modeIn [mLOADING, mRUN, mPULSE] then s else s.eachBit 8 mask Hub.feStopOne

def execFeCtrlStop (mask : BitVec 8) := lift fun s => s.feCtrlStop mask.toNat

/-- FE_FAULT_CROSSING_READ: the read latches FE_FAULT_TURN (R186). -/
def execFeFaultCrossingRead (g : Fin 8) := lift fun s => s.latchTurn (FE_FAULT_TURN g.val)

end Sys2Proof.Machine
end

