-- ==== Sys2Proof/Machine/Junction.lean ====
section
/-! DEFINITION. The tower sum, clustering, the TX6 payload, the Junction image, ENGINE_LOAD and the TRIG commands
(08_trigger_primitives.md, R503). -/

namespace Sys2Proof.Machine

/-! ### Settings in use (R190, R191) -/

/-- STATE of lane n (R276): 7 is ACTIVE and 8 ACQUIRE. -/
def Hub.laneState (s : Hub) (n : Nat) : Nat := s.fld (LN_STATUS n) 3 0

/-- JCT_CTRL and JCT_TMAP as now set. -/
def Hub.jctSnap (s : Hub) : List Nat := s.reg JCT_CTRL :: (List.range 64).map fun i => s.reg (JCT_TMAP i)

/-- The settings that a tower sum of the present frame uses. -/
def Hub.jctSet (s : Hub) : List Nat :=
  ((s.jct.sets.find? (·.1 ≤ s.frame)).map (·.2)).getD (4 :: (List.range 64).map (· * 0x01010101))

/-- The frame of the first tower sum under a setting made now (R191): offset 9 of crossing 0 of the next turn in HOLD. -/
def Hub.jctFirst (s : Hub) : Nat := if s.mode = mHOLD then s.frame + s.toTurn + 9 else s.frame + 1

/-- A write of JCT_CTRL or JCT_TMAP has been made. -/
def Hub.jctChanged (s : Hub) : Hub :=
  { s with jct := { s.jct with sets := ((s.jctFirst, s.jctSnap) :: s.jct.sets.filter (·.1 < s.jctFirst)).take 8 } }

/-- Modes in which R191 accepts a change. -/
def jctModes : List Nat := [mIDLE, mPREPARE, mHOLD, mTEST]

/-- A map entry that R190 does not reserve. -/
def mapOk (v : Nat) : Bool := decide (v < 64) || v == 255

/-- The map entry of a channel in a set of settings. -/
def mapOf (set : List Nat) (ch : Nat) : Nat := bits (set.getD (1 + ch / 4) 0) (8 * (ch % 4) + 7) (8 * (ch % 4))

/-! ### The tower sum (R192-R194) -/

/-- The tower word of R193. -/
def towerWord (energy hq uq : Nat) : Nat := energy * 16 + hq * 4 + uq

/-- ENERGY of a tower sum: scaled, rounded half away from zero and clamped to 16 bits; the flag says that it was clamped
at the top (R192, R194). -/
def towerEnergy (ts : Int) (shift : Nat) : Nat × Bool :=
  let v := rdiv ts (2 ^ shift : Nat)
  if v < 0 then (0, false) else if v > 65535 then (65535, true) else (v.toNat, false)

/-- The tower word of tower t from the outputs of the eight engines for the crossing. -/
def towerOf (set : List Nat) (outs : Nat → Option FeOut) (marked : Bool) (t : Nat) : Nat :=
  let chs := (List.range 256).filter fun n => mapOf set n == t
  if chs.isEmpty ∨ chs.any (fun n => (outs (n / 32)).isNone) then towerWord 0 3 0
  else
    let val := fun n => match outs (n / 32) with | some o => tget (fun _ => (0 : Int)) o.tower (n % 32) | none => 0
    let uqs := fun n => match outs (n / 32) with | some o => tget (fun _ => 0) o.uq (n % 32) | none => 0
    let (e, c) := towerEnergy (chs.foldl (fun a n => a + val n) 0) (bits (set.getD 0 0) 3 0)
    towerWord e (if marked then 2 else if c then 1 else 0) (chs.foldl (fun a n => a ||| uqs n) 0)

/-- What an engine has delivered for frame `n`. -/
def Hub.feOut (s : Hub) (g n : Nat) : Option FeOut := (s.eng g).outs.find? (·.n == n)

/-- The 64 tower words of the crossing of frame `n`. -/
def Hub.towersOf (s : Hub) (set : List Nat) (n : Nat) (marked : Bool) : List Nat :=
  if (List.range 8).all fun g => (s.feOut g n).isNone then List.replicate 64 (towerWord 0 3 0)
  else (List.range 64).map (towerOf set (fun g => s.feOut g n) marked)

/-! ### Clustering (R195-R197, R204) -/

/-- ENERGY and HQ of a tower word. -/
def wordEnergy (w : Nat) : Nat := w / 16
def wordHq (w : Nat) : Nat := bits w 3 2

/-- A grid: its number of columns and the tower word at a column and row. -/
structure Grid where
  cols : Nat
  word : Nat → Nat → Nat

/-- S(x, y). -/
def Grid.sum (g : Grid) (x y : Nat) : Nat :=
  wordEnergy (g.word x y) + wordEnergy (g.word (x + 1) y) + wordEnergy (g.word x (y + 1)) + wordEnergy (g.word (x + 1) (y + 1))

/-- Some tower of the window satisfies `p`. -/
def Grid.anyHq (g : Grid) (x y : Nat) (p : Nat → Bool) : Bool :=
  p (wordHq (g.word x y)) || p (wordHq (g.word (x + 1) y)) || p (wordHq (g.word x (y + 1))) || p (wordHq (g.word (x + 1) (y + 1)))

/-- The window exists. -/
def Grid.exists (g : Grid) (x y : Nat) : Bool := decide (x + 1 < g.cols) && decide (y < 7)

/-- The window is a seed (R195). -/
def Grid.seed (g : Grid) (seedMin : Nat) (guard : Bool) (x y : Nat) : Bool :=
  let v := g.sum x y
  let earlier : List (Nat × Nat) :=
    (if y = 0 then [] else (if x = 0 then [] else [(x - 1, y - 1)]) ++ [(x, y - 1), (x + 1, y - 1)]) ++ (if x = 0 then [] else [(x - 1, y)])
  let later : List (Nat × Nat) := [(x + 1, y)] ++ (if x = 0 then [] else [(x - 1, y + 1)]) ++ [(x, y + 1), (x + 1, y + 1)]
  decide (v ≥ seedMin) &&
    earlier.all (fun (a, b) => !g.exists a b || decide (v > g.sum a b)) &&
    later.all (fun (a, b) => !g.exists a b || decide (v ≥ g.sum a b)) &&
    !(guard && g.anyHq x y (· ≥ 2))

/-- The cluster word of a window (R196). -/
def Grid.cluster (g : Grid) (cshift x y : Nat) : Nat :=
  let e := max 1 (min 255 (rdiv (g.sum x y) (2 ^ cshift : Nat)).toNat)
  x * 4096 + y * 512 + b2n (g.anyHq x y (· ≠ 0)) * 256 + e

/-- The windows of columns `x0` to `x1` in scan order. -/
def windowsOf (x0 x1 : Nat) : List (Nat × Nat) :=
  (List.range 7).flatMap fun y => (List.range (x1 + 1 - x0)).map fun i => (x0 + i, y)

/-- The clusters of the owned windows, by descending S with ties in scan order (R197). -/
def Grid.clusters (g : Grid) (seedMin : Nat) (guard : Bool) (x0 x1 : Nat) : List (Nat × Nat) :=
  sortBy (fun (x, y) => 2 ^ 20 - g.sum x y) ((windowsOf x0 x1).filter fun (x, y) => g.seed seedMin guard x y)

/-- BHASH over the 21 boundary windows (R204). -/
def Grid.bhash (g : Grid) (seedMin : Nat) (guard : Bool) : Nat :=
  crc32c (words ((windowsOf 6 8).map fun (x, y) => g.sum x y + b2n (g.seed seedMin guard x y) * 2 ^ 31))

/-- SIDE of a joined hub. -/
def Hub.side (s : Hub) : Nat := b2n (s.bit PAIR_CTRL 1)

/-- The grid of a single hub. -/
def singleGrid (towers : List Nat) : Grid := { cols := 8, word := fun x y => towers.getD (8 * y + x) (towerWord 0 3 0) }

/-- The grid of a joined hub: its own towers, and the three partner columns (24 words, column by column), which read as
ENERGY 0 with HQ 3 when the block is missing (R203, R205). -/
def joinedGrid (side : Nat) (towers : List Nat) (block : Option (List Nat)) : Grid :=
  { cols := 16
    word := fun x y =>
      if x / 8 = side then towers.getD (8 * y + x % 8) (towerWord 0 3 0)
      else match block with
        | none => towerWord 0 3 0
        | some b =>
          let j := if side = 0 then x - 8 else x - 5
          if (side = 0 ∧ x ≤ 10) ∨ (side = 1 ∧ 5 ≤ x) then b.getD (8 * j + y) (towerWord 0 3 0) else towerWord 0 3 0 }

/-- The boundary block that this hub sends: its three columns nearest the boundary (R203, R333). -/
def boundaryBlock (side : Nat) (towers : List Nat) : List Nat :=
  (List.range 24).map fun i => towers.getD (8 * (i % 8) + (if side = 0 then 5 else 0) + i / 8) (towerWord 0 3 0)

/-! ### The engine's state (R199, R200) -/

/-- The Junction engine is frozen by the firewall (R15, R401). -/
def Hub.jctFrozen (s : Hub) : Bool := s.bit FW_STATUS 2

/-- FAULT_CAUSE and IMAGE_VALID. -/
def Hub.jctCause (s : Hub) : Nat := s.fld JCT_STATUS 11 8
def Hub.jctImage (s : Hub) : Bool := s.bit JCT_STATUS 5

/-- The engine runs in a frame of mode `m`. -/
def Hub.jctRunsIn (s : Hub) (m : Nat) : Bool :=
  s.jctImage && s.jctCause == 0 && !s.jctFrozen && feModes.contains m && decide (s.jct.resume ≤ s.frame)

/-- The engine runs. -/
def Hub.jctRuns (s : Hub) : Bool := s.jctRunsIn s.mode

/-- JCT_STATUS with STATE, JOINED and SIDE as they stand. -/
def Hub.jctStatus (s : Hub) : Nat :=
  let st := if s.jctCause ≠ 0 then 2 else if s.jctRuns then 1 else 0
  putBits (putBits (s.reg JCT_STATUS) 1 0 st) 7 6 (b2n s.joined + 2 * (if s.joined then s.side else 0))

/-- A fault of the engine (R200). -/
def Hub.jctFault (s : Hub) (cause : Nat) : Hub :=
  let s := s.setFld JCT_STATUS 11 8 cause
  let s := (s.setReg JCT_FAULT_CROSSING s.tt.crossing).setShadow JCT_FAULT_TURN s.tt.turn
  let s := s.logFault 4 2 (if cause = 2 then 11 else if cause = 4 then 13 else 0xFF) cause
  s.emit 0x0701 [cause, s.tt.crossing, s.tt.turn]

/-- The read of the parameters in program memory by an engine that runs: the firewall, SECDED, and the fault of an uncorrectable word
(R200, R390, R401). -/
def Hub.jctFetch (s : Hub) : Hub :=
  if ¬ s.jctRunsIn s.now.mode then s
  else match s.reach 2 0x38008000 12 0 with
    | (false, s) => s
    | (true, s) => match s.readWords 2 0 [0x38008000, 0x38008004, 0x38008008] with
      | (true, s) => s
      | (false, s) => s.jctFault 2

/-! ### Work of the tick (R192, R203-R208) -/

/-- The record of the crossing that the tick begins says whether the engine runs in it (R208). -/
def Hub.jctNote (s : Hub) : Hub :=
  match s.hist with
  | r :: t => { s with hist := { r with jct := s.jctRunsIn r.mode } :: t }
  | [] => s

/-- The tower sum of the crossing nine frames back, kept with the sources of its header. -/
def Hub.jctSum (s : Hub) : Hub :=
  if s.frame < 9 then s
  else
    let n := s.frame - 9
    match s.frameRec n with
    | none => s
    | some f =>
      let set := s.jctSet
      let runs := f.jct && s.jctRunsIn s.now.mode
      let r : JRec :=
        { n := n, crossing := f.crossing, turn := f.turn, hubId := bits (set.getD 0 0) 15 8,
          towers := s.towersOf set n (f.blank || f.cal), unsealed := f.unsealed, holdover := f.holdover, warn := f.warn,
          marked := f.blank || f.cal, degraded := f.mode == mPREPARE || f.mode == mHOLD || f.gap || !runs,
          zero := f.mode == mPREPARE || !runs }
      let s := { s with jct := { s.jct with recs := (r :: s.jct.recs).take 64 } }
      if s.joined ∧ ¬ s.jctFrozen then (s.sidPushBy 2 48 (.block r.crossing r.turn (words (boundaryBlock s.side r.towers)))).1 else s

/-- Replace the record of frame `n`. -/
def Hub.setJRec (s : Hub) (r : JRec) : Hub :=
  { s with jct := { s.jct with recs := s.jct.recs.map fun x => if x.n = r.n then r else x } }

/-- The clustering of one crossing, with the partner's block or without it (R195-R197, R204, R205). -/
def Hub.jctCluster (s : Hub) (r : JRec) (block : Option (List Nat)) : Hub :=
  let s := s.jctFetch
  let seedMin := s.reg JCT_PARAM0
  let guard := s.bit JCT_PARAM1 8
  let cs := s.fld JCT_PARAM1 3 0
  let g := if s.joined then joinedGrid s.side r.towers block else singleGrid r.towers
  let own := if s.joined then (if s.side = 0 then (0, 7) else (8, 14)) else (0, 6)
  let runs := s.jctRunsIn s.now.mode
  let found := if runs then g.clusters seedMin guard own.1 own.2 else []
  let missing := s.joined && block.isNone
  let hash := if s.joined then some (if missing || !runs then none else some (g.bhash seedMin guard)) else none
  let r' := { r with done := runs, found := found.length, slots := (found.take 8).map fun (x, y) => g.cluster cs x y,
                     degraded := r.degraded || missing, hash := hash }
  let s := s.setJRec r'
  let s := if missing then s.incSat JCT_PAIR_MISS 15 0 else s
  if s.joined ∧ ¬ s.jctFrozen then
    (s.sidPushBy 2 50 (.block r.crossing r.turn (match hash with | some (some h) => leBytes 4 h | _ => []))).1
  else s

/-- The place in S49 of the partner's block for a crossing, and its 24 tower words. -/
def Hub.pairBlock (s : Hub) (crossing : Nat) : Option (Nat × List Nat) :=
  (s.items 49).zipIdx.findSome? fun (it, i) => match it with
    | .block c _ bs => if c = crossing then some (i, (List.range 24).map fun k => pl bs (4 * k) 4) else none
    | _ => none

/-- Clustering of the crossing whose turn it is: ten frames back on a single hub; sixteen in joined operation, where a
block that is not there waits for BOUNDARY_BLOCK_MISSING. -/
def Hub.jctWork (s : Hub) : Hub :=
  let back := if s.joined then 16 else 10
  match s.jct.recs.find? fun r => r.n + back == s.frame && !r.done with
  | none => s
  | some r =>
    if ¬ s.joined then s.jctCluster r none
    else if s.jctFrozen then s
    else match s.pairBlock r.crossing with
      | some (i, b) => match s.readEntryBy 2 49 i 2 with
        | (true, s) => (s.jctCluster r (some b)).sidRemove 49 fun it => match it with | .block c _ _ => c == r.crossing | _ => false
        | (false, s) => s.jctCluster r none
      | none => s

/-- BOUNDARY_BLOCK_MISSING: the partner's block for the crossing sixteen frames back is not in S49 (R205). -/
def Hub.boundaryMissing (s : Hub) : Hub :=
  match s.jct.recs.find? fun r => r.n + 16 == s.frame && !r.done && r.hash.isNone with
  | some r => if s.joined ∧ (s.pairBlock r.crossing).isNone then s.jctCluster r none else s
  | none => s

def execBoundaryBlockMissing := lift Hub.boundaryMissing

/-- The header of R202. -/
def Hub.jctHeader (s : Hub) (r : JRec) (crossing turn : Nat) (degraded : Bool) (found : Nat) : Nat :=
  crossing * 2 ^ 48 + (turn % 2 ^ 16) * 2 ^ 32 + b2n degraded * 2 ^ 31 + b2n r.unsealed * 2 ^ 30 + b2n r.holdover * 2 ^ 29 +
    b2n r.warn * 2 ^ 28 + b2n s.joined * 2 ^ 27 + (if s.joined then s.side else 0) * 2 ^ 26 + b2n r.marked * 2 ^ 25 +
    b2n (decide (found > 8)) * 2 ^ 24 + min 15 found * 2 ^ 20 + s.tt.lat * 2 ^ 14 + r.hubId

/-- The 1472-bit payload of R201. -/
def trigPayload (header : Nat) (towers slots : List Nat) : Nat :=
  header * 2 ^ 1408 + ((List.range 64).foldl (fun a t => a * 2 ^ 20 + towers.getD t 0) 0) * 2 ^ 128 +
    (List.range 8).foldl (fun a k => a * 2 ^ 16 + slots.getD k 0) 0

/-- The payload that TX6 carries in the present frame (R206-R208, R56): of a frozen engine, which writes none, all towers and clusters zero
(R17). (Log entry 57: DEDUCED, unsafe; log entry 236: DESIGN CHOICE, unsafe) -/
def Hub.trigCarriage (s : Hub) : TrigOut × Bool × Bool :=
  let n := s.frame - s.tt.lat
  let (c, t) := s.crossAt n
  let rec' := s.jct.recs.find? (·.n == n)
  let r : JRec := rec'.getD { n := n, crossing := c, turn := t, hubId := s.fld JCT_CTRL 15 8, towers := [] }
  let filler := decide (n ≤ s.jct.lastSent) || rec'.isNone
  let zero := r.zero || filler || !r.done || s.jctFrozen
  let degraded := r.degraded || zero
  let found := if zero then 0 else r.found
  let h := s.jctHeader r r.crossing r.turn degraded found
  (⟨r.crossing, r.turn, trigPayload h (if zero then [] else r.towers) (if zero then [] else r.slots)⟩, degraded, decide (found > 8))

/-- An engine that runs writes the payload to S30, within its windows (R28, R401); a write that none allows is not performed. -/
def Hub.jctWrites (s : Hub) : Hub :=
  if s.jctRunsIn s.now.mode then (s.reach 2 (ringAddr 30 (s.fld (SD_TAIL 30) 15 0)) 16 1).2 else s

/-- TX6_CARRIAGE_SEND: exactly one carriage per frame in ACTIVE and ACQUIRE (R206), counted, and given to TRIG_CAPTURE. -/
def Hub.jctSend (s : Hub) : Hub :=
  let n := s.frame - s.tt.lat
  let last := max n s.jct.lastSent
  let s' := if s.laneState 6 = 7 ∨ s.laneState 6 = 8 then
      let s := s.jctWrites
      let (o, degraded, ovf) := s.trigCarriage
      let s := { s with tx6 := some o }.setBit JCT_STATUS 4 degraded
      let s := if degraded then s.incSat JCT_DEG_COUNT 31 0 else s
      let s := if ovf then s.incSat JCT_OVF_COUNT 31 0 else s
      s.complete (fun d => d.op == 0x0704) stOK (crossPayload o.crossing o.turn ++ beBytes 184 o.payload)
    else { s with tx6 := none }
  { s' with jct := { s'.jct with lastSent := last } }

/-- Frame-tick work of the Junction engine; the carriage leaves with the lanes. -/
def Hub.jctTick (s : Hub) : Hub := s.jctNote.jctSum.jctWork

/-! ### Images (R198, R199, R503, R187) -/

/-- The checks of R198; a status, or the count word. -/
def jctCheckImage (img : List (Nat × Nat)) : Except Nat Nat :=
  let w0 := imgWord img 0
  let seedMin := imgWord img 4
  let p := imgWord img 8
  if bits w0 15 0 ≠ 0x4A43 ∨ bits w0 23 16 ≠ 1 ∨ bits w0 31 24 ≠ 0 ∨ seedMin = 0 ∨ seedMin > 262140 ∨ bits p 31 9 ≠ 0 ∨
      bits p 7 4 ≠ 0 ∨ bits p 3 0 > 10 ∨ (List.range 4084).any (fun i => tget (fun _ => 0) img (12 + i) ≠ 0) then .error 3
  else .ok (40 + 56 * 256)

/-- Write a checked Junction image to the program memory; a fault ends, and the engine resumes at crossing 0 of the turn after the load, which
begins with frame `from0` (R199, R200). (Log entry 56: DEDUCED, unsafe) -/
def Hub.jctApply (s : Hub) (img : List (Nat × Nat)) (from0 : Nat) : Hub :=
  let faulted := s.jctCause ≠ 0
  let s := s.writeMem 0x38008000 (stagedBytes img 4096)
  let s := (s.setReg JCT_PARAM0 (imgWord img 4)).setReg JCT_PARAM1 (imgWord img 8)
  let s := (s.setBit JCT_STATUS 5 true).setFld JCT_STATUS 11 8 0
  let resume := if faulted then from0 else s.jct.resume
  { s with jct := { s.jct with image := none, resume := resume } }

/-- JUNCTION_IMAGE_APPLY: a kept image at crossing 0 of the next turn (R199), in a crossing whose mode R16 allows; one whose crossing 0 begins
RUN or PULSE is kept until R16 allows its write. The engine runs from this crossing. (Log entry 223: DESIGN CHOICE, unsafe) -/
def Hub.jctImageApply (s : Hub) : Hub :=
  match s.jct.image with
  | some (f, img) => if f ≤ s.frame ∧ s.tt.crossing = 0 ∧ jctModes.contains s.now.mode then (s.jctApply img s.frame).jctNote else s
  | none => s

def execJunctionImageApply := lift Hub.jctImageApply

/-- Take an accepted Junction image: at once in IDLE, else at crossing 0 of the next turn. -/
def Hub.jctLoad (s : Hub) (img : List (Nat × Nat)) : Hub :=
  if s.mode = mIDLE then s.jctApply img (s.frame + s.toTurn)
  else { s with jct := { s.jct with image := some (s.frame + s.toTurn, img) } }

/-- Write a checked feature-engine image to its program memory and show it in the FE registers (R503, R186). -/
def Hub.feLoad (s : Hub) (g : Nat) (img : List (Nat × Nat)) (counts : Nat) : Hub :=
  let bs := stagedBytes img 4096
  let s := s.writeMem (feBase g) bs
  ((s.setReg (FE_COUNT g) counts).setReg (FE_PROG_CRC g) (crc32c bs)).setFld (FE_STATE g) 19 16 (bits (imgWord img 0x400) 31 24)

/-- The staging image of an ENGINE number. -/
def Hub.stage (s : Hub) (e : Nat) : Staging := tget (fun _ => {}) s.staging e
def Hub.setStage (s : Hub) (e : Nat) (x : Staging) : Hub := { s with staging := tset (fun _ => {}) s.staging e x }

/-- Bytes put into a staging image. -/
def stagePuts (img : List (Nat × Nat)) (off : Nat) : List Byte → List (Nat × Nat)
  | [] => img
  | b :: bs => stagePuts (tset (fun _ => 0) img off b.toNat) (off + 1) bs

/-- The chunk with LAST: check the image and put it into use. (Log entry 243: DESIGN CHOICE, unsafe) -/
def Hub.loadLast (s : Hub) (e : Nat) (img : List (Nat × Nat)) : Reply × Hub :=
  match if e = 8 then jctCheckImage img else feCheckImage img with
  | .error st => fail st s
  | .ok counts =>
    let crc := crc32c (stagedBytes img 4096)
    guarded [(e < 8 ∧ s.feBusy e, stDENIED),
      (e < 8 ∧ s.modeIn [mRUN, mPULSE] ∧ (s.feState e ≠ 3 ∨ crc ≠ s.reg (FE_PROG_CRC e)), stBAD_MODE)] s fun s =>
    let s := s.setStage e {}
    okay (words [counts, crc]) (if e = 8 then s.jctLoad img else s.feLoad e img counts)

/-- ENGINE_LOAD: one chunk (R503). -/
def engineLoadBody (p : List Byte) (s : Hub) : Reply × Hub :=
  let e := pl p 0 1
  let fl := pl p 1 1
  let off := pl p 2 2
  let data := p.drop 4
  let st := s.stage e
  guarded [(p.length < 4 ∨ p.length % 4 ≠ 0 ∨ p.length > 1024, stBAD_LEN),
    (e = 8 ∧ s.modeIn [mRUN, mPULSE], stBAD_MODE), (e > 8, stBAD_ARG),
    (fl > 1 ∨ off % 4 ≠ 0 ∨ (off ≠ 0 ∧ off ≠ st.next) ∨ off + data.length > 4096, stBAD_ARG)] s fun s =>
  let img := stagePuts (if off = 0 then [] else st.bytes) off data
  if fl = 1 then s.loadLast e img
  else guarded [(e < 8 ∧ s.feBusy e, stDENIED), (e < 8 ∧ s.modeIn [mRUN, mPULSE] ∧ s.feState e ≠ 3, stBAD_MODE)] s fun s =>
    okay [] (s.setStage e { bytes := img, next := off + data.length })

def execEngineLoad (h : Hdr) (p : List Byte) := lift fun s => s.command 0x0601 h p (engineLoadBody p)

/-! ### TRIG commands (R210, R211) -/

/-- The first crossing under a change of R191. -/
def Hub.jctFirstCross (s : Hub) : List Byte :=
  if s.mode = mIDLE then crossPayload 0xFFFF 0xFFFFFFFF
  else let (c, t) := s.crossAt (s.jctFirst - 9); crossPayload c t

def trigSetMapBody (p : List Byte) (s : Hub) : Reply × Hub :=
  let first := pl p 0 2
  let count := pl p 2 2
  guarded [(p.length ≠ 4 + count, stBAD_LEN),
    (count = 0 ∨ count > 256 ∨ first + count > 256 ∨ (List.range count).any (fun i => !mapOk (pl p (4 + i) 1)), stBAD_ARG),
    (¬ s.modeIn jctModes, stBAD_MODE)] s fun s =>
  okay s.jctFirstCross (s.each (List.range count) fun s i =>
    let ch := first + i
    s.setFld (JCT_TMAP (ch / 4)) (8 * (ch % 4) + 7) (8 * (ch % 4)) (pl p (4 + i) 1)).jctChanged

def trigSetScaleBody (p : List Byte) (s : Hub) : Reply × Hub :=
  let sh := pl p 0 1
  let id := pl p 1 1
  guarded [(p.length ≠ 4, stBAD_LEN), (sh > 15 ∨ ¬ plZero p 2 2, stBAD_ARG), (¬ s.modeIn jctModes, stBAD_MODE)] s fun s =>
  okay s.jctFirstCross (s.setReg JCT_CTRL (id * 256 + sh)).jctChanged

def trigGetStatusBody (p : List Byte) (s : Hub) : Reply × Hub :=
  guarded [(p.length ≠ 0, stBAD_LEN)] s fun s =>
  okay (words [s.jctStatus, s.reg JCT_PARAM0, s.reg JCT_PARAM1, s.reg JCT_DEG_COUNT, s.reg JCT_OVF_COUNT, s.reg JCT_PAIR_MISS]) s

def trigCaptureBody (p : List Byte) (s : Hub) : Reply × Hub :=
  guarded [(p.length ≠ 0, stBAD_LEN), (s.mode = mIDLE, stBAD_MODE)] s fun s => (.later 0, s)

def execTrigSetMap (h : Hdr) (p : List Byte) := lift fun s => s.commandChan 0x0701 h p trigSetMapBody
def execTrigSetScale (h : Hdr) (p : List Byte) := lift fun s => s.command 0x0702 h p (trigSetScaleBody p)
def execTrigGetStatus (h : Hdr) (p : List Byte) := lift fun s => s.command 0x0703 h p (trigGetStatusBody p)
def execTrigCapture (h : Hdr) (p : List Byte) := lift fun s => s.command 0x0704 h p (trigCaptureBody p)

/-- JCT_FAULT_CROSSING_READ: the read latches JCT_FAULT_TURN (R209). -/
def execJctFaultCrossingRead := lift fun s => s.latchTurn JCT_FAULT_TURN

end Sys2Proof.Machine
end

