-- ==== Sys2Proof/Machine/Records.lean ====
section
/-! DEFINITION. Segmented records: triggers, the segment pool, captures, refusal markers and the REC commands
(09_segmented_records.md). -/

namespace Sys2Proof.Machine

/-! ### Groups and their settings (R212, R220, R221, R233) -/

/-- A group's record engine. -/
def Hub.recg (s : Hub) (g : Nat) : RecGroup := tget (fun _ => {}) s.recs.groups g
def Hub.setRecg (s : Hub) (g : Nat) (x : RecGroup) : Hub :=
  { s with recs := { s.recs with groups := tset (fun _ => {}) s.recs.groups g x } }

/-- REC_GCFG, REC_HOLDOFF, REC_PERIOD and REC_LED as they apply to a trigger of frame `n`. -/
def Hub.recCfg (s : Hub) (g n : Nat) : List Nat :=
  (((s.recg g).cfgs.find? (·.1 ≤ n)).map (·.2)).getD [regReset (REC_GCFG g), regReset (REC_HOLDOFF g), regReset (REC_PERIOD g), regReset (REC_LED g)]

/-- A write of the group's settings applies from the next frame tick. -/
def Hub.recChanged (s : Hub) (g : Nat) : Hub :=
  let x := s.recg g
  let f := s.frame + 1
  s.setRecg g { x with cfgs := ((f, [s.reg (REC_GCFG g), s.reg (REC_HOLDOFF g), s.reg (REC_PERIOD g), s.reg (REC_LED g)]) ::
    x.cfgs.filter (·.1 < f)).take 16 }

/-- EN, FEAT_SEL, XR_EN, HALF_EN, PRE, LEN and SOURCES of a REC_GCFG word. -/
def gEn (w : Nat) : Bool := bitAt w 31
def gFeat (w : Nat) : Nat := bits w 27 26
def gXr (w : Nat) : Bool := bitAt w 25
def gHalf (w : Nat) : Bool := bitAt w 24
def gPre (w : Nat) : Nat := bits w 21 16
def gLen (w : Nat) : Nat := 16 * bits w 12 8
def gSources (w : Nat) : Nat := bits w 4 0

/-- A segment's size and the number of segments (R220). -/
def segBytes (size : Nat) : Nat := 4096 * 2 ^ size
def segCount (size : Nat) : Nat := 4096 / 2 ^ size

/-- SEG_SIZE, RESERVE and FREE. -/
def Hub.segSize (s : Hub) : Nat := s.fld REC_CTRL 17 16
def Hub.reserve (s : Hub) : Nat := s.fld REC_CTRL 11 0
def Hub.freeSegs (s : Hub) : Nat := segCount s.segSize - s.recs.segs.length

/-- The worst-case size of a group's record fits a segment (R221). -/
def recFits (w size : Nat) : Bool :=
  let len := gLen w
  let nb := if gFeat w = 0 then 0 else if gFeat w = 1 then 1 else len / 4 + 1
  decide (64 + 68 * len + (if gHalf w then 34 * len else 0) + (if gXr w then 17 * len else 0) + nb * 1044 ≤ segBytes size)

/-- Take a segment with `k` items to be sent; the lowest free one. (Log entry 61: DESIGN CHOICE, unsafe) -/
def Hub.takeSeg (s : Hub) (k : Nat) : Nat × Hub :=
  let seg := ((List.range (s.recs.segs.length + 1)).find? fun i => !s.recs.segs.any (·.1 == i)).getD 0
  let s := { s with recs := { s.recs with segs := (seg, k) :: s.recs.segs } }
  (seg, s.setReg REC_FREE s.freeSegs)

/-- First byte of a segment. -/
def Hub.segAddr (s : Hub) (seg : Nat) : Nat := 0x20000000 + segBytes s.segSize * seg

/-- One item of a segment has left; with its last item the segment or marker page becomes free (R228). -/
def Hub.segSent (s : Hub) (seg : Nat) : Hub :=
  let left := ((s.recs.segs.find? (·.1 == seg)).map (·.2)).getD 1 - 1
  if left = 0 then
    let s := { s with recs := { s.recs with segs := s.recs.segs.filter (·.1 != seg) } }
    let s := s.each (List.range 8) fun s g =>
      let x := s.recg g
      if x.page.any (·.1 == seg) then s.setRecg g { x with page := none } else s
    s.setReg REC_FREE s.freeSegs
  else { s with recs := { s.recs with segs := s.recs.segs.map fun (x : Nat × Nat) => if x.1 = seg then (seg, left) else x } }

/-- REC_STATUS (R232). -/
def Hub.recStatus (s : Hub) : Nat :=
  let f : (RecGroup → Nat → Bool) → Nat := fun p => (List.range 8).foldl (fun a g => if p (s.recg g) g then a + 2 ^ g else a) 0
  f (fun x _ => x.held.isSome) * 2 ^ 16 + f (fun x _ => x.cap.isSome) * 2 ^ 8 +
    f (fun x g => s.bit (REC_GCFG g) 31 && x.cap.isNone && x.rearmAt.isNone)

/-- The group's next sequence number; the count advances (R227). -/
def Hub.recSeq (s : Hub) (g : Nat) : Nat × Hub := (s.reg (REC_SEQ g), s.incWrap (REC_SEQ g) 31 0)

/-! ### Refusal markers (R225, R226) -/

/-- The flags of R223 that the crossings of frames `a` to `b` give: UNSEALED, HOLDOVER and SUPPLY_WARN. -/
def Hub.spanFlags (s : Hub) (a b : Nat) : Nat :=
  (List.range (b + 1 - a)).foldl (fun w i => match s.frameRec (a + i) with
    | some r => w ||| (b2n r.unsealed + 2 * b2n r.holdover + 4 * b2n r.warn)
    | none => w) 0

/-- The common first 16 bytes of a record or marker (R222). -/
def itemHead (kind g hub seq len flags : Nat) : List Byte :=
  [BitVec.ofNat 8 kind, BitVec.ofNat 8 g, BitVec.ofNat 8 hub, 1] ++ leBytes 4 seq ++ leBytes 4 len ++ leBytes 4 flags

/-- The 32 bytes of a refusal marker (R226). -/
def markerBytes (g hub seq : Nat) (m : HeldMark) (first : Bool) : List Byte :=
  itemHead 2 g hub seq 32 (m.flags + 2048 * b2n first) ++ leBytes 2 m.crossing ++ [BitVec.ofNat 8 m.sources, 0] ++
    leBytes 4 m.turn ++ leBytes 4 (m.time / 256 % 2 ^ 32) ++ leBytes 2 (satU 16 m.count) ++ leBytes 2 (satU 16 (m.last - m.n))

/-- Markers that a page holds. -/
def Hub.pageSlots (s : Hub) : Nat := (segBytes s.segSize - 64) / 32

/-- Write a marker into the group's page, taking a page where there is none with room; the item enters S8+g. (Log entry 229: DESIGN CHOICE, unsafe) -/
def Hub.writeMarker (s : Hub) (g : Nat) (m : HeldMark) : Hub :=
  let x := s.recg g
  let (page, used, s) := match x.page with
    | some (p, u) => if u < s.pageSlots then (p, u, s) else let (p, s) := s.takeSeg 0; (p, 0, s)
    | none => let (p, s) := s.takeSeg 0; (p, 0, s)
  let (seq, s) := s.recSeq g
  let a := s.segAddr page + 64 + 32 * used
  let s := s.writeMem a (markerBytes g (s.fld JCT_CTRL 15 8) seq m x.first)
  let s := { s with recs := { s.recs with segs := s.recs.segs.map fun (y : Nat × Nat) => if y.1 = page then (page, y.2 + 1) else y } }
  let s := s.setRecg g { s.recg g with page := some (page, used + 1), first := false, skipped := 0 }
  s.sidQueue (8 + g) (.inMem a 32 seq (m.crossing * 65536 + g * 256))

/-- A page of the group has room, or a segment is free for one. -/
def Hub.markerRoom (s : Hub) (g : Nat) : Bool :=
  (match (s.recg g).page with | some (_, u) => decide (u < s.pageSlots) | none => false) || decide (s.freeSegs > 0)

/-- Refuse a trigger of frame `n` (R225). -/
def Hub.recRefuse (s : Hub) (g : Nat) (r : FrameRec) (sources : Nat) : Hub :=
  let s := s.incSat (REC_REFUSED g) 31 0
  let x := s.recg g
  let s := match x.refusing with
    | none => (s.emit 0x0801 [g, r.crossing, r.turn]).setRecg g { x with refusing := some 1 }
    | some k => s.setRecg g { x with refusing := some (k + 1) }
  let m : HeldMark := { n := r.n, last := r.n, crossing := r.crossing, turn := r.turn, sources := sources,
                        flags := s.spanFlags r.n r.n, time := r.stamp, count := 1 }
  let x := s.recg g
  match x.held with
  | some h => 
    let h' : HeldMark := { h with
      last := r.n, sources := h.sources ||| sources, flags := h.flags ||| m.flags, count := satU 16 (h.count + 1) }
    s.setRecg g { x with held := some h' }
  | none => if s.markerRoom g then s.writeMarker g m else s.setRecg g { x with held := some m }

/-- REC_HELD_MARKER_WRITE: a segment is free, and the held marker is written with its sequence number (R225). (Log entry 63: DEDUCED, safe) -/
def Hub.heldWrite (s : Hub) (g : Nat) : Hub :=
  let x := s.recg g
  match x.held with
  | some m => if s.freeSegs > 0 then (s.setRecg g { x with held := none }).writeMarker g m else s
  | none => s

def execRecHeldMarkerWrite (g : Fin 8) := lift fun s => s.heldWrite g.val

/-! ### Re-arm and hold-off (R217) -/

/-- REC_REARM: 8 frames after the capture closed the group is armed again, and its hold-off begins. -/
def Hub.recRearm (s : Hub) (g : Nat) : Hub :=
  let x := s.recg g
  match x.rearmAt with
  | some f => if f ≤ s.frame then s.setRecg g { x with rearmAt := none, rearmed := some f, evals := 0 } else s
  | none => s

def execRecRearm (g : Fin 8) := lift fun s => s.recRearm g.val

/-- A trigger of frame `n` that is evaluated now lies within the group's hold-off, by the settings that apply to it (R217, R233). -/
def Hub.inHoldoff (s : Hub) (g n : Nat) : Bool :=
  let x := s.recg g
  let h := (s.recCfg g n).getD 1 0
  x.rearmed.any fun f => if bitAt h 8 then decide (x.evals < bits h 7 0) else decide (s.frame < f + bits h 31 16)

/-- No setting of HO_FRAMES or HO_COUNT, present or to come, makes a trigger fall within the hold-off (R217, R233). -/
def Hub.holdoffPast (s : Hub) (g : Nat) : Bool :=
  let x := s.recg g
  x.rearmed.all fun f => decide (f + 65535 ≤ s.frame) && decide (255 ≤ x.evals)

/-- REC_HOLDOFF_END: the re-arm tick is forgotten once it can hold no trigger off. Until then a REC_CONFIG that lengthens the hold-off still
counts it from there (R233). (Log entry 218: DEDUCED, unsafe) -/
def Hub.holdoffEnd (s : Hub) (g : Nat) : Hub :=
  if s.holdoffPast g then s.setRecg g { s.recg g with rearmed := none } else s

def execRecHoldoffEnd (g : Fin 8) := lift fun s => s.holdoffEnd g.val

/-! ### Evaluation (R212-R215, R219) -/

/-- The sources of group g that fired in the crossing of frame `r.n`, as enabled by the configuration (R212, R214). -/
def Hub.recSources (s : Hub) (g : Nat) (r : FrameRec) : Nat :=
  let cfg := s.recCfg g r.n
  let per := cfg.getD 2 0
  let led := cfg.getD 3 0
  let feature := !r.blank && (match s.feOut g r.n with | some o => o.trigLanes != 0 | none => false)
  let command := s.recs.cmds.any fun (n, m) => n == r.n && bitAt m g
  let periodic := bits per 15 0 ≠ 0 ∧ r.crossing % bits per 15 0 = bits per 31 16
  let pulsed := (r.pulse && bitAt led r.pulseSet) || (r.prove && bitAt led 8)
  (b2n feature + 2 * b2n r.tin + 4 * b2n command + 8 * b2n periodic + 16 * b2n pulsed) &&& gSources (cfg.getD 0 0)

/-- v of R219 and INTERP. -/
def Hub.recValue (s : Hub) (g n sources : Nat) : Int × Bool :=
  match s.feOut g n with
  | some o => match o.trigTime with
    | some v => if bitAt sources 0 ∧ v ≠ feNone then (v, true) else (0, false)
    | none => (0, false)
  | none => (0, false)

/-- T_trig of R219 in 1/256 ns: T_F is the frame period measured between N_T and the evaluation. (Log entry 60: DEDUCED, unsafe) -/
def trigTime (stamp phase : Nat) (v : Int) (span frames : Nat) : Nat :=
  let d := 1024 * frames
  (rdiv ((stamp : Int) * d + ((phase : Int) + v) * span) d % (2 ^ 72 : Int)).toNat

/-- Add to the outcome kept for a frame: bits (evaluated, recorded, refused, skipped) of group g. -/
def Hub.recOutcome (s : Hub) (n g recd refd skip : Nat) : Hub :=
  let (a, b, c, d) := ((s.recs.results.find? (·.1 == n)).map (·.2)).getD (0, 0, 0, 0)
  let x := (n, (a ||| 2 ^ g, b ||| recd * 2 ^ g, c ||| refd * 2 ^ g, d ||| skip * 2 ^ g))
  { s with recs := { s.recs with results := (x :: s.recs.results.filter (·.1 != n)).take 32 } }

/-- Answer the REC_TRIGGER commands whose named groups have all been evaluated for frame `n`. -/
def Hub.recAnswer (s : Hub) (n : Nat) : Hub :=
  match s.recs.results.find? (·.1 == n) with
  | none => s
  | some (_, (e, r, f, k)) =>
    let ready : Def → Bool := fun d => d.op == 0x0804 && d.arg == n && (pl d.payload 0 1 &&& e) == pl d.payload 0 1
    let (ds, rest) := s.mbx.deferred.partition ready
    let (c, t) := s.crossAt n
    ds.foldl (fun s d =>
      let m := pl d.payload 0 1
      s.respond d.hdr d.op stOK (crossPayload c t ++ [BitVec.ofNat 8 (r &&& m), BitVec.ofNat 8 (f &&& m), BitVec.ofNat 8 (k &&& m)]))
      { s with mbx := { s.mbx with deferred := rest } }

/-- Queue the descriptor of the block of frame `n` for the open capture, which then has it; a full siding drops it (R174, R388). -/
def Hub.queueBlock (s : Hub) (g n : Nat) (o : FeOut) : Hub :=
  let (c, t) := s.crossAt n
  let (s, ok) := s.sidPush (16 + g) (.block c t o.block)
  let x := s.recg g
  if ok then s.setRecg g { x with cap := x.cap.map fun (k : Capture) => { k with blocks := n :: k.blocks } } else s

/-- Open a capture (R215, R216). (Log entry 64: DEDUCED, unsafe) -/
def Hub.recOpen (s : Hub) (g : Nat) (r : FrameRec) (sources : Nat) : Hub :=
  let (seg, s) := s.takeSeg 1
  let (seq, s) := s.recSeq g
  let x := s.recg g
  let w := (s.recCfg g r.n).getD 0 0
  let (v, interp) := s.recValue g r.n sources
  let now := (s.frameRec s.frame).getD r
  let first := (4 * r.n - gPre w) / 4
  let cover := if gFeat w = 1 then [r.n] else if gFeat w = 2 then (List.range (s.frame - 9 + 1 - first)).map (first + ·) else []
  let cap : Capture := { n := r.n, sources := sources, seq := seq, seg := seg, cfg := w, nfeat := r.nfeat.getD g 0,
                         skipped := x.skipped, value := v, interp := interp,
                         time := trigTime r.stamp r.phase v (now.raw - r.raw) (s.frame - r.n), first := x.first }
  let s := s.incWrap (REC_COUNT g) 31 0
  let s := (s.setReg (REC_LAST_CROSSING g) r.crossing).setShadow (REC_LAST_TURN g) r.turn
  let s := match x.refusing with | some k => s.emit 0x0802 [g, k, seq] | none => s
  let s := s.setRecg g { x with cap := some cap, skipped := 0, first := false, refusing := none }
  s.each cover fun s n => match s.feOut g n with | some o => s.queueBlock g n o | none => s

/-- Modes in which a trigger is evaluated (R214). -/
def recModes : List Nat := [mRUN, mPULSE, mTEST]

/-- REC_TRIGGER_EVALUATE: the merged trigger of the crossing nine frames back (R212, R215). (Log entry 62: DEDUCED, unsafe) -/
def Hub.recEvaluate (s : Hub) (g : Nat) : Hub :=
  if s.frame < 9 ∨ (s.recg g).evaluated = some s.frame then s
  else
    let n := s.frame - 9
    let s := (s.recRearm g).holdoffEnd g
    let s := s.setRecg g { s.recg g with evaluated := some s.frame }
    match s.frameRec n with
    | none => s
    | some r =>
      let src := s.recSources g r
      if src = 0 ∨ ¬ recModes.contains r.mode then (s.recOutcome n g 0 0 0).recAnswer n
      else
        let x := s.recg g
        let held := s.inHoldoff g n
        let s := s.setRecg g { x with evals := x.evals + 1 }
        if ¬ gEn ((s.recCfg g n).getD 0 0) ∨ x.cap.isSome ∨ x.rearmAt.isSome ∨ held then
          let s := s.incSat (REC_SKIPPED g) 31 0
          let s := s.setRecg g { s.recg g with skipped := satU 32 (x.skipped + 1) }
          (s.recOutcome n g 0 0 1).recAnswer n
        else
          let s := s.heldWrite g
          if s.freeSegs ≤ s.reserve then ((s.recRefuse g r src).recOutcome n g 0 1 0).recAnswer n
          else ((s.recOpen g r src).recOutcome n g 1 0 0).recAnswer n

def execRecTriggerEvaluate (g : Fin 8) := lift fun s => s.recEvaluate g.val

/-! ### Closing a capture (R216-R218, R222-R224) -/

/-- The marker of an HB1 output at an even position, as a record carries it (R147, R230). -/
def Hub.halfMark (s : Hub) (ch p : Nat) : Nat := s.wordMark ch (p / 4) [p % 4 / 2 * 2, p % 4 / 2 * 2 + 1]

/-- A half-rate word at an even position: HB1's output, its markers and its saturation (R218, R147). -/
def Hub.halfWord (s : Hub) (ch p : Nat) : Nat × Bool :=
  let m := s.halfMark ch p
  if m ≠ 7 then (markerWord m, false)
  else let (v, f) := s.hb1 ch p; let (w, g) := encodeWord v; (w, f || g)

/-- A full-rate word, its SEAM bit and its saturation (R218, R230). -/
def Hub.fullWord (s : Hub) (ch p : Nat) : Nat × Bool × Bool :=
  let x := s.sampAt ch (p / 4) (p % 4)
  let m := s.wordMark ch (p / 4) [p % 4]
  if m ≠ 7 then (markerWord m, false, false)
  else let (w, f) := encodeFull x.lin x.rng; (w, x.seam, f || x.sat)

/-- A column of bits, one per channel, as a word. -/
def bitColumn (p : Nat → Bool) : Nat := (List.range 32).foldl (fun a c => if p c then a + 2 ^ c else a) 0

/-- The block of a crossing that FEg did not deliver (R218). -/
def missingBlock (crossing turn nfeat : Nat) : List Byte :=
  leBytes 2 crossing ++ [BitVec.ofNat 8 nfeat, 0] ++ leBytes 4 turn ++ List.replicate 12 0 ++
    (List.replicate (32 * nfeat) (leBytes 4 0x80000000)).flatten

/-- The channels of a group. -/
def groupChannels (g : Nat) : List Nat := (List.range 32).map (32 * g + ·)

/-- The position of a capture's first sample, and the even and the crossing-rate positions of its span (R216, R218). -/
def Capture.p0 (c : Capture) : Nat := 4 * c.n - gPre c.cfg
def Capture.halfPos (c : Capture) : List Nat := ((List.range (gLen c.cfg)).map (c.p0 + ·)).filter fun p => p % 2 == 0
def Capture.xrPos (c : Capture) : List Nat := c.halfPos.filter fun p => p % 4 == 0

/-- The frames of its first and last crossing. -/
def Capture.firstFrame (c : Capture) : Nat := c.p0 / 4
def Capture.lastFrame (c : Capture) : Nat := (c.p0 + gLen c.cfg - 1) / 4

/-- The words of a capture by channel: at full rate, at half rate and at the crossing rate (R218). -/
def Hub.recFull (s : Hub) (g : Nat) (c : Capture) : List (List (Nat × Bool × Bool)) :=
  (groupChannels g).map fun ch => (List.range (gLen c.cfg)).map fun i => s.fullWord ch (c.p0 + i)
def Hub.recHalf (s : Hub) (g : Nat) (c : Capture) : List (List (Nat × Bool)) :=
  if gHalf c.cfg then (groupChannels g).map fun ch => c.halfPos.map fun p => s.halfWord ch p else []
def Hub.recXr (s : Hub) (g : Nat) (c : Capture) : List (List (Nat × Bool)) :=
  if gXr c.cfg then (groupChannels g).map fun ch => c.xrPos.map fun p => s.streamWord ch (p / 4) 0 else []

/-- The SEAM words of full-rate samples `full`, and the settling words of the reduced ones (R218, R149). -/
def seamWords (c : Capture) (full : List (List (Nat × Bool × Bool))) : List Nat :=
  (List.range (gLen c.cfg)).map fun i => bitColumn fun k => ((full.getD k []).getD i (0, false, false)).2.1
def Hub.settleHalf (s : Hub) (g : Nat) (c : Capture) : List Nat :=
  if gHalf c.cfg then c.halfPos.map fun p => bitColumn fun k =>
    s.settlingAt (32 * g + k) p (hb1Delay (cfgHb1 (s.epochAt g (p / 4)).cfg)) (s.halfMark (32 * g + k) p) else []
def Hub.settleXr (s : Hub) (g : Nat) (c : Capture) : List Nat :=
  if gXr c.cfg then c.xrPos.map fun p => bitColumn fun k =>
    s.settlingAt (32 * g + k) p (chainDelay (s.epochAt g (p / 4)).cfg) (s.streamMark (32 * g + k) (p / 4) 0) else []

/-- The crossings whose feature blocks a record holds, the block of one as FEg delivered it (none: empty), and whether it is whole. -/
def Capture.featFrames (c : Capture) : List Nat :=
  if gFeat c.cfg = 1 then [c.n] else if gFeat c.cfg = 2 then (List.range (c.lastFrame + 1 - c.firstFrame)).map (c.firstFrame + ·) else []
def Hub.featBlock (s : Hub) (g : Nat) (c : Capture) (n : Nat) : List Byte :=
  if c.blocks.contains n then (match s.feOut g n with | some o => o.block | none => []) else []
def Hub.featWhole (s : Hub) (g : Nat) (c : Capture) (n : Nat) : Bool := (s.featBlock g c n).length == 20 + 128 * c.nfeat

/-- The flags of a record's header (R222). (Log entry 231: DESIGN CHOICE, unsafe) -/
def Hub.recFlags (s : Hub) (g : Nat) (c : Capture) : Nat :=
  let full := s.recFull g c
  let reduced := s.recHalf g c ++ s.recXr g c
  let marked := full.any (·.any fun x => isMarker x.1) || reduced.any (·.any fun x => isMarker x.1)
  let sat := full.any (·.any fun x => x.2.2) || reduced.any (·.any (·.2))
  let test := (s.frameRec c.n).any fun r => r.mode == mTEST
  s.spanFlags c.firstFrame c.lastFrame + 8 * b2n marked + 16 * b2n sat + 32 * b2n ((seamWords c full).any (· ≠ 0)) +
    64 * b2n ((s.settleHalf g c ++ s.settleXr g c).any (· ≠ 0)) + 128 * b2n c.interp +
    256 * b2n (c.featFrames.any fun n => !s.featWhole g c n) + 512 * b2n (gXr c.cfg && cfgRate (s.epochAt g c.n).cfg == 1) + 1024 * b2n test +
    2048 * b2n c.first

/-- The sections of a record after its header (R223, R224): full rate with SEAM words, half rate, crossing rate, feature blocks. -/
def Hub.recFullBytes (s : Hub) (g : Nat) (c : Capture) : List Byte :=
  words (seamWords c (s.recFull g c)) ++ (s.recFull g c).flatMap fun ws => ws.flatMap fun x => leBytes 2 x.1
def Hub.recHalfBytes (s : Hub) (g : Nat) (c : Capture) : List Byte :=
  ((s.recHalf g c).flatMap fun ws => ws.flatMap fun x => leBytes 2 x.1) ++ words (s.settleHalf g c)
def Hub.recXrBytes (s : Hub) (g : Nat) (c : Capture) : List Byte :=
  ((s.recXr g c).flatMap fun ws => ws.flatMap fun x => leBytes 2 x.1) ++ words (s.settleXr g c)
def Hub.recFeatBytes (s : Hub) (g : Nat) (c : Capture) : List Byte :=
  c.featFrames.flatMap fun n => if s.featWhole g c n then s.featBlock g c n else missingBlock (s.crossAt n).1 (s.crossAt n).2 c.nfeat

/-- The header of a record of `total` bytes whose reduced and feature sections lie at these offsets (R222). -/
def Hub.recHeader (s : Hub) (g : Nat) (c : Capture) (total ofsHalf ofsXr ofsFeat : Nat) : List Byte :=
  let at_ := s.crossAt c.n
  itemHead 1 g (s.fld JCT_CTRL 15 8) c.seq total (s.recFlags g c) ++ leBytes 2 at_.1 ++ [BitVec.ofNat 8 c.sources, BitVec.ofNat 8 (gPre c.cfg)] ++
    leBytes 4 at_.2 ++ leBytes 4 (c.time / 256 % 2 ^ 32) ++ [BitVec.ofNat 8 c.time, BitVec.ofNat 8 (if gFeat c.cfg = 0 then 0 else c.nfeat)] ++
    leBytes 2 (gLen c.cfg) ++ leBytes 4 (ofS 32 c.value) ++ leBytes 2 (match s.frameRec c.n with | some r => r.phase | none => 0) ++
    [BitVec.ofNat 8 c.featFrames.length, BitVec.ofNat 8 (b2n (gHalf c.cfg) + 2 * b2n (gXr c.cfg) + 4 * gFeat c.cfg)] ++
    leBytes 4 c.skipped ++ leBytes 2 (if gHalf c.cfg then ofsHalf else 0) ++ leBytes 2 (if gXr c.cfg then ofsXr else 0) ++
    leBytes 2 (if c.featFrames.isEmpty then 0 else ofsFeat) ++ List.replicate 14 0

/-- The bytes of a completed record, padded to whole code words (R222-R224). -/
def Hub.recordBytes (s : Hub) (g : Nat) (c : Capture) : List Byte :=
  let half := s.recHalfBytes g c
  let xr := s.recXrBytes g c
  let feat := s.recFeatBytes g c
  let ofsHalf := 0x40 + 4 * gLen c.cfg + 64 * gLen c.cfg
  let ofsXr := ofsHalf + half.length
  let ofsFeat := ofsXr + xr.length
  let size := ofsFeat + feat.length
  let total := (size + 7) / 8 * 8
  s.recHeader g c total ofsHalf ofsXr ofsFeat ++ s.recFullBytes g c ++ half ++ xr ++ feat ++ List.replicate (total - size) 0

/-- REC_CAPTURE_CLOSE: at N_last + 14 the record is complete in its segment and enters S8+g; the group re-arms 8 frames
later (R217). -/
def Hub.recClose (s : Hub) (g : Nat) : Hub :=
  let x := s.recg g
  match x.cap with
  | none => s
  | some c =>
    if s.frame < c.lastFrame + 14 then s
    else
      let bs := s.recordBytes g c
      let a := s.segAddr c.seg
      let s := s.writeMem a bs
      let s := s.setRecg g { x with cap := none, rearmAt := some (s.frame + 8) }
      s.sidQueue (8 + g) (.inMem a bs.length c.seq ((s.crossAt c.n).1 * 65536 + g * 256))

def execRecCaptureClose (g : Fin 8) := lift fun s => s.recClose g.val

/-! ### The tick -/

/-- The Dispatcher runs: the firewall has not frozen it (R17, R401). -/
def Hub.dispatcherRuns (s : Hub) : Bool := !s.bit FW_STATUS 1

/-- The Dispatcher takes the next block descriptor of group g; of one that it cannot read the block counts as not delivered (R389). -/
def Hub.takeDescriptor (s : Hub) (g : Nat) : Hub :=
  if ¬ s.dispatcherRuns ∨ s.count (16 + g) = 0 then s
  else match s.readEntryBy 1 (16 + g) 0 1, (s.items (16 + g)).head? with
    | (true, s), _ => s.sidPop (16 + g)
    | (false, s), some (.block c t _) =>
      if ¬ s.dispatcherRuns then s else
      let keep := fun n => s.crossAt n != (c, t)
      let x := s.recg g
      s.setRecg g { x with cap := x.cap.map fun (k : Capture) => { k with blocks := k.blocks.filter keep } }
    | (false, s), _ => s

/-- Frame-tick work: TRIG_IN is sampled (R213); the Dispatcher takes the block descriptors, and a block delivered now that an
open capture covers is queued. (Log entry 59: DEDUCED, safe) -/
def Hub.recTick (s : Hub) (pin : Bool) : Hub :=
  let seen := pin != s.bit REC_CTRL 20
  let s := { s with recs := { s.recs with tin1 := seen, tin2 := s.recs.tin1, cmds := s.recs.cmds.filter fun x => decide (s.frame ≤ x.1 + 16) } }
  let s := { s with hist := match s.hist with | r :: t => { r with tin := s.recs.tin1 && !s.recs.tin2 } :: t | [] => [] }
  s.each (List.range 8) fun s g =>
    let s := s.each (List.range 64) fun s _ => s.takeDescriptor g
    match (s.recg g).cap with
    | none => s
    | some c =>
      let n := s.frame - 9
      match s.feOut g n with
      | none => s
      | some o =>
        if gFeat c.cfg = 2 ∧ c.n < n ∧ n ≤ c.lastFrame ∧ ¬ c.blocks.contains n then s.queueBlock g n o else s

/-! ### REC commands (R233, R234) -/

/-- A pool of this size and reserve is within R220. -/
def poolOk (size reserve : Nat) : Bool := decide (size ≤ 3) && decide (1 ≤ reserve) && decide (reserve < segCount size)

/-- Some armed group would not fit the segment size. -/
def Hub.poolUnfit (s : Hub) (size : Nat) : Bool :=
  (List.range 8).any fun g => s.bit (REC_GCFG g) 31 && !recFits (s.reg (REC_GCFG g)) size

/-- Set the pool; every segment is free. -/
def Hub.setPool (s : Hub) (size reserve pol : Nat) : Hub :=
  let s := s.setReg REC_CTRL (pol * 2 ^ 20 + size * 2 ^ 16 + reserve)
  s.setReg REC_FREE s.freeSegs

def recSetPoolBody (p : List Byte) (s : Hub) : Reply × Hub :=
  let size := pl p 0 1
  let res := pl p 2 2
  let pol := pl p 4 1
  guarded [(p.length ≠ 8, stBAD_LEN), (¬ poolOk size res ∨ pol > 1 ∨ ¬ plZero p 1 1 ∨ ¬ plZero p 5 3, stBAD_ARG),
    (s.mode ≠ mIDLE, stBAD_MODE), (¬ s.recs.segs.isEmpty, stBUSY), (s.poolUnfit size, stNO_RESOURCE)] s fun s =>
  okay [] (s.setPool size res pol)

/-- CROSSING and TURN of the next frame tick, or the IDLE values. -/
def Hub.recFirst (s : Hub) : List Byte := s.firstCross

def recConfigBody (p : List Byte) (s : Hub) : Reply × Hub :=
  let mask := pl p 0 1
  let w := gcfgOf p
  let any := fun (f : Nat → Bool) => (List.range 8).any fun g => bitAt mask g && f g
  guarded [(p.length ≠ 20, stBAD_LEN),
    (mask = 0 ∨ pl p 1 1 > 31 ∨ pl p 2 1 > 32 ∨ pl p 3 1 = 0 ∨ pl p 3 1 > 16 ∨ pl p 4 1 > 1 ∨ pl p 5 1 > 1 ∨ pl p 6 1 > 2 ∨
      pl p 10 1 > 1 ∨ pl p 12 2 = 0 ∨ pl p 17 1 > 1 ∨ ¬ plZero p 7 1 ∨ ¬ plZero p 18 2, stBAD_ARG),
    (¬ recFits w s.segSize, stNO_RESOURCE), (any fun g => (s.recg g).cap.isSome, stBUSY)] s fun s =>
  okay s.recFirst (s.eachBit 8 mask fun s g =>
    let s := s.setReg (REC_GCFG g) (putBits w 31 31 (s.fld (REC_GCFG g) 31 31))
    let s := s.setReg (REC_HOLDOFF g) (pl p 8 2 * 65536 + pl p 10 1 * 256 + pl p 11 1)
    let s := s.setReg (REC_PERIOD g) (pl p 14 2 * 65536 + pl p 12 2)
    (s.setReg (REC_LED g) (pl p 17 1 * 256 + pl p 16 1)).recChanged g)
where
  /-- The REC_GCFG word of a REC_CONFIG payload, EN apart. -/
  gcfgOf (p : List Byte) : Nat :=
    pl p 6 1 * 2 ^ 26 + pl p 5 1 * 2 ^ 25 + pl p 4 1 * 2 ^ 24 + pl p 2 1 * 2 ^ 16 + pl p 3 1 * 2 ^ 8 + pl p 1 1

/-- (Log entry 230: DESIGN CHOICE, unsafe) -/
def recArmBody (p : List Byte) (s : Hub) : Reply × Hub :=
  let mask := pl p 0 1
  let en := pl p 1 1
  guarded [(p.length ≠ 4, stBAD_LEN), (mask = 0 ∨ en > 1 ∨ ¬ plZero p 2 2, stBAD_ARG)] s fun s =>
  okay s.recFirst (s.eachBit 8 mask fun s g => (s.setBit (REC_GCFG g) 31 (en == 1)).recChanged g)

def recTriggerBody (p : List Byte) (s : Hub) : Reply × Hub :=
  let mask := pl p 0 1
  guarded [(p.length ≠ 4, stBAD_LEN), (mask = 0 ∨ ¬ plZero p 1 3, stBAD_ARG), (¬ s.modeIn recModes, stBAD_MODE),
    ((List.range 8).any (fun g => bitAt mask g && !s.bit (REC_GCFG g) 2), stDENIED)] s fun s =>
  (.later (s.frame + 1), { s with recs := { s.recs with cmds := s.recs.cmds ++ [(s.frame + 1, mask)] } })

def recGetStatusBody (p : List Byte) (s : Hub) : Reply × Hub :=
  guarded [(p.length ≠ 0, stBAD_LEN)] s fun s =>
  okay (words ([s.reg REC_CTRL, s.reg REC_FREE, s.recStatus] ++ (List.range 8).flatMap fun g =>
    [s.reg (REC_SEQ g), s.reg (REC_COUNT g), s.reg (REC_REFUSED g), s.reg (REC_SKIPPED g), s.reg (REC_LAST_CROSSING g),
     s.shadowTurn (REC_LAST_TURN g)])) s

def execRecSetPool (h : Hdr) (p : List Byte) := lift fun s => s.command 0x0801 h p (recSetPoolBody p)
def execRecConfig (h : Hdr) (p : List Byte) := lift fun s => s.command 0x0802 h p (recConfigBody p)
def execRecArm (h : Hdr) (p : List Byte) := lift fun s => s.command 0x0803 h p (recArmBody p)
def execRecTrigger (h : Hdr) (p : List Byte) := lift fun s => s.command 0x0804 h p (recTriggerBody p)
def execRecGetStatus (h : Hdr) (p : List Byte) := lift fun s => s.command 0x0805 h p (recGetStatusBody p)

/-- REC_LAST_CROSSING_READ: the read latches REC_LAST_TURN (R232). -/
def execRecLastCrossingRead (g : Fin 8) := lift fun s => s.latchTurn (REC_LAST_TURN g.val)

end Sys2Proof.Machine
end

