-- ==== Sys2Proof/Machine/Stream.lean ====
section
/-! DEFINITION. The codec of each group: output samples, the closing and self-check of ingots, and the STREAM commands
(10_casting_codec.md). Commit and the marshal are in Marshal.lean. -/

namespace Sys2Proof.Machine

/-- A group's codec. -/
def Hub.codec (s : Hub) (g : Nat) : Codec := tget (fun _ => {}) s.codecs g
def Hub.setCodec (s : Hub) (g : Nat) (x : Codec) : Hub := { s with codecs := tset (fun _ => {}) s.codecs g x }

/-- NBR[0-31] of a group as now set. -/
def Hub.nbrSet (s : Hub) (g : Nat) : List Nat := (List.range 32).map fun c => s.fld (STR_NBR g (c / 4)) (8 * (c % 4) + 4) (8 * (c % 4))

/-! ### Output samples and closures (R235-R239) -/

/-- The crossing of frame `n` is the last before a change of value 3: the codec stops, HOLD is left, or the mode leaves RUN,
PULSE and HOLD (R236). -/
def Hub.modeCloses (s : Hub) (n : Nat) : Bool :=
  match s.frameRec n, s.frameRec (n + 1) with
  | some a, some b =>
    let inside := fun m => m == mRUN || m == mPULSE || m == mHOLD
    a.coded && (!b.coded || (a.mode == mHOLD && b.mode != mHOLD) || (inside a.mode && !inside b.mode))
  | _, _ => false

/-- The codec did not run in the crossing before frame `n`, or the mode entered RUN, PULSE or HOLD at it (R239). -/
def Hub.codecEnters (s : Hub) (n : Nat) : Bool :=
  n = 0 || (match s.frameRec n, s.frameRec (n - 1) with
    | some a, some b =>
      let inside := fun m => m == mRUN || m == mPULSE || m == mHOLD
      !b.coded || (inside a.mode && !inside b.mode)
    | _, _ => true)

/-- A full-rate sample of the channel in the crossing was clamped (R242). -/
def Hub.fullSat (s : Hub) (ch n : Nat) : Bool := (List.range 4).any fun k => (s.fullWord ch (4 * n + k)).2.2

/-- The output sample (n, j) of a group, with nothing decided about its ingot. -/
def Hub.outSamp (s : Hub) (g n j : Nat) : OutSamp :=
  let ws := (List.range 32).map fun c => s.streamWord (32 * g + c) n j
  { n := n, j := j, words := ws.map (·.1), took := s.frame,
    sat := bitColumn fun c => (ws.getD c (0, false)).2 || s.fullSat (32 * g + c) n }

/-- Decide a STREAM_FLUSH for group g. -/
def Hub.decideFlush (s : Hub) (g n hon skip : Nat) : Hub :=
  { s with flushes := s.flushes.map fun f =>
      if f.n = n ∧ bitAt f.mask g ∧ ¬ bitAt f.decided g then
        { f with
          decided := f.decided ||| 2 ^ g, honoured := f.honoured ||| hon * 2 ^ g, skipped := f.skipped ||| skip * 2 ^ g }
      else f }

/-- The frame of C of the STREAM_FLUSH pending for group g, if there is one. -/
def Hub.flushFor (s : Hub) (g : Nat) : Option Nat :=
  (s.flushes.find? fun f => bitAt f.mask g && !bitAt f.decided g).map (·.n)

/-- The settings of the ingot that opens with the sample of frame `n`. (Log entry 66: DEDUCED, unsafe) -/
def Hub.openIngot (s : Hub) (g n : Nat) : IngotOpen :=
  let x := s.codec g
  { pred := s.fld (STR_GCFG g) 1 0, allow := s.fld (STR_GCFG g) 15 8, nbr := s.nbrSet g,
    cold := x.coldNext || s.codecEnters n, nbrNew := x.nbrNew, first := x.first }

/-- Crossing C of a configuration change follows frame `n` (R156): the change has taken effect, or is to take effect at the tick that
begins frame C + 4. -/
def Hub.clearsAfter (s : Hub) (g n : Nat) : Bool := s.nextClear g n == some (n + 1) || (s.flt g).cfgAt.any fun x => x.2 == n + 5

/-- Staging areas that a group's ingots occupy: the closed ones that are not committed, and the open one (R252). -/
def Codec.areas (x : Codec) : Nat := x.shuts.length + (x.inbox.filter (·.closes)).length + (if x.count = 0 then 0 else 1)

/-- Take one output sample into the codec: open an ingot where none is open, and decide closure (R236, R237). -/
def Hub.takeSample (s : Hub) (g n j : Nat) : Hub :=
  let o := s.outSamp g n j
  let s := if (s.codec g).count = 0 then
      let i := s.openIngot g n
      s.setCodec g { s.codec g with
        inbox := (s.codec g).inbox ++ [{ o with opens := some i }], count := 1, allow := i.allow, coldNext := false, nbrNew := false, first := false }
    else s.setCodec g { s.codec g with inbox := (s.codec g).inbox ++ [o], count := (s.codec g).count + 1 }
  let lastWord := j = 1 ∨ cfgRate (s.epochAt g n).cfg = 0
  let natural := (s.codec g).count = 64
  let hard : Bool := decide lastWord && (decide (s.modeCloses n) || s.clearsAfter g n)
  let marked : Bool := match s.frameRec n with | some r => bitAt r.flush g | none => false
  let point : Bool := decide lastWord && marked
  let asked : Bool := decide (lastWord ∧ s.flushFor g = some n)
  let turn := (s.crossAt n).2
  let used := if (s.codec g).turn = turn then (s.codec g).flushes else 0
  let soft := (point ∨ asked) ∧ ¬ natural ∧ ¬ hard
  let honour := soft ∧ used < (s.codec g).allow
  let closes : Bool := natural ∨ hard ∨ honour
  let mark : List OutSamp → List OutSamp := fun xs =>
    xs.dropLast ++ (xs.getLast?.map fun y => { y with closes := closes, flushed := closes && !natural }).toList
  let x := s.codec g
  let s := s.setCodec g { x with
    inbox := mark x.inbox, count := if closes then 0 else x.count, coldNext := x.coldNext || hard,
    turn := turn, flushes := if honour then used + 1 else used }
  let s := if honour then s.incWrap (STR_SIZE g) 31 16 else if soft then s.incSat (STR_CNT g) 15 0 else s
  let s := if asked then s.decideFlush g n (b2n closes) (b2n (soft && !honour)) else s
  if hard then match s.flushFor g with
    | some m => if n < m then s.decideFlush g m 0 0 else s
    | none => s
  else s

/-- Answer the STREAM_FLUSH commands that are decided for every group named. -/
def Hub.answerFlushes (s : Hub) : Hub :=
  let (done, rest) := s.flushes.partition fun f => f.decided &&& f.mask == f.mask
  done.foldl (fun s f =>
    let (c, t) := s.crossAt f.n
    s.complete (fun d => d.op == 0x0903 && d.arg == f.n * 256 + f.mask) stOK
      (crossPayload c t ++ [BitVec.ofNat 8 f.honoured, BitVec.ofNat 8 f.skipped])) { s with flushes := rest }

/-- Frame-tick work: the words of coded crossings whose tick it is enter the codec. A flush waiting for a crossing that
the codec never takes is decided without either bit. -/
def Hub.strTick (s : Hub) : Hub :=
  let s := s.each (List.range 8) fun s g =>
    s.each (s.codecTakes g) fun s (n, j) =>
      match s.frameRec n with
      | some r => if r.coded then s.takeSample g n j else s
      | none => s
  let s := s.each (List.range 8) fun s g =>
    match s.flushFor g with
    | some n =>
      let gone : Bool := match s.frameRec n with | some r => !r.coded | none => true
      if n + 14 < s.frame ∨ (n < s.frame ∧ gone) then s.decideFlush g n 0 0 else s
    | none => s
  s.answerFlushes

/-! ### Closing and coding (R240-R252) -/

/-- A history as the start of a coded ingot; a COLD ingot starts afresh. -/
def startOf (cold : Bool) (h : ChanHist) : ChanSt := if cold then { words := [], before := none } else { words := h.words, before := h.before }

/-- The history after a channel has taken its words; the last 4096 are kept. -/
def histAfter (c : ChanSt) : ChanHist :=
  let e0 := c.back 1
  { words := c.words.take 4096, before := if c.words.isEmpty then none else some (e0, c.back 2) }

/-- The column of a channel in a list of samples. -/
def columnOf (xs : List OutSamp) (c : Nat) : List Nat := xs.map fun x => x.words.getD c 0

/-- The raw body of R251. -/
def rawBody (xs : List OutSamp) : List Byte :=
  (List.range 32).flatMap fun c => (columnOf xs c).flatMap (leBytes 2)

/-- The samples up to and including the first that closes its ingot. -/
def firstIngot : List OutSamp → Option (List OutSamp × List OutSamp)
  | [] => none
  | x :: t => if x.closes then some ([x], t) else (firstIngot t).map fun (a, b) => (x :: a, b)

/-- Settings of an ingot whose first sample carries none. -/
def openDefault : IngotOpen := { pred := 1, allow := 2, nbr := [], cold := true, nbrNew := false, first := false }

/-- INGOT_CLOSE: the samples up to the closing one form the group's next ingot, coded and raw side by side (R236, R238,
R239, R251, R252, R256). -/
def Hub.ingotClose (s : Hub) (g : Nat) : Hub :=
  let x := s.codec g
  match firstIngot x.inbox with
  | none => s
  | some (xs, rest) =>
    let o := ((xs.head?.bind (·.opens))).getD openDefault
    let cold := o.cold || x.gapCold
    let starts := x.hist.map (startOf cold)
    let cols := (List.range 32).map (columnOf xs)
    let body := packBody (codeAll (fun c t => Config.tokenPick s.free c t) o.pred o.nbr cold cols [] starts 0)
    let raw := decide (body.length ≥ 64 * xs.length)
    let every := s.fld STR_CTRL 23 16
    let due := every ≠ 0 ∧ x.every + 1 ≥ every
    let sh : Shut := { seq := s.reg (STR_SEQ g), samples := xs, cold := cold, opened := o, flushed := (xs.getLast?.map (·.flushed)).getD false,
                       closedAt := (xs.getLast?.map (·.took)).getD s.frame, starts := if cold then List.replicate 32 {} else x.hist, coded := body, raw := raw,
                       check := due || x.asked, asked := x.asked }
    let s := { s with free := s.free + 1 }.incWrap (STR_SEQ g) 31 0
    s.setCodec g { x with
      inbox := rest, shuts := x.shuts ++ [sh], gapCold := false, asked := false, met := x.met || x.asked, every := if due then 0 else x.every + 1,
      hist := (List.range 32).map fun c => histAfter ((cols.getD c []).foldl ChanSt.put (starts.getD c { words := [], before := none })) }

def execIngotClose (g : Fin 8) := lift fun s => s.ingotClose g.val

/-- FLAGS of R241 but RAW and DEGRADED. -/
def Hub.ingotFlags (s : Hub) (sh : Shut) : Nat :=
  let n0 := (sh.samples.head?.map (·.n)).getD 0
  let n1 := (sh.samples.getLast?.map (·.n)).getD 0
  let f := s.spanFlags n0 n1
  let any := fun (p : FrameRec → Bool) => (List.range (n1 + 1 - n0)).any fun i => (s.frameRec (n0 + i)).any p
  2 * b2n sh.cold + 4 * b2n sh.flushed + 8 * b2n (sh.samples.any fun x => x.words.any (· == markerWord 0)) +
    16 * b2n (sh.samples.any fun x => x.sat != 0) + 32 * bits f 0 0 + 64 * bits f 1 1 + 128 * b2n (any (·.gap)) +
    256 * bits f 2 2 + 512 * b2n (any fun r => r.mode == mTEST) + 1024 * b2n sh.opened.nbrNew + 2048 * b2n sh.opened.first

/-- Header bytes 0x00-0x1B of an ingot (R240). -/
def Hub.ingotHead (s : Hub) (g : Nat) (sh : Shut) (flags size : Nat) : List Byte :=
  let x0 := sh.samples.head?
  let n0 := (x0.map (·.n)).getD 0
  let cfg := (s.epochAt g n0).cfg
  let (c, t) := s.crossAt n0
  let stamp := match s.frameRec n0 with | some r => r.stamp | none => 0
  [1, BitVec.ofNat 8 g, BitVec.ofNat 8 (s.fld JCT_CTRL 15 8), 1] ++ leBytes 4 sh.seq ++ leBytes 2 c ++
    [BitVec.ofNat 8 sh.samples.length, BitVec.ofNat 8 (cfgRate cfg + 2 * sh.opened.pred + 8 * cfgHb1 cfg + 32 * cfgHb2 cfg)] ++
    leBytes 4 t ++ leBytes 4 (stamp / 256 % 2 ^ 32) ++ leBytes 2 flags ++ leBytes 2 size ++
    leBytes 4 (sh.samples.foldl (fun a x => a ||| x.sat) 0)

/-- A whole ingot, CRC included (R240). -/
def Hub.ingotBytes (s : Hub) (g : Nat) (sh : Shut) (degraded : Bool) : List Byte :=
  let body := if sh.raw then rawBody sh.samples else sh.coded
  let fl := s.ingotFlags sh
  let flags := (if degraded then fl ||| 128 else fl) + b2n sh.raw
  let h := s.ingotHead g sh flags body.length
  h ++ leBytes 4 (crc32c (h ++ body)) ++ body

/-! ### Self-checks (R255, R256) -/

/-- Invert bits of bytes, bit `8 i + j` being bit j of byte i. -/
def flipBytes (bs : List Byte) (ps : List Nat) : List Byte :=
  ps.foldl (fun bs p => bs.set (p / 8) ((bs.getD (p / 8) 0) ^^^ BitVec.ofNat 8 (2 ^ (p % 8)))) bs

/-- What the decoder reports of a staged ingot, in which the hardware has inverted these bits of the body: 0, an error of R255,
or 6 when a word differs from the source. -/
def Hub.checkIngot (s : Hub) (g : Nat) (sh : Shut) (damage : List Nat) : Nat :=
  let bs := s.ingotBytes g sh false
  match decodeIngot sh.opened.nbr (sh.starts.map (startOf sh.cold)) (bs.take 32) (flipBytes (bs.drop 32) damage) with
  | .error e => e
  | .ok cols => if cols == (List.range 32).map (columnOf sh.samples) then 0 else errMismatch

/-- Replace the first closed ingot of a group. -/
def Hub.setShut (s : Hub) (g : Nat) (sh : Shut) : Hub :=
  let x := s.codec g
  s.setCodec g { x with shuts := sh :: x.shuts.drop 1 }

/-- The first closed ingot of a group waits for its self-check: the tick at which its last word came. -/
def Hub.checkWaits (s : Hub) (g : Nat) : Option Nat := ((s.codec g).shuts.head?.filter (·.check)).map (·.closedAt)

/-- The group whose self-check runs: one runs at a time, that of the ingot that closed first, of the lowest group on a tie (R256).
(Log entry 198: DESIGN CHOICE, unsafe) -/
def Hub.checkNow (s : Hub) : Option Nat :=
  ((List.range 8).filterMap fun g => (s.checkWaits g).map fun f => (f, g)).foldl (fun (best : Option (Nat × Nat)) x =>
    match best with | some b => if x.1 < b.1 then some x else some b | none => some x) none |>.map (·.2)

/-- INGOT_SELFCHECK: the group's first closed ingot is decoded before commit and before its 20th tick; on any error it is committed raw
(R256). `damage` are the bits of its coded body that the staging store returns inverted. (Log entry 69: DEDUCED, safe) -/
def Hub.selfcheck (s : Hub) (g : Nat) (damage : List Nat) : Hub :=
  match (s.codec g).shuts with
  | sh :: _ =>
    if s.checkNow ≠ some g ∨ sh.closedAt + 20 ≤ s.frame then s
    else
      let e := s.checkIngot g sh damage
      let s := s.setShut g { sh with check := false, asked := false, raw := sh.raw || e != 0 }
      let s := s.incWrap STR_LOOP 31 16
      let s := if e = 0 then s else
        let s := ((s.incSat STR_LOOP 15 8).setFld STR_LOOP 7 5 g).setFld STR_LOOP 3 0 e
        (s.setReg STR_LOOP_SEQ sh.seq).emit 0x0901 [g, sh.seq, e]
      if sh.asked then s.complete (fun d => d.op == 0x0904 && d.arg == g + 16) stOK (leBytes 4 sh.seq ++ [BitVec.ofNat 8 e, BitVec.ofNat 8 (b2n (e != 0))])
      else s
  | [] => s

def execIngotSelfcheck (g : Fin 8) (damage : List Nat) := lift fun s => s.selfcheck g.val damage

/-- SELFCHECK_ABANDON: the check cannot complete by the 20th tick; the ingot is committed as coded (R256). A requested check
then waits for the group's next ingot. (Log entry 70: DEDUCED, unsafe) -/
def Hub.selfcheckAbandon (s : Hub) (g : Nat) : Hub :=
  match (s.codec g).shuts with
  | sh :: _ =>
    if sh.check ∧ (sh.closedAt + 20 ≤ s.frame + 1 ∨ 4 ≤ (s.codec g).areas) then
      let s := (s.setShut g { sh with check := false, asked := false }).incSat STR_LOOP_ABANDON 15 0
      if sh.asked then s.setCodec g { s.codec g with asked := true } else s
    else s
  | [] => s

def execSelfcheckAbandon (g : Fin 8) := lift fun s => s.selfcheckAbandon g.val

/-! ### Status and STREAM commands (R258-R260) -/

/-- STR_STATUS; COLD_NEXT reads its reset value until a group's first ingot opens. (Log entry 197: DEDUCED, unsafe) -/
def Hub.strStatus (s : Hub) : Nat :=
  let f : (Codec → Bool) → Nat := fun p => (List.range 8).foldl (fun a g => if p (s.codec g) then a + 2 ^ g else a) 0
  f (fun x => (x.coldNext && !x.first) || x.gapCold) * 2 ^ 16 + (match s.checkNow with | some g => 2 ^ g | none => 0) * 2 ^ 8 +
    f (fun x => x.count != 0)

/-- SEQ of the ingot that follows the open one; 0xFFFF_FFFF with no open ingot. -/
def Hub.seqAfterOpen (s : Hub) (g : Nat) : Nat :=
  let x := s.codec g
  if x.count = 0 then 0xFFFFFFFF else (s.reg (STR_SEQ g) + (x.inbox.filter (·.closes)).length + 1) % 2 ^ 32

/-- A change of FLUSH_ALLOW of the masked groups is admitted, or raises no demand (R254). -/
def Hub.allowAdmitted (s : Hub) (mask allow : Nat) : Bool :=
  !(List.range 8).any (fun g => bitAt mask g && decide (s.allowSet g < allow)) ||
    admitted s.turnLen s.streamLanes s.rateSet (fun g => if bitAt mask g then allow else s.allowSet g)

def streamConfigBody (p : List Byte) (s : Hub) : Reply × Hub :=
  let mask := pl p 0 1
  let pred := pl p 1 1
  let allow := pl p 2 1
  guarded [(p.length ≠ 4, stBAD_LEN), (mask = 0 ∨ pred > 3 ∨ ¬ plZero p 3 1, stBAD_ARG), (s.modeIn [mRUN, mPULSE], stBAD_MODE),
    (¬ s.allowAdmitted mask allow, stNOT_ADMITTED)] s fun s =>
  okay (words ((List.range 8).map fun g => if bitAt mask g then s.seqAfterOpen g else 0xFFFFFFFF))
    (s.eachBit 8 mask fun s g => s.setReg (STR_GCFG g) (allow * 256 + pred))

/-- Set a group's neighbour map; a change makes the next ingot COLD with NBR_NEW (R245, R258). -/
def Hub.setNbr (s : Hub) (g : Nat) (ns : List Nat) : Hub :=
  let old := s.nbrSet g
  let s := s.each (List.range 32) fun s c => s.setFld (STR_NBR g (c / 4)) (8 * (c % 4) + 4) (8 * (c % 4)) (ns.getD c 0)
  if s.nbrSet g = old then s else s.setCodec g { s.codec g with coldNext := true, nbrNew := true }

def streamSetNbrBody (p : List Byte) (s : Hub) : Reply × Hub :=
  let g := pl p 0 1
  let ns := (List.range 32).map fun i => pl p (4 + i) 1
  guarded [(p.length ≠ 36, stBAD_LEN), (g > 7 ∨ ns.any (· > 31) ∨ ¬ plZero p 1 3, stBAD_ARG), (s.modeIn [mRUN, mPULSE], stBAD_MODE)] s fun s =>
  okay (leBytes 4 (s.seqAfterOpen g)) (s.setNbr g ns)

/-- Accept a flush of the groups of a mask: C is the crossing of the next frame, and COLD makes their next ingots COLD
(R236, R239). (Log entry 67: DEDUCED, unsafe) -/
def Hub.acceptFlush (s : Hub) (mask : Nat) (cold : Bool) : Hub :=
  let s := { s with flushes := s.flushes ++ [{ n := s.frame + 1, mask := mask }] }
  if cold then s.eachBit 8 mask fun s g => s.setCodec g { s.codec g with coldNext := true } else s

/-- A flush of a named group is pending. -/
def Hub.flushBusy (s : Hub) (mask : Nat) : Bool := (List.range 8).any fun g => bitAt mask g && (s.flushFor g).isSome

def streamFlushBody (p : List Byte) (s : Hub) : Reply × Hub :=
  let mask := pl p 0 1
  let fl := pl p 1 1
  guarded [(p.length ≠ 4, stBAD_LEN), (mask = 0 ∨ fl > 1 ∨ ¬ plZero p 2 2, stBAD_ARG), (¬ s.codecRuns, stBAD_MODE),
    (s.flushBusy mask, stBUSY)] s fun s =>
  (.later ((s.frame + 1) * 256 + mask), s.acceptFlush mask (fl == 1))

def streamSelfcheckBody (p : List Byte) (s : Hub) : Reply × Hub :=
  let g := pl p 0 1
  guarded [(p.length ≠ 4, stBAD_LEN), (g > 7 ∨ ¬ plZero p 1 3, stBAD_ARG), (¬ s.codecRuns, stBAD_MODE),
    ((s.codec g).asked ∨ (s.codec g).shuts.any (·.asked), stBUSY)] s fun s =>
  (.later (g + 16), s.setCodec g { s.codec g with asked := true, met := false })

def streamGetStatusBody (p : List Byte) (s : Hub) : Reply × Hub :=
  guarded [(p.length ≠ 0, stBAD_LEN)] s fun s =>
  okay (words ([s.strStatus, s.reg STR_LOOP, s.reg STR_LOOP_SEQ, s.reg STR_LOOP_ABANDON] ++
    (List.range 8).flatMap fun g => [s.reg (STR_SEQ g), s.reg (STR_CNT g), s.reg (STR_SIZE g), s.reg (STR_GCFG g)])) s

def execStreamConfig (h : Hdr) (p : List Byte) := lift fun s => s.command 0x0901 h p (streamConfigBody p)
def execStreamSetNbr (h : Hdr) (p : List Byte) := lift fun s => s.command 0x0902 h p (streamSetNbrBody p)
def execStreamFlush (h : Hdr) (p : List Byte) := lift fun s => s.command 0x0903 h p (streamFlushBody p)
def execStreamSelfcheck (h : Hdr) (p : List Byte) := lift fun s => s.command 0x0904 h p (streamSelfcheckBody p)
def execStreamGetStatus (h : Hdr) (p : List Byte) := lift fun s => s.command 0x0905 h p (streamGetStatusBody p)

/-- STR_FLUSH_FLUSH: FLUSH bits flush groups as STREAM_FLUSH does (R258, R236). -/
def Hub.strFlush (s : Hub) (mask : Nat) : Hub :=
  if mask = 0 ∨ ¬ s.codecRuns ∨ s.flushBusy mask then s else s.acceptFlush mask false

def execStrFlushFlush (mask : BitVec 8) := lift fun s => s.strFlush mask.toNat

/-- STR_FLUSH_COLD_REQ: COLD_REQ bits act as the COLD flag of STREAM_FLUSH (R239, R258). -/
def Hub.strCold (s : Hub) (mask : Nat) : Hub :=
  if ¬ s.codecRuns then s else s.eachBit 8 mask fun s g => s.setCodec g { s.codec g with coldNext := true }

def execStrFlushColdReq (mask : BitVec 8) := lift fun s => s.strCold mask.toNat

end Sys2Proof.Machine
end

