-- ==== Sys2Proof/Machine/Marshal.lean ====
section
/-! DEFINITION. The stream marshal and the Dispatcher: committed ingots, GAP ingots and reduced operation, record items,
service messages, carriage assembly, retention and repetition (11_penor_links.md, R228, R229). -/

namespace Sys2Proof.Machine

/-- Lane states of R276. -/
def lsOFF : Nat := 0
def lsDOWN : Nat := 1
def lsDETECT : Nat := 2
def lsTRAIN : Nat := 3
def lsBITLOCK : Nat := 4
def lsSYMLOCK : Nat := 5
def lsCAPS : Nat := 6
def lsACTIVE : Nat := 7
def lsACQUIRE : Nat := 8
def lsPATTERN : Nat := 9

/-- TX0-TX5 in one of these states, as a mask. -/
def Hub.lanesIn (s : Hub) (ss : List Nat) : Nat := (List.range 6).foldl (fun a n => if ss.contains (s.laneState n) then a + 2 ^ n else a) 0

/-- ACTIVE stream lanes as a mask, and the service lane of R285 (7: none). -/
def Hub.activeStream (s : Hub) : Nat := s.lanesIn [lsACTIVE] &&& s.streamLanes
def Hub.serviceLane (s : Hub) : Nat := (lowestLane s.activeStream).getD 7

/-! ### Reduced operation (R286, R287) -/

/-- Demand of a dropped group times TURN_LEN: (4 × (1 + RATE) + 256 × FLUSH_ALLOW / TURN_LEN) × TURN_LEN. -/
def dropDemand (turnLen rate allow : Nat) : Nat := 4 * (1 + rate) * turnLen + 256 * allow

/-- The demand with the groups of a mask dropped, times TURN_LEN. -/
def Hub.demandWith (s : Hub) (d : Nat) : Nat :=
  (List.range 8).foldl (fun a g =>
    a + (if bitAt d g then dropDemand else demandOf) s.turnLen (s.rateSet g) (s.allowSet g)) 0

/-- The service lane by which R286 measures capacities: R285's, with TX0 counted as ACTIVE. -/
def Hub.capLane (s : Hub) : Option Nat := if bitAt s.streamLanes 0 then some 0 else lowestLane s.activeStream

/-- The dropped set of R287 for a set of lanes: groups 7, 6, 5 ... until the demand fits. -/
def Hub.dropSet (s : Hub) (lanes : Nat) : Nat :=
  let cap := capOf s.capLane lanes * s.turnLen
  ((List.range 9).map fun k => 256 - 2 ^ (8 - k)).find? (fun d => decide (s.demandWith d ≤ cap)) |>.getD 255

/-- D. -/
def Hub.dropped (s : Hub) : Nat := s.fld MSH_STATUS 23 16

/-- Recompute D at a change in the set of stream lanes that are ACTIVE or in ACQUIRE (R287). (Log entry 80: DEDUCED, unsafe) -/
def Hub.mshCheck (s : Hub) : Hub :=
  let set := s.lanesIn [lsACTIVE, lsACQUIRE] &&& s.streamLanes
  if set = s.msh.lanes then s
  else
    let s := { s with msh := { s.msh with lanes := set } }
    let d := s.dropSet set
    if d = s.dropped then s
    else ((s.setFld MSH_STATUS 23 16 d).setBit MSH_STATUS 31 (d != 0)).emit (if d = 0 then 0x0903 else 0x0902) [d, s.tt.crossing, s.tt.turn]

/-- MSH_STATUS, MSH_ADMIT and MSH_BUF as they read (R291). -/
def Hub.mshStatus (s : Hub) : Nat :=
  b2n (s.dropped != 0) * 2 ^ 31 + s.serviceLane * 2 ^ 24 + s.dropped * 2 ^ 16 + s.lanesIn [lsACQUIRE] * 2 ^ 8 + s.lanesIn [lsACTIVE]

def Hub.demandNow (s : Hub) : Nat := (s.demandWith 0 + (max 1 s.turnLen - 1)) / max 1 s.turnLen

/-- MSH_ADMIT reads its reset value until firmware runs, and then the two sides of R286. (Log entry 233: DEDUCED, unsafe) -/
def Hub.mshAdmit (s : Hub) : Nat := if s.fwRuns then (capSum s.streamLanes - capMax s.streamLanes) * 2 ^ 16 + s.demandNow % 2 ^ 16 else 0

/-- Bytes held in the stream elastic buffer (R289). -/
def Hub.bufHeld (s : Hub) : Nat := s.msh.store.foldl (fun a x => a + x.size) 0

def Hub.mshBuf (s : Hub) : Nat := s.fld MSH_BUF 31 16 * 2 ^ 16 + s.bufHeld / 1024 % 4096

/-! ### Ingots in (R252, R253, R283, R284, R289) -/

/-- Bytes still to be sent of a list of items. -/
def bytesLeft (xs : List TxItem) : Nat := xs.foldl (fun a x => a + (x.bytes.length - x.pos)) 0

/-- The GAP ingot that replaces an ingot (R283). -/
def gapIngot (bs : List Byte) (cause : Nat) : List Byte :=
  let fl := pl bs 0x14 2
  let fl := fl - fl % 2
  let fl := if cause = 1 then fl ||| 128 else fl
  let h := [2] ++ (bs.drop 1).take 0x13 ++ leBytes 2 fl ++ [0, 0] ++ [BitVec.ofNat 8 cause, 0, 0, 0]
  h ++ leBytes 4 (crc32c h)

/-- Assign an ingot to the ACTIVE stream lane with the fewest queued bytes, the lowest on a tie; with none it waits (R284). -/
def Hub.assignIngot (s : Hub) (x : TxItem) : Hub :=
  let ns := (List.range 6).filter (bitAt s.activeStream)
  match ns.foldl (fun best n => match best with
      | none => some n
      | some b => if bytesLeft (s.lane n).stream < bytesLeft (s.lane b).stream then some n else some b) none with
  | none => { s with msh := { s.msh with pool := s.msh.pool ++ [x] } }
  | some n => let y := s.lane n; s.setLane n { y with stream := y.stream ++ [x] }

/-- Give the ingots that wait to lanes, in their order, once there is one. -/
def Hub.assignPool (s : Hub) : Hub :=
  if s.activeStream = 0 then s
  else s.msh.pool.foldl Hub.assignIngot { s with msh := { s.msh with pool := [] } }

/-- Place bytes of an ingot into the ring of the elastic buffer; the event of a cancelled write names its group and SEQ (R393, R394).
(Log entry 82: DESIGN CHOICE, unsafe) -/
def Hub.bufWrite (s : Hub) (g seq a : Nat) (bs : List Byte) : Hub :=
  let room := 0x30200000 - a
  let put := fun (s : Hub) (a : Nat) (bs : List Byte) => (s.tryStore 6 [g, seq] a bs).2
  put (put s a (bs.take room)) 0x30000000 (bs.drop room)

/-- The marshal takes a committed ingot: a GAP ingot replaces it when its group is dropped, until the next COLD ingot after a
replacement, or when the buffer has no room (R253, R283, R287, R289). -/
def Hub.takeIngot (s : Hub) (g seq : Nat) (cold : Bool) (bs : List Byte) : Hub :=
  let before := tget (fun _ => 0) s.msh.chain g
  let cause := if bitAt s.dropped g then 1 else if before ≠ 0 ∧ ¬ cold then before
    else if s.bufHeld + bs.length > 0x200000 - 0x10000 then 2 else 0
  let bs := if cause = 0 then bs else gapIngot bs cause
  let s := if cause = 0 then s else s.setCodec g { s.codec g with gapCold := true }
  let a := 0x30000000 + s.msh.place
  let s := s.bufWrite g seq a bs
  let k := s.msh.key
  let s := { s with msh := { s.msh with
      key := k + 1, place := (s.msh.place + bs.length) % 0x200000, chain := tset (fun _ => 0) s.msh.chain g cause,
      store := s.msh.store ++ [({ key := k, addr := a, size := bs.length } : Stored)] } }
  let s := s.setFld MSH_BUF 31 16 (max (s.fld MSH_BUF 31 16) (s.bufHeld / 1024))
  s.assignIngot { typ := tySTREAM, bytes := bs, group := g, seq := seq, key := k }

/-- INGOT_COMMIT: the group's first closed ingot, its self-check over, enters S0+g whole (R252). -/
def Hub.ingotCommit (s : Hub) (g : Nat) : Hub :=
  let x := s.codec g
  match x.shuts with
  | [] => s
  | sh :: rest =>
    if sh.check then s
    else
      let bs := s.ingotBytes g sh (s.dropped != 0)
      let n0 := (sh.samples.head?.map (·.n)).getD 0
      let s := s.setCodec g { x with shuts := rest }
      let s := if sh.raw then s.incWrap (STR_CNT g) 31 16 else s
      let s := s.setFld (STR_SIZE g) 12 0 (bs.length - 32)
      s.sidQueue g (.blob sh.seq ((s.crossAt n0).1 * 65536 + g * 256) bs)

def execIngotCommit (g : Fin 8) := lift fun s => s.ingotCommit g.val

/-- The marshal takes the next entry of S0+g; an ingot whose entry it cannot read is not sent (R284, R389). -/
def Hub.takeEntry (s : Hub) (g : Nat) : Hub :=
  match (s.items g).head?, s.readEntry g 0 6 with
  | some (.blob seq _ bs), (true, s) => (s.sidPop g).takeIngot g seq (bitAt (pl bs 0x14 2) 1) bs
  | some _, (true, s) => s.sidPop g
  | some _, (false, s) => s
  | none, _ => s

/-- The marshal takes what S0-S7 hold, of one tick in ascending group order (R284). (Log entry 83: DEDUCED, unsafe) -/
def Hub.takeCommitted (s : Hub) : Hub := s.each (List.range 8) fun s g => s.each (List.range 64) fun s _ => if (s.items g).isEmpty then s else s.takeEntry g

/-- The next ingot of a group is committed when its time is up: by the second tick after its last word, or by the 20th with a self-check
that is then abandoned (R252, R256); and when an ingot has opened with all three staging areas in use. (Log entry 199: DESIGN CHOICE, unsafe) -/
def Hub.commitDue : Nat → Hub → Nat → Hub
  | 0, s, _ => s
  | f + 1, s, g =>
    let x := s.codec g
    let full := decide (4 ≤ x.areas)
    match x.shuts with
    | sh :: _ =>
      if full ∨ sh.closedAt + (if sh.check then 20 else 2) ≤ s.frame then Hub.commitDue f ((s.selfcheckAbandon g).ingotCommit g) g else s
    | [] =>
      match firstIngot x.inbox with
      | some (xs, _) => if full ∨ xs.getLast?.any (·.took + 2 ≤ s.frame) then Hub.commitDue f (s.ingotClose g) g else s
      | none => s

/-- Frame-tick work: the marshal takes what was committed since the last tick, then what this tick commits. -/
def Hub.commitTick (s : Hub) : Hub := (s.takeCommitted.each (List.range 8) fun s g => Hub.commitDue 16 s g).takeCommitted

/-- INGOT_RETENTION_EXPIRE: the space of ingots whose last carriage left 64 frames ago is freed (R289). -/
def Hub.retentionExpire (s : Hub) : Hub :=
  { s with msh := { s.msh with store := s.msh.store.filter fun x => match x.freeAt with | some f => decide (s.frame < f) | none => true } }

def execIngotRetentionExpire := lift Hub.retentionExpire

/-! ### The Dispatcher (R228, R229, R280) -/

/-- Read bytes of a memory through SECDED for a requester: corrected words are counted, and the first uncorrectable word is
answered with its address (R390, R392). -/
def Hub.eccScan (s : Hub) (requester a n : Nat) : Hub × Option Nat :=
  match memoryAt a with
  | none => (s, none)
  | some (m, width) =>
    let ws := (s.ecc.map (·.1)).filter fun w => decide (a / width * width ≤ w) && decide (w < a + n)
    ws.foldl (fun (acc : Hub × Option Nat) w =>
      match eccCheck (acc.1.eccAt w) with
      | .corrected => (acc.1.bucketAdd m w requester, acc.2)
      | .uncorrectable => (acc.1, acc.2.or (some w))
      | _ => acc) (s, none)

/-- Queue service messages with the hub's own. -/
def Hub.queueService (s : Hub) (ms : List (List Byte)) : Hub :=
  { s with msh := { s.msh with service := s.msh.service ++ ms.map fun m => ({ typ := tySERVICE, bytes := m } : TxItem) } }

/-- The Dispatcher's next item: one that must be sent again, else the oldest of the next group with one, round-robin, and that group. -/
def Hub.nextRecord (s : Hub) : Option (TxItem × Option Nat) :=
  match s.msh.again with
  | x :: _ => some (x, none)
  | [] =>
    match ((List.range 8).map fun i => (s.msh.served + 1 + i) % 8).find? fun g => !(s.items (8 + g)).isEmpty with
    | none => none
    | some g =>
      match (s.items (8 + g)).head? with
      | some (.inMem addr len seq _) =>
        let seg := (addr - 0x20000000) / segBytes s.segSize
        some ({ typ := tyRECORD, bytes := s.bytes addr len, group := g, seq := seq, seg := seg, addr := addr }, some g)
      | _ => none

/-- An item that the Dispatcher cannot read is abandoned: it is named in LOST_RECORDS with LANE 0xFF and its segment is freed (R393). -/
def Hub.abandonItem (s : Hub) (it : TxItem) : Hub := (s.queueService (lostMsgs 0xFF [(it.group, it.seq)])).segSent it.seg

/-- The Dispatcher takes an item, from S8+g or to be sent again, and reads it within its windows: the item, if it could. -/
def Hub.fetchRecord (s : Hub) (it : TxItem) (from_ : Option Nat) : Option TxItem × Hub :=
  let (ok, s) := match from_ with
    | some g => (match s.readEntryBy 1 (8 + g) 0 1 with
      | (true, s) => (true, { s.sidPop (8 + g) with msh := { s.msh with served := g } })
      | (false, s) => (false, s))
    | none => (true, { s with msh := { s.msh with again := s.msh.again.drop 1 } })
  if ¬ s.dispatcherRuns then (none, s)
  else if ¬ ok then (none, s.abandonItem it)
  else
    let (ok, s) := s.reach 1 it.addr it.bytes.length 0
    if ¬ ok then (none, { s with msh := { s.msh with again := it :: s.msh.again } })
    else match s.eccScan 1 it.addr it.bytes.length with
      | (s, some w) => (none, (s.uncorrectable 1 w 1 0 []).abandonItem it)
      | (s, none) => (some it, s)

/-- DISPATCHER_SEND_ITEM: the next item goes into transit on an ACTIVE lane that has not a carriage of records to send (R228).
(Log entry 84: DEDUCED, safe) -/
def Hub.sendItem (s : Hub) (n : Nat) : Hub :=
  if ¬ s.dispatcherRuns ∨ s.laneState n ≠ lsACTIVE ∨ bytesLeft (s.lane n).record ≥ 184 then s
  else match s.nextRecord with
    | none => s
    | some (it, g) =>
      match s.fetchRecord it g with
      | (some it, s) => let y := s.lane n; s.setLane n { y with record := y.record ++ [it] }
      | (none, s) => s

def execDispatcherSendItem (lane : Fin 6) := lift fun s => s.sendItem lane.val

/-! ### Service messages (R280, R285) -/

/-- The Dispatcher reads, within its windows, the bytes of an item that lies in memory. -/
def Hub.readBodyBy (s : Hub) (k : Nat) (it : Item) : Bool × Hub :=
  match it with
  | .added a len _ _ _ => match s.reach k a len 0 with
    | (true, s) => s.readBody k it
    | (false, s) => (false, s)
  | _ => (true, s)

/-- The Dispatcher takes a message of S36 or S40; an event may still wait for CSPI. One whose entry it cannot read is sent again from its
source (R393), and one that software has added and whose bytes it cannot read is discarded. (Log entry 211: DEDUCED, unsafe) -/
def Hub.takeMsg (s : Hub) (n : Nat) (it : Item) : Option TxItem × Hub :=
  match s.readEntryBy 1 n ((s.items n).idxOf it) 1 with
  | (false, s) => (none, if s.dispatcherRuns then s.sidQueue n it else s)
  | (true, s) =>
    match s.readBodyBy 1 it with
    | (true, s) => (some { typ := tySERVICE, bytes := s.itemMsg it }, if n = 36 then s.sidPop 36 else s.eventLeft it true false)
    | (false, s) => (none, if s.dispatcherRuns then s.sidRemove n (· == it) else s)

/-- A message of S40 that leaves over the link. -/
def Item.forLink : Item → Bool
  | .ev _ link _ _ => link
  | .added _ _ _ _ _ => true
  | _ => false

/-- A response or an event, which reaches the link through the Dispatcher. -/
def TxItem.byDispatcher (x : TxItem) : Bool := pl x.bytes 0 1 == kResponse || pl x.bytes 0 1 == kEvent

/-- A message can leave: while the Dispatcher is frozen, no response or event begins to (R17). (Log entry 212: DESIGN CHOICE, unsafe) -/
def Hub.mayLeave (s : Hub) (x : TxItem) : Bool := s.dispatcherRuns || !x.byDispatcher || x.pos != 0

/-- The next message for the service lane: the hub's own, else, while the Dispatcher serves it, of S36 and S40 the one queued first.
(Log entry 85: DEDUCED, unsafe) -/
def Hub.nextService (s : Hub) (serves : Bool) : Option TxItem × Hub :=
  match s.msh.service.find? s.mayLeave with
  | some x => (some x, { s with msh := { s.msh with service := s.msh.service.erase x } })
  | none =>
    if ¬ serves ∨ ¬ s.dispatcherRuns then (none, s)
    else match (s.items 36).head?, (s.items 40).find? Item.forLink with
      | some a, some b => if a.stamp < b.stamp then s.takeMsg 36 a else s.takeMsg 40 b
      | some a, none => s.takeMsg 36 a
      | none, some b => s.takeMsg 40 b
      | none, none => (none, s)

/-- Something waits for the service lane. -/
def Hub.serviceWaits (s : Hub) : Bool :=
  s.msh.service.any s.mayLeave || (s.dispatcherRuns &&
    (!(s.items 36).isEmpty || (s.items 40).any Item.forLink))

/-- Take messages for a carriage of the service lane. -/
def Hub.fillService (serves : Bool) : Nat → Hub → Nat → Hub
  | 0, s, _ => s
  | f + 1, s, n =>
    if bytesLeft (s.lane n).service ≥ 184 then s
    else match s.nextService serves with
      | (none, s) => s
      | (some x, s) => Hub.fillService serves f (s.setLane n { s.lane n with service := (s.lane n).service ++ [x] }) n

/-- The Dispatcher writes the payloads of lane n: it runs, and its windows allow it (R17, R28, R401). -/
def Hub.serves (s : Hub) (n : Nat) : Bool × Hub :=
  if s.dispatcherRuns then s.reach 1 (ringAddr (24 + n) (s.fld (SD_TAIL (24 + n)) 15 0)) 16 1 else (false, s)

/-! ### Reading the ingots that are sent (R390, R393) -/

/-- The address of byte `i` of an ingot in the ring of the elastic buffer. -/
def Stored.at_ (z : Stored) (i : Nat) : Nat := 0x30000000 + (z.addr - 0x30000000 + i) % 0x200000

/-- A byte of memory as it is read: corrected where the check corrects it, else as it stands (R390, R393). -/
def Hub.readByte (s : Hub) (a : Nat) : Byte :=
  let w := a / 8 * 8
  if eccCheck (s.eccAt w) = .uncorrectable then s.byte a ^^^ BitVec.ofNat 8 (s.eccAt w / 2 ^ (8 * (a - w))) else s.byte a

/-- The marshal reads an ingot as the carriage in which it begins is assembled: an uncorrectable word is sent as read and reported with
the group and SEQ (R393). -/
def Hub.readIngot (s : Hub) (x : TxItem) : Hub × TxItem :=
  match s.msh.store.find? (·.key == x.key) with
  | none => (s, x)
  | some z =>
    let bytes := (List.range z.size).map fun i => s.readByte (z.at_ i)
    let ws := ((List.range ((z.addr % 8 + z.size + 7) / 8)).map fun i => z.at_ (8 * i) / 8 * 8).filter fun w => s.eccAt w != 0
    (s.each ws fun s w => match eccCheck (s.eccAt w) with
      | .corrected => s.bucketAdd 2 w 6
      | .uncorrectable => s.uncorrectable 2 w 6 0 [x.group, x.seq]
      | .clean => s, { x with bytes := bytes })

/-- The items of a lane's queue with the ingots read that begin within `room` bytes. -/
def Hub.readBegun : List TxItem → Hub → Nat → Hub × List TxItem
  | [], s, _ => (s, [])
  | x :: t, s, room =>
    let (s, x) := if x.pos = 0 then s.readIngot x else (s, x)
    if x.bytes.length - x.pos < room then
      let (s, t) := Hub.readBegun t s (room - (x.bytes.length - x.pos))
      (s, x :: t)
    else (s, x :: t)

/-- Read the ingots that begin in the next carriage of lane n. -/
def Hub.readStream (s : Hub) (n : Nat) : Hub :=
  if s.ecc.isEmpty then s
  else let (s, xs) := Hub.readBegun (s.lane n).stream s 184; s.setLane n { s.lane n with stream := xs }

/-! ### Carriage assembly (R263, R270, R285) -/

/-- Fill `room` bytes from items that leave in frame `at`: the bytes, the offset at which the first item starts, the items
completed and those left. -/
def packItems (leaves : Nat) : List TxItem → Nat → Nat → List Byte × Option Nat × List TxItem × List TxItem
  | [], _, _ => ([], none, [], [])
  | x :: t, off, room =>
    let n := min room (x.bytes.length - x.pos)
    let first := if x.pos = 0 then some off else none
    let y : TxItem := { x with pos := x.pos + n, firstAt := if x.pos = 0 then some leaves else x.firstAt }
    if x.pos + n < x.bytes.length ∨ room = n then
      ((x.bytes.drop x.pos).take n, first, if x.pos + n < x.bytes.length then [] else [y], if x.pos + n < x.bytes.length then y :: t else t)
    else
      let (bs, f, d, r) := packItems leaves t (off + n) (room - n)
      ((x.bytes.drop x.pos).take n ++ bs, first.or f, y :: d, r)

/-- Assemble a carriage of one TYPE from a list of items for a frame. -/
def asmOf (leaves typ : Nat) (xs : List TxItem) : Asm × List TxItem :=
  let (bs, f, d, r) := packItems leaves xs 0 184
  ({ leaves := leaves, typ := typ, ptr := match f with | some o => o / 4 | none => 63,
     payload := bs ++ List.replicate (184 - bs.length) 0, done := d }, r)

/-- Assembly of the carriage that lane n sends three frames from now (R285): the first TYPE that has bytes ready. A lane that has left
STREAM_LANES still sends what its queue holds. (Log entry 200: DESIGN CHOICE, unsafe) -/
def Hub.assemble (s : Hub) (n : Nat) : Hub :=
  if s.laneState n ≠ lsACTIVE then s
  else
    let isService := s.serviceLane = n
    let svc := (isService ∧ s.serviceWaits) ∨ (s.lane n).service.any s.mayLeave
    let t := s.frame + 3
    let turn := ((s.lane n).count + 2) % 16 = 0
    let put := fun (s : Hub) (f : Lane → Lane) (a : Asm) =>
      let x := f (s.lane n)
      s.setLane n { x with asm := x.asm ++ [a] }
    let sendService := fun (s : Hub) =>
      let s := if isService then (let (on, s) := s.serves n; Hub.fillService on 30 s n) else s
      let (go, stay) := (s.lane n).service.partition s.mayLeave
      let (a, r) := asmOf t tySERVICE go
      put s (fun x => { x with service := r ++ stay }) a
    if svc ∧ turn then sendService s
    else if ¬ (s.lane n).stream.isEmpty then
      let s := s.readStream n
      let (a, r) := asmOf t tySTREAM (s.lane n).stream
      put s (fun x => { x with stream := r }) a
    else if svc then sendService s
    else if ¬ (s.lane n).record.isEmpty then
      match s.serves n with
      | (true, s) => let (a, r) := asmOf t tyRECORD (s.lane n).record; put s (fun x => { x with record := r }) a
      | (false, s) => s
    else s

/-- DELAY of a lane in 1/256 ns (R296). -/
def Hub.delayUnits (s : Hub) (n : Nat) : Nat := (rdiv ((s.fld (TM_DELAY n) 15 0 * 256 : Nat) : Int) 1000).toNat

/-- The last carriage of an item leaves on lane n (R228, R280, R289); a LANE_STATE message has then sent the receiver's CAPS_ACK (R276). -/
def Hub.itemLeft (s : Hub) (n : Nat) (x : TxItem) : Hub :=
  let y := s.lane n
  let s := s.setLane n { y with kept := y.kept ++ [(s.frame, x)] }
  if x.typ = tySTREAM then
    let s := { s with msh := { s.msh with store := s.msh.store.map fun (z : Stored) => if z.key = x.key then { z with freeAt := some (s.frame + 64) } else z } }
    if x.bytes.head? = some 2 ∧ ¬ x.again then s.incSat MSH_GAPS 31 0 else s
  else if x.typ = tyRECORD then s.segSent x.seg
  else
  let s := if pl x.bytes 0 1 = kLaneState ∧ bitAt (pl x.bytes 6 1) 1 then
      (let m := pl x.bytes 4 1; s.setLane m { s.lane m with ackSent := true }) else s
  match x.timed, s.tm.dreq with
    | some seq, some (q, _, none) =>
      if q = seq then
        let f := x.firstAt.getD s.frame
        let t := match s.frameRec f with | some r => r.stamp | none => s.tm.now
        { s with tm := { s.tm with dreq := some (q, f, some ((t + (s.delayUnits n)) % 2 ^ 72)) } }
      else s
    | _, _ => s

/-! ### Loss of a lane (R229, R280, R281, R284) -/

/-- An item to be sent again, whole. -/
def TxItem.repeat (x : TxItem) : TxItem := { x with pos := 0, firstAt := none, again := true }

/-- Some part of an item has left by frame `f`. -/
def TxItem.begun (x : TxItem) (f : Nat) : Bool := match x.firstAt with | some a => decide (a < f) | none => false

/-- Lane n leaves ACTIVE: what was sent on it in the last 64 frames or is in transit is sent again on other lanes, records whose
last carriage left on it then are named in LOST_RECORDS, and its queue is assigned again. -/
def Hub.laneLost (s : Hub) (n : Nat) : Hub :=
  let x := s.lane n
  let f := s.frame
  let kept := (x.kept.filter fun k => decide (f ≤ k.1 + 64)).map (·.2)
  let asm := x.asm.flatMap (·.done)
  let again := fun (y : TxItem) => if y.begun f then y.repeat else { y with pos := 0, firstAt := none }
  let ofTyp := fun (t : Nat) (xs : List TxItem) => xs.filter (·.typ == t)
  let sk := ofTyp tySTREAM kept
  let st := ofTyp tySTREAM asm ++ x.stream
  let vk := (ofTyp tySERVICE kept).filter (·.timed.isNone)
  let vt := (ofTyp tySERVICE asm ++ x.service).filter (·.timed.isNone)
  let rt := ofTyp tyRECORD asm ++ x.record
  let s := s.setLane n { x with stream := [], record := [], service := [], kept := [], asm := [] }
  let resent := sk.length + (st.filter (·.begun f)).length
  let s := s.addSat MSH_RESENT 15 0 resent
  let s := s.addSat MSH_RESENT 31 16 (rt.filter (·.begun f)).length
  let keys := (sk.map (·.key))
  let s := { s with msh := { s.msh with
      store := s.msh.store.map fun (z : Stored) => if keys.contains z.key then { z with freeAt := none } else z,
      service := vk.map TxItem.repeat ++ vt.map again ++ s.msh.service,
      again := rt.map again ++ s.msh.again,
      pool := sk.map TxItem.repeat ++ st.map again ++ s.msh.pool } }
  let s := s.queueService (lostMsgs n ((ofTyp tyRECORD kept).map fun (y : TxItem) => (y.group, y.seq)))
  s.assignPool

end Sys2Proof.Machine
end

