-- ==== Sys2Proof/Machine/Links.lean ====
section
/-! DEFINITION. The eleven lanes: states, training, acquisition, carriages sent, the frame clock's source and the LINK commands
(11_penor_links.md, R33, R274-R282, R290-R293). -/

namespace Sys2Proof.Machine

/-! ### Partners (R261, R276) -/

/-- The control lane in use: the lane in use under R33, or RX0 with the XO. (Log entry 202: DEDUCED, unsafe) -/
def Hub.controlLane (s : Hub) : Nat := s.clockLane.getD 8

/-- The receiver on which the far end of lane n answers, its return path; TX1-TX6 have none here (R261). -/
def Hub.returnLane (s : Hub) (n : Nat) : Option Nat := if n = 0 then some s.controlLane else if n = 7 then some 9 else none

/-- The transmitter whose far end answers on lane n. -/
def Hub.answersFor (s : Hub) (n : Nat) : List Nat := if n = s.controlLane then [0] else if n = 9 then [7] else []

/-- Own RX_READY: of a receiver its adaptation, of TX0 and TX7 that of a receiver on the return path; TX1-TX6 have no
receiver here. (Log entry 72: DEDUCED, unsafe) -/
def Hub.ownReady (s : Hub) (n : Nat) : Bool :=
  if n ≥ 8 then (s.lane n).ready else (s.returnLane n).all fun m => (s.lane m).ready

/-- Own CAPS_ACK, in the same way. -/
def Hub.ownAck (s : Hub) (n : Nat) : Bool :=
  if n ≥ 8 then (s.lane n).ack else (s.returnLane n).all fun m => (s.lane m).ack

/-- The partner of a TX lane reports state `k` or a later one: by LANE_STATE, or, while the receiver on its return path is not in
service, by carriages that it receives. (Log entry 73: DEDUCED, unsafe) -/
def Hub.partnerAt (s : Hub) (n k : Nat) : Bool :=
  let far := (s.lane n).far
  (decide (k ≤ far) && decide (far ≤ 8)) ||
    (s.returnLane n).any fun m => decide (k ≤ s.laneState m) && decide (s.laneState m < lsACTIVE)

/-! ### Entering a state (R276-R279, R282) -/

/-- Reset values of LN_TXEQ. -/
def txeqReset : Nat := 6 * 2 ^ 16 + 48 * 2 ^ 8 + 2

/-- FLAGS of a LANE_STATE message for a receiver. -/
def Hub.rxFlags (s : Hub) (n : Nat) : Nat := b2n (s.lane n).ready + 2 * b2n (s.lane n).ack

/-- The hub reports a change of RX0 or RX2 (R273): the state, the requests to the far transmitter and the status of TX0. -/
def Hub.reportLane (s : Hub) (n : Nat) : Hub :=
  if n = 8 ∨ n = 10 then
    s.queueService [laneStateMsg n (s.laneState n) (s.rxFlags n) (s.lane n).ctl (s.lane 0).stat]
  else s

/-- The STATUS of lane n's transmitter changes; of TX0 both receivers report it (R273). -/
def Hub.setStat (s : Hub) (n v : Nat) : Hub :=
  let old := (s.lane n).stat
  let s := s.setLane n { s.lane n with stat := v }
  if n = 0 ∧ v ≠ old then (s.reportLane 8).reportLane 10 else s

/-- A lane enters a state. (Log entry 74: DEDUCED, unsafe) -/
def Hub.enterLane (s : Hub) (n st : Nat) : Hub :=
  let old := s.laneState n
  let s := s.setFld (LN_STATUS n) 3 0 st
  let x := { s.lane n with since := s.xo, entered := s.frame, good := 0, bad := 0, lastSeq := none, part := none, ctlPart := none }
  let s := s.setLane n x
  let s :=
    if st = lsDETECT then
      s.setLane n { x with pre := s.bit (LN_CTRL n) 1, ready := false, farReady := false, ack := false, ackSent := false, farAck := false, far := 0 }
    else if st = lsTRAIN then
      ((if n < 8 then s.setReg (LN_TXEQ n) txeqReset else s).setLane n { x with prbs := prbsSeed, ctl := 0, req := 0 }).setStat n 0
    else if st = lsBITLOCK then s.setLane n { x with count := 0 }
    else if st = lsACTIVE then
      let s := s.setFld (LN_STATUS n) 10 8 0
      if old = lsCAPS then s.incSat (LN_EVENTS n) 15 8 else s
    else if st = lsACQUIRE then (s.setLane n { x with blind := s.fld (LN_TIMING n) 12 0 }).incSat (LN_EVENTS n) 31 16
    else if st = lsDOWN then
      let k := s.fld (LN_STATUS n) 10 8
      ((s.setLane n { x with wait := k }).setFld (LN_STATUS n) 10 8 (min 6 (k + 1))).incSat (LN_EVENTS n) 7 0
    else s
  let s := if st = lsACTIVE ∨ st = lsACQUIRE ∨ st = lsDOWN then s.emit 0x0A01 [n, st, s.fld (LN_STATUS n) 15 12, s.tt.crossing, s.tt.turn] else s
  let s := if n < 6 ∧ st ≠ lsACTIVE ∧ old = lsACTIVE then s.laneLost n else s
  let s := if st ≠ old then s.reportLane n else s
  let s := s.mshCheck
  if n < 6 ∧ st = lsACTIVE then s.assignPool else s

/-- A lane enters a state for a LAST_CAUSE. -/
def Hub.enterFor (s : Hub) (n st cause : Nat) : Hub := (s.setFld (LN_STATUS n) 15 12 cause).enterLane n st

/-- A lane in service loses lock: blind acquisition outside TEST, full training in TEST (R274, R279). -/
def Hub.loseLock (s : Hub) (n : Nat) (cause : Option Nat) : Hub :=
  let s := match cause with | some c => s.setFld (LN_STATUS n) 15 12 c | none => s
  s.enterLane n (if s.mode = mTEST then lsDETECT else lsACQUIRE)

/-- RX1 in LOADING with BOOT 0b10: the partner's TX7 is in service and nothing answers on this hub's TX7, so no exchange
takes place (R324). -/
def Hub.bootsOnPair (s : Hub) (n : Nat) : Bool := n == 9 && s.mode == mLOADING && s.fld SYS_STRAPS 1 0 == 2

/-- The ends of a TX lane hold the same PRECODE_EN (R268): the far end's is its own, and a far end that reports SYMLOCK has shown that it
does. (Log entry 201: DEDUCED, safe) -/
def Hub.endsAgree (s : Hub) (n : Nat) : Bool :=
  let x := s.lane n
  (decide (lsSYMLOCK ≤ x.far) && decide (x.far ≤ 8)) || Config.farPrecode n x.entered == x.pre

/-- Take the step of R276 or R279 that the reports about a lane now allow. -/
def Hub.laneStep (s : Hub) (n : Nat) : Hub :=
  let st := s.laneState n
  let x := s.lane n
  let alone := s.bootsOnPair n
  if st = lsTRAIN ∧ s.ownReady n ∧ (x.farReady ∨ alone) then s.enterLane n lsBITLOCK
  else if st = lsBITLOCK ∧ n < 8 ∧ s.partnerAt n lsBITLOCK ∧ s.endsAgree n then s.enterLane n lsSYMLOCK
  else if st = lsSYMLOCK ∧ n < 8 ∧ s.partnerAt n lsSYMLOCK then s.enterLane n lsCAPS
  else if st = lsCAPS ∧ ((x.ackSent ∧ x.farAck) ∨ alone) then s.enterLane n lsACTIVE
  else if st = lsACTIVE ∧ n < 8 ∧ x.far = lsACQUIRE then s.loseLock n (some 9)
  else if st = lsACQUIRE ∧ n < 8 ∧ x.far = lsACTIVE then s.enterLane n lsACTIVE
  else s

/-! ### Which lanes train (R22, R274) -/

/-- Lanes whose training has applied in the present mode, as a list; in LOADING those of R22 and R458. -/
def Hub.trainingLanes (s : Hub) : List Nat :=
  if s.mode = mLOADING then
    let boot := s.fld SYS_STRAPS 1 0
    if boot = 1 then [0, 8] else if boot = 2 then [0, 9] else [0]
  else if s.mode = mIDLE then [0, 8, 10]
  else if s.mode = mDORMANT then []
  else List.range 11

/-- An enabled lane in OFF begins; with BOOT 0b10, TX0 counts as ACTIVE in LOADING without training (R274). (Log entry 76: DEDUCED, unsafe) -/
def Hub.startLanes (s : Hub) : Hub :=
  s.each s.trainingLanes fun s n =>
    if ¬ s.bit (LN_CTRL n) 0 ∨ s.laneState n ≠ lsOFF then s
    else if n = 0 ∧ s.mode = mLOADING ∧ s.fld SYS_STRAPS 1 0 = 2 then s.enterLane 0 lsACTIVE
    else s.enterLane n lsDETECT

/-- Full training of a lane that is enabled. -/
def Hub.trainLane (s : Hub) (n : Nat) : Hub := if s.bit (LN_CTRL n) 0 then s.enterLane n lsDETECT else s

/-- Entry to a mode trains lanes (R274). `boot2` says that LOADING with BOOT 0b10 has just ended. (Log entry 75: DEDUCED, unsafe) -/
def Hub.trainOnMode (s : Hub) (mode : Nat) (boot2 : Bool) : Hub :=
  if mode = mIDLE then s.each [0, 8, 10] fun s n => if s.laneState n = lsACTIVE ∧ ¬ (boot2 ∧ n = 0) then s else s.trainLane n
  else if mode = mPREPARE then s.each [1, 2, 3, 4, 5, 6, 7, 9] fun s n => if s.laneState n = lsACTIVE then s else s.trainLane n
  else if mode = mTEST then s.each (List.range 11) Hub.trainLane
  else s

/-! ### Coefficients (R275) -/

/-- Tap fields of LN_TXEQ: PRE, MAIN, POST (tap 0, 1, 2), with their limits. -/
def tapHi (tap : Nat) : Nat := [3, 13, 20].getD tap 0
def tapLo (tap : Nat) : Nat := [0, 8, 16].getD tap 0
def tapMax (tap : Nat) : Nat := [15, 63, 31].getD tap 0

/-- TXEQ_STEP: each tap with a request not yet answered moves by one code, or is at its limit; in ACQUIRE the settings are frozen (R279).
(Log entry 78: DEDUCED, unsafe) -/
def Hub.txeqStep (s : Hub) (n : Nat) : Hub :=
  if s.laneState n = lsACQUIRE then s
  else
  let s := if bitAt (s.lane n).req 8 then s.setReg (LN_TXEQ n) txeqReset else s
  s.each [0, 1, 2] fun s tap =>
    let x := s.lane n
    let r := tapOf x.req tap
    if tapOf x.stat tap ≠ 0 ∨ (r ≠ 1 ∧ r ≠ 2) then s
    else
      let v := s.fld (LN_TXEQ n) (tapHi tap) (tapLo tap)
      let sum := s.fld (LN_TXEQ n) 3 0 + s.fld (LN_TXEQ n) 13 8 + s.fld (LN_TXEQ n) 20 16
      let ok : Bool := if r = 1 then decide (v < tapMax tap) && decide (sum < 63) else decide (0 < v)
      let s := if ok then s.setFld (LN_TXEQ n) (tapHi tap) (tapLo tap) (if r = 1 then v + 1 else v - 1) else s
      s.setStat n (setTap (s.lane n).stat tap (if ok then 1 else 2))

def execTxeqStep (lane : Fin 8) := lift fun s => s.txeqStep lane.val

/-- A transmitter receives CONTROL: requests are kept, and a hold returns the tap's status to 0. -/
def Hub.takeControl (s : Hub) (n control : Nat) : Hub :=
  let x := s.lane n
  let stat := [0, 1, 2].foldl (fun st tap => if tapOf control tap = 0 then setTap st tap 0 else st) x.stat
  (s.setLane n { x with req := control }).setStat n stat

/-- A receiver's requester receives STATUS: an answered request turns to hold; once the status has returned to 0, a receiver
still adapting may make another, which the spec leaves open (see the assumption log). (Log entry 77: DESIGN CHOICE, safe) -/
def Hub.takeStatus (s : Hub) (n status : Nat) : Hub :=
  let x := s.lane n
  let ctl := [0, 1, 2].foldl (fun c tap => if tapOf status tap ≠ 0 then setTap c tap 0 else c) x.ctl
  let idle := ctl % 64 = 0 ∧ status % 64 = 0 ∧ ¬ x.ready ∧ ¬ (n = 9 ∧ s.mode = mLOADING)
  let (w, s) := if idle then s.drawWord else (0, s)
  let ctl := if idle then [0, 1, 2].foldl (fun c tap => if tapOf w tap = 3 then c else setTap c tap (tapOf w tap)) ctl else ctl
  let s := s.setLane n { s.lane n with ctl := ctl }
  if ctl ≠ x.ctl then s.reportLane n else s

/-- TRAINING_FRAME_RECEIVE: the CONTROL and STATUS words of a training frame on RX0, RX1 or RX2. -/
def Hub.trainingFrame (s : Hub) (n control status : Nat) : Hub :=
  if n < 8 ∨ s.laneState n ≠ lsTRAIN then s
  else
    let ms := s.answersFor n
    let s := ms.foldl (fun s m =>
      (s.takeControl m control).setLane m { (s.takeControl m control).lane m with farReady := bitAt status 8 }) s
    let s := s.setLane n { s.lane n with farReady := bitAt status 8 }
    (ms.foldl Hub.laneStep (s.takeStatus n status)).laneStep n

def execTrainingFrameReceive (lane : Fin 11) (control status : BitVec 32) := lift fun s => s.trainingFrame lane.val control.toNat status.toNat

/-! ### Reports and events about a lane -/

/-- LANE_STATE_RECEIVE: the back end reports the receiver of TX0-TX6 (R273, R276, R279). The message arrives on RX0 or RX2. -/
def Hub.laneStateReceive (s : Hub) (n state flags control : Nat) : Hub :=
  if n > 6 then s
  else
    let s := s.takeControl n control
    (s.setLane n { s.lane n with far := state, farReady := bitAt flags 0, farAck := bitAt flags 1 }).laneStep n

/-- The message's STATUS word is that of the back end's transmitters and reaches the receivers RX0 and RX2 (R273). -/
def Hub.laneStateWhole (s : Hub) (rx n state flags control status : Nat) : Hub :=
  if rx ≠ 8 ∧ rx ≠ 10 then s
  else
    let s := s.laneStateReceive n state flags control
    if n = 0 ∧ s.laneState rx = lsTRAIN then s.takeStatus rx status else s

def execLaneStateReceive (rx lane : Fin 11) (state flags : BitVec 8) (control status : BitVec 32) :=
  lift fun s => s.laneStateWhole rx.val lane.val state.toNat flags.toNat control.toNat status.toNat

/-- CAPS_RECEIVE: a valid CAPS carriage on an RX lane (R277); on RX1 its LANE and DEVICE_ID are compared with the partner that
PAIR_JOIN named (R317). -/
def Hub.capsReceive (s : Hub) (n role lane hubId flags deviceId : Nat) : Hub :=
  if n < 8 ∨ s.laneState n ≠ lsCAPS then s
  else
    let s := if n = 9 then { s with pr := { s.pr with capsOk := lane == 7 && deviceId == s.reg PAIR_PARTNER_HI * 2 ^ 32 + s.reg PAIR_PARTNER_LO } } else s
    let s := s.setReg (LN_PARTNER n) (hubId % 256 * 2 ^ 16 + lane % 256 * 2 ^ 8 + role % 16 * 2 ^ 4 + 1)
    let old := (s.lane n).ack
    let s := s.setLane n { s.lane n with ack := true, farAck := (s.lane n).farAck || bitAt flags 1 }
    let ms := s.answersFor n
    let s := if bitAt flags 1 then ms.foldl (fun s m => s.setLane m { s.lane m with farAck := true }) s else s
    let s := if old then s else s.reportLane n
    (ms.foldl Hub.laneStep s).laneStep n

def execCapsReceive (lane : Fin 11) (role laneNo hubId flags : BitVec 8) (deviceId : BitVec 64) :=
  lift fun s => s.capsReceive lane.val role.toNat laneNo.toNat hubId.toNat flags.toNat deviceId.toNat

/-- LANE_DETECT_PASS: DETECT finds the far termination or signal energy. -/
def Hub.detectPass (s : Hub) (n : Nat) : Hub := if s.laneState n = lsDETECT then s.enterLane n lsTRAIN else s
def execLaneDetectPass (lane : Fin 11) := lift fun s => s.detectPass lane.val

/-- RX_ADAPT_DONE: the receiver has adapted, with these results, which it takes when ADAPT_EN is 1 (R290); in TRAIN it is ready then
(R275), and in ACTIVE it adapts on. -/
def Hub.adaptDone (s : Hub) (n ctle dfe eye : Nat) : Hub :=
  if n < 8 ∨ (s.laneState n ≠ lsTRAIN ∧ s.laneState n ≠ lsACTIVE) then s
  else
    let s := if s.bit (LN_RXEQ n) 31 then (((s.setFld (LN_RXEQ n) 19 16 ctle).setFld (LN_RXEQ n) 15 8 dfe).setFld (LN_RXEQ n) 7 0 eye) else s
    if s.laneState n = lsACTIVE then s
    else
      let s := s.setLane n { s.lane n with ready := true, ctl := 0 }
      ((s.answersFor n).foldl Hub.laneStep (s.reportLane n)).laneStep n

def execRxAdaptDone (lane : Fin 11) (ctle : BitVec 4) (dfe eye : BitVec 8) := lift fun s => s.adaptDone lane.val ctle.toNat dfe.toNat eye.toNat

/-- CDR_LOCK: the CDR has been locked for 4096 symbols. A lane whose ends differ in PRECODE_EN never reaches SYMLOCK (R268); `far` is the
setting with which the far end sends. (Log entry 201: DEDUCED, safe) -/
def Hub.cdrLock (s : Hub) (n : Nat) (far : Bool) : Hub :=
  if n ≥ 8 ∧ s.laneState n = lsBITLOCK ∧ (s.lane n).pre = far then s.enterLane n lsSYMLOCK else s

def execCdrLock (i : CdrIn) := lift fun s => s.cdrLock i.lane.val i.far

/-- Timeouts of R276 in XO cycles. -/
def laneTimeout (st : Nat) : Option Nat :=
  if st = lsDETECT then some (10 * xoMs) else if st = lsTRAIN then some (500 * xoMs) else if st = lsBITLOCK then some xoMs
  else if st = lsSYMLOCK then some xoMs else if st = lsCAPS then some (10 * xoMs) else none

/-- LANE_STATE_TIMEOUT: the timeout of a training state has run from entry to it; LAST_CAUSE names the state (1-5). -/
def Hub.laneTimedOut (s : Hub) (n : Nat) : Hub :=
  match laneTimeout (s.laneState n) with
  | some t => if (s.lane n).since + t ≤ s.xo then s.enterFor n lsDOWN (s.laneState n - 1) else s
  | none => s
def execLaneStateTimeout (lane : Fin 11) := lift fun s => s.laneTimedOut lane.val

/-- LANE_SIGNAL_LOSS: signal energy has been lost for 1 us in training. -/
def Hub.signalLoss (s : Hub) (n : Nat) : Hub :=
  if lsTRAIN ≤ s.laneState n ∧ s.laneState n ≤ lsCAPS then s.enterFor n lsDOWN 6 else s
def execLaneSignalLoss (lane : Fin 11) := lift fun s => s.signalLoss lane.val

/-- LANE_BACKOFF_END: the wait in DOWN is over (R278). -/
def Hub.backoffEnd (s : Hub) (n : Nat) : Hub :=
  if s.laneState n = lsDOWN ∧ (s.lane n).since + 2 ^ (s.lane n).wait * xoMs ≤ s.xo then s.enterLane n lsDETECT else s
def execLaneBackoffEnd (lane : Fin 11) := lift fun s => s.backoffEnd lane.val

/-- LANE_BLIND_LIMIT: the lane has not returned within BLIND_LIMIT carriages of entering ACQUIRE (R279). -/
def Hub.blindLimit (s : Hub) (n : Nat) : Hub :=
  if s.laneState n = lsACQUIRE ∧ (s.lane n).entered + (s.lane n).blind ≤ s.frame then s.enterFor n lsDETECT 7 else s
def execLaneBlindLimit (lane : Fin 11) := lift fun s => s.blindLimit lane.val

/-! ### The frame clock's source (R33) -/

/-- An RX lane is locked as a clock source. -/
def Hub.srcLocked (s : Hub) (n : Nat) : Bool := s.laneState n == lsACTIVE

/-- The other of RX0 and RX2 is locked while the lane in use is not, and AUTO_SWITCH lets the hub change to it. -/
def Hub.switchable (s : Hub) (n : Nat) : Bool :=
  s.bit TT_CLOCK 4 && s.fld TT_CLOCK 1 0 != 2 && !s.srcLocked n && s.srcLocked (18 - n)

/-- TT_STATUS.HOLDOVER (R33, R308). -/
def Hub.showHoldover (s : Hub) : Hub := s.setBit TT_STATUS 7 (s.tt.pllHold || s.fld TM_STATUS 2 0 == 1 || s.fld TM_STATUS 2 0 == 4)

/-- The frame PLL is locked to its source; when it was not, the counters await a TURN marker (R31, R37). -/
def Hub.pllLocks (s : Hub) : Hub :=
  { s.setBit TT_STATUS 6 true with tt := { s.tt with
      await := s.tt.await || !s.tt.locked, locked := true, pllHold := false, unlocked := false } }

/-- CLOCK_SOURCE_SWITCH: with AUTO_SWITCH, the lane in use was without lock and the other one locked at the tick, and still are. The PLL is
then locked to the other lane from this tick. -/
def Hub.clockSwitch (s : Hub) : Hub :=
  match s.clockLane with
  | none => s
  | some n =>
    if s.switchable n ∧ s.tt.unlocked then
      let a := s.fld TT_STATUS 5 4
      (s.setFld TT_STATUS 5 4 (1 - a)).pllLocks.showHoldover.dropMeasurements.emit 0x0301 [a, 1 - a, s.tt.crossing, s.tt.turn]
    else s

def execClockSourceSwitch := lift Hub.clockSwitch

/-- Frame-tick work: the PLL locks to the lane in use, or runs on at its last rate (R33). -/
def Hub.clockTick (s : Hub) : Hub :=
  match s.clockLane with
  | none => { s.setBit TT_STATUS 6 true with tt := { s.tt with locked := true, pllHold := false, unlocked := false } }
  | some n =>
    if s.srcLocked n then s.pllLocks
    else if s.switchable n then { s with tt := { s.tt with unlocked := true } }
    else { s.setBit TT_STATUS 6 false with tt := { s.tt with locked := false, pllHold := true, unlocked := false } }

/-! ### Sending (R206, R263, R275, R276) -/

/-- Send 1600 bits on a lane, precoded when its precoder is on. -/
def Hub.sendBits (s : Hub) (n : Nat) (bs : List Bool) : Hub :=
  let x := s.lane n
  let xs := toLevels bs
  let ys := if x.pre then precode x.level xs else xs
  s.setLane n { x with out := some (packLevels ys), level := ys.getLast?.getD x.level }

/-- Send a carriage: CSEQ counts from entry to BITLOCK, and TM marks the frame of crossing 0. -/
def Hub.sendCar (s : Hub) (n typ ptr : Nat) (payload : List Byte) : Hub :=
  let c : Car := { typ := typ, tm := s.tt.crossing == 0, ptr := ptr, cseq := (s.lane n).count % 64, payload := payload }
  let s := s.sendBits n c.encode
  (s.setLane n { s.lane n with count := (s.lane n).count + 1 }).incWrap (LN_CNT0 n) 31 0

/-- A payload passes the siding of the lane (R28), which discards an entry that the lane cannot read (R389): whether it can be sent. -/
def Hub.viaSiding (s : Hub) (n typ : Nat) (payload : List Byte) : Bool × Hub :=
  s.passSiding (24 + n) 7 (.blob 0 (s.tt.crossing * 65536 + n * 256 + typ) payload)

/-- Send a payload that passes the siding of the lane, else an IDLE carriage. -/
def Hub.sendPayload (s : Hub) (n typ ptr : Nat) (payload : List Byte) : Hub :=
  match s.viaSiding n typ payload with
  | (true, s) => s.sendCar n typ ptr payload
  | (false, s) => s.sendCar n tyIDLE 0 (List.replicate 184 0)

/-- An empty payload. -/
def noPayload : List Byte := List.replicate 184 0

/-- What an ACTIVE stream lane sends in the present frame: the carriage assembled for it, else IDLE. -/
def Hub.sendStream (s : Hub) (n : Nat) : Hub :=
  let x := s.lane n
  match x.asm.find? (·.leaves == s.frame) with
  | none => (s.setLane n { x with asm := x.asm.filter (decide <| s.frame < ·.leaves) }).sendCar n tyIDLE 0 noPayload
  | some a =>
    let s := s.setLane n { x with asm := x.asm.filter (decide <| s.frame < ·.leaves) }
    let s := s.sendPayload n a.typ a.ptr a.payload
    a.done.foldl (fun s it => s.itemLeft n it) s

/-- The bits of PATTERN 3, the levels 0, 0, 3, 3 repeated. -/
def levelPattern : List Bool := ofLevels ((List.range 200).flatMap fun _ => [0, 0, 3, 3])

/-- The 1600 bits that a pattern sends in a frame from its register, and the register after them; PRBS31 is x^31 + x^28 + 1. -/
def patternBits (pattern : Nat) (reg : Nat) : List Bool × Nat :=
  if pattern = 1 then prbs13 1600 reg
  else if pattern = 2 then
    let bs := lfsrBits 31 30 27 1600 reg
    (bs, natMsb (bs.drop 1569))
  else (levelPattern, reg)

/-- What a TX lane sends in the frame that begins. The trigger payload passes S30 where the Junction engine has written it there: one that stands
still or is frozen writes none (R17, R401). (Log entry 250: DEDUCED, unsafe) -/
def Hub.sendLane (s : Hub) (n : Nat) : Hub :=
  let st := s.laneState n
  if st = lsTRAIN then
    let x := s.lane n
    let ctl := match (s.returnLane n).filter fun m => s.laneState m == lsTRAIN with | some m => (s.lane m).ctl | none => 0
    let (ys, p) := trainFrame ctl (x.stat + 256 * b2n (s.ownReady n)) x.prbs
    s.setLane n { x with prbs := p, out := some (packLevels ys), level := ys.getLast?.getD x.level }
  else if st = lsBITLOCK ∨ st = lsSYMLOCK then s.sendCar n tyIDLE 0 noPayload
  else if st = lsCAPS then
    let ack := s.ownAck n
    let s := s.sendCar n tyTRAIN 0 (capsPayload n (s.fld JCT_CTRL 15 8) (s.lane n).pre ack)
    s.each (n :: (s.returnLane n).toList) fun s m => s.setLane m { s.lane m with ackSent := (s.lane m).ackSent || ack }
  else if st = lsACTIVE ∨ st = lsACQUIRE then
    if n < 6 then (if st = lsACTIVE then s.sendStream n else s.sendCar n tyIDLE 0 noPayload)
    else if n = 6 then match s.tx6 with
      | some o => if s.jctRunsIn s.now.mode then s.sendPayload 6 tyTRIGGER 0 (beBytes 184 o.payload) else s.sendCar 6 tyTRIGGER 0 (beBytes 184 o.payload)
      | none => s.setLane 6 { s.lane 6 with out := none }
    else match s.tx7 with
      | some p => s.sendPayload 7 tyPAIR 0 p
      | none => s.sendCar 7 tyIDLE 0 noPayload
  else if st = lsPATTERN then
    let x := s.lane n
    let (bs, r) := patternBits (s.fld (LN_CTRL n) 11 8) x.prbs
    (s.setLane n { x with prbs := r }).sendBits n bs
  else s.setLane n { s.lane n with out := none }

/-- Enter and leave PATTERN, which exists in TEST only (R276, R290). (Log entry 79: DESIGN CHOICE, safe) -/
def Hub.patternTick (s : Hub) (n : Nat) : Hub :=
  let p := s.fld (LN_CTRL n) 11 8
  let st := s.laneState n
  if st = lsPATTERN then (if p = 0 ∨ s.mode ≠ mTEST then s.enterLane n lsDETECT else s)
  else if p ≠ 0 ∧ s.mode = mTEST ∧ st ≠ lsOFF then
    let (w, s) := if p = 2 then s.drawWord else (prbsSeed, s)
    (s.enterLane n lsPATTERN).setLane n { (s.enterLane n lsPATTERN).lane n with prbs := w % 2 ^ 31 }
  else s

/-- Frame-tick work of the lanes before they send: the frame clock's source, starts and steps. -/
def Hub.laneTick (s : Hub) : Hub :=
  (s.clockTick.startLanes.each (List.range 11) fun s n => (s.patternTick n).laneStep n).assignPool

/-- The lanes send: the trigger carriage of the frame, what every TX lane carries in it, and the assembly of what follows. -/
def Hub.linkTick (s : Hub) : Hub :=
  let s := s.jctSend.each (List.range 8) Hub.sendLane
  let s := s.each (List.range 6) fun s n => s.assemble n
  s.each (List.range 6) fun s n =>
    let x := s.lane n
    s.setLane n { x with kept := x.kept.filter fun k => decide (s.frame ≤ k.1 + 64) }

/-! ### Settings, shared by registers and commands (R290, R293) -/

/-- Lanes of a mask. -/
def lanesOf (mask : Nat) : List Nat := (List.range 11).filter (bitAt mask)

/-- Enable or disable a lane: a disabled lane goes OFF. -/
def Hub.setLaneEn (s : Hub) (n : Nat) (en : Bool) : Hub :=
  let s := s.setBit (LN_CTRL n) 0 en
  if en ∨ s.laneState n = lsOFF then s else s.enterLane n lsOFF

/-- The mask of lanes now disabled, with those of `mask`. -/
def Hub.offLanes (s : Hub) (mask : Nat) : Nat :=
  (List.range 11).foldl (fun a n => if !s.bit (LN_CTRL n) 0 || bitAt mask n then a + 2 ^ n else a) 0

/-- The refusals of LINK_ENABLE for lanes to be enabled or disabled. -/
def Hub.enableStatus (s : Hub) (mask : Nat) (en : Bool) : Option Nat :=
  let off := s.offLanes mask
  let keep := (List.range 6).foldl (fun a n => if bitAt s.streamLanes n && !bitAt off n then a + 2 ^ n else a) 0
  checks [(s.modeIn [mRUN, mPULSE], stBAD_MODE), (!en && bitAt off 8 && bitAt off 10, stDENIED),
    (!en && decide (mask % 64 &&& s.streamLanes ≠ 0) && !admitted s.turnLen keep s.rateSet s.allowSet, stNOT_ADMITTED)]

/-- Full training of a lane on request (R274). -/
def Hub.retrain (s : Hub) (n : Nat) : Hub := if s.bit (LN_CTRL n) 0 then s.enterFor n lsDETECT 8 else s

/-- LINK_RETRAIN is refused for TX6 in RUN and PULSE. -/
def Hub.retrainBad (s : Hub) (mask : Nat) : Bool := bitAt mask 6 && s.modeIn [mRUN, mPULSE]

/-- Set STREAM_LANES; D follows the change of the set. -/
def Hub.setStreamLanes (s : Hub) (v : Nat) : Hub := ((s.setFld MSH_CTRL 5 0 v).mshCheck).assignPool

/-- The refusals of LINK_SET_STREAM. -/
def Hub.streamStatus (s : Hub) (v : Nat) : Option Nat :=
  checks [(v = 0 ∨ v > 63, stBAD_ARG), (¬ s.modeIn [mIDLE, mPREPARE, mHOLD, mTEST], stBAD_MODE),
    (¬ admitted s.turnLen v s.rateSet s.allowSet, stNOT_ADMITTED)]

/-! ### LINK commands (R292, R293) -/

def linkStatusBody (p : List Byte) (s : Hub) : Reply × Hub :=
  guarded [(p.length ≠ 0, stBAD_LEN)] s fun s =>
  okay (words (((List.range 11).flatMap fun n => [s.reg (LN_STATUS n), s.reg (LN_EVENTS n)]) ++ [s.mshStatus, s.mshAdmit, s.mshBuf])) s

def maskBad (m : Nat) : Bool := decide (m = 0) || decide (m ≥ 2048)

def linkEnableBody (p : List Byte) (s : Hub) : Reply × Hub :=
  let m := pl p 0 2
  let en := pl p 2 1
  guarded [(p.length ≠ 4, stBAD_LEN), (maskBad m ∨ en > 1 ∨ ¬ plZero p 3 1, stBAD_ARG)] s fun s =>
  match s.enableStatus m (en == 1) with
  | some st => fail st s
  | none => okay [] ((lanesOf m).foldl (fun s n => s.setLaneEn n (en == 1)) s)

def linkRetrainBody (p : List Byte) (s : Hub) : Reply × Hub :=
  let m := pl p 0 2
  guarded [(p.length ≠ 4, stBAD_LEN), (maskBad m ∨ ¬ plZero p 2 2, stBAD_ARG), (s.retrainBad m, stBAD_MODE)] s fun s =>
  okay [] ((lanesOf m).foldl Hub.retrain s)

/-- Set TURN_ADJ (RX0 and RX2 only) and BLIND_LIMIT. -/
def Hub.setTiming (s : Hub) (n adj blind : Nat) : Hub :=
  let s := s.setFld (LN_TIMING n) 12 0 blind
  if n = 8 ∨ n = 10 then s.setFld (LN_TIMING n) 21 16 adj else s

def linkConfigBody (p : List Byte) (s : Hub) : Reply × Hub :=
  let m := pl p 0 2
  let pre := pl p 2 1
  let adj := pl p 3 1
  let blind := pl p 4 2
  guarded [(p.length ≠ 8, stBAD_LEN),
    (m ≥ 2048 ∨ pre > 1 ∨ adj > 63 ∨ blind < 64 ∨ blind > 4096 ∨ ¬ plZero p 6 2, stBAD_ARG), (s.modeIn [mRUN, mPULSE], stBAD_MODE)] s fun s =>
  okay [] ((lanesOf m).foldl (fun s n => (s.setBit (LN_CTRL n) 1 (pre == 1)).setTiming n adj blind) s)

/-- LN_TXEQ of three taps. -/
def txeqWord (pre main post : Nat) : Nat := post * 2 ^ 16 + main * 2 ^ 8 + pre

def linkSetTxeqBody (p : List Byte) (s : Hub) : Reply × Hub :=
  let n := pl p 0 1
  let a := pl p 1 1
  let b := pl p 2 1
  let c := pl p 3 1
  guarded [(p.length ≠ 4, stBAD_LEN), (n > 7 ∨ a > 15 ∨ b > 63 ∨ c > 31 ∨ a + b + c > 63, stBAD_ARG),
    (¬ s.modeIn [mIDLE, mTEST], stBAD_MODE)] s fun s =>
  okay [] (s.setReg (LN_TXEQ n) (txeqWord a b c))

def linkSetStreamBody (p : List Byte) (s : Hub) : Reply × Hub :=
  let v := pl p 0 1
  guarded [(p.length ≠ 4, stBAD_LEN), (¬ plZero p 1 3, stBAD_ARG)] s fun s =>
  match s.streamStatus v with
  | some st => fail st s
  | none =>
    let s := s.setStreamLanes v
    okay (leBytes 2 s.demandNow ++ leBytes 2 (capSum v - capMax v)) s

def linkTestBody (p : List Byte) (s : Hub) : Reply × Hub :=
  let m := pl p 0 2
  let v := pl p 2 1
  guarded [(p.length ≠ 4, stBAD_LEN), (m ≥ 2048 ∨ v > 3 ∨ ¬ plZero p 3 1, stBAD_ARG), (s.mode ≠ mTEST, stBAD_MODE)] s fun s =>
  okay [] ((lanesOf m).foldl (fun s n => s.setFld (LN_CTRL n) 11 8 v) s)

def linkGetCountersBody (p : List Byte) (s : Hub) : Reply × Hub :=
  let n := pl p 0 1
  guarded [(p.length ≠ 4, stBAD_LEN), (n > 10 ∨ ¬ plZero p 1 3, stBAD_ARG)] s fun s =>
  okay (words [s.reg (LN_CNT0 n), s.reg (LN_CNT1 n), s.reg (LN_CNT2 n), s.reg (LN_CNT3 n), s.reg (LN_EVENTS n), s.reg (LN_TEST n),
    s.reg (LN_TXEQ n), s.reg (LN_RXEQ n), s.reg (LN_PARTNER n)]) s

def execLinkStatus (h : Hdr) (p : List Byte) := lift fun s => s.command 0x0A01 h p (linkStatusBody p)
def execLinkEnable (h : Hdr) (p : List Byte) := lift fun s => s.command 0x0A02 h p (linkEnableBody p)
def execLinkRetrain (h : Hdr) (p : List Byte) := lift fun s => s.command 0x0A03 h p (linkRetrainBody p)
def execLinkConfig (h : Hdr) (p : List Byte) := lift fun s => s.command 0x0A04 h p (linkConfigBody p)
def execLinkSetTxeq (h : Hdr) (p : List Byte) := lift fun s => s.command 0x0A05 h p (linkSetTxeqBody p)
def execLinkSetStream (h : Hdr) (p : List Byte) := lift fun s => s.command 0x0A06 h p (linkSetStreamBody p)
def execLinkTest (h : Hdr) (p : List Byte) := lift fun s => s.command 0x0A07 h p (linkTestBody p)
def execLinkGetCounters (h : Hdr) (p : List Byte) := lift fun s => s.command 0x0A08 h p (linkGetCountersBody p)

/-- LN_CTRL_RETRAIN: a write of LN_CTRL.RETRAIN acts as LINK_RETRAIN of the lane (R290). -/
def Hub.ctrlRetrain (s : Hub) (n : Nat) : Hub := if s.retrainBad (2 ^ n) then s else s.retrain n
def execLnCtrlRetrain (lane : Fin 11) := lift fun s => s.ctrlRetrain lane.val

end Sys2Proof.Machine
end

