-- ==== Sys2Proof/Machine/Mailbox.lean ====
section
/-! DEFINITION. Receiving commands, the sequence rules, held commands, time limits, the CSPI port and the SYS commands
(17_control_protocol.md). -/

namespace Sys2Proof.Machine

/-! ### Views (R439) -/

/-- Deferred commands outstanding, of all sources or of one. A command carried out on both hubs
counts as outstanding. (Log entry 16: DEDUCED, unsafe) -/
def Hub.deferredOf (s : Hub) (own : Hdr → Bool) : Nat :=
  (s.mbx.deferred.filter fun d => own d.hdr).length + (s.mbx.both.filter fun b => b.waits && own b.hdr).length

/-- A message of S40 that leaves over CSPI. -/
def Item.isCspi : Item → Bool
  | .ev _ _ cspi _ => cspi
  | .added _ _ _ _ _ => true
  | _ => false

/-- MBX_STATUS and MBX_SRC[k] as they read. -/
def Hub.mbxStatus (s : Hub) : Nat :=
  b2n s.linkPaused * 2 ^ 16 + s.deferredOf (fun _ => true) * 2 ^ 8 + b2n ((s.items 40).any Item.isCspi) * 2 + b2n (!(s.items 37).isEmpty)

def Hub.mbxSrc (s : Hub) (k : Nat) : Nat :=
  b2n (s.bit (MBX_SRC k) 31) * 2 ^ 31 + s.deferredOf (fun h => h.src.val == k) * 2 ^ 20 +
    (s.mbx.held.filter fun x => x.1.src == k).length % 8 * 2 ^ 16 + s.fld (MBX_SRC k) 15 0

/-! ### Checks of a message (R413, R416) -/

/-- The source of a command siding (R411). -/
def sourceOf (port : Nat) : Nat := if port = 34 then 1 else if port = 35 then 2 else 0

/-- A command message, envelope first, as it arrives in a siding. -/
def parseCmd (port : Nat) (m : List Byte) : Cmd :=
  { port := port, src := sourceOf port, seq := pl m 4 2, op := pl m 6 2, flags := pl m 10 1, target := pl m 11 1, crc := pl m 12 2,
    payload := (m.drop 20).take (pl m 8 2) }

/-- The CRC that a message should carry (R414). -/
def messageCrc (m : List Byte) : Nat :=
  crc16 ((m.drop 4).take 8 ++ [0, 0] ++ (m.drop 14).take 6 ++ (m.drop 20).take (pl m 8 2))

/-- Steps 1 to 3 of R416 on a message of at least 20 bytes. -/
def messageStatus (m : List Byte) : Option Nat :=
  checks [(pl m 8 2 > 1024 ∨ pl m 2 2 ≠ 20 + up4 (pl m 8 2) ∨ m.length ≠ pl m 2 2, stBAD_LEN), (pl m 12 2 ≠ messageCrc m, stBAD_CRC),
    (pl m 10 1 > 1 ∨ pl m 11 1 > 1 ∨ ¬ plZero m 14 6, stBAD_ARG)]

/-- Answer a command without running it. -/
def Hub.turnAway (s : Hub) (c : Cmd) (status disp : Nat) : Hub :=
  s.sendResp { src := c.src, seq := c.seq, op := c.op, status := status, target := c.target, crc := c.crc, disp := disp, payload := [] }

/-- Take the command that came last out of its siding, not to be executed. -/
def Hub.dropCmd (s : Hub) (c : Cmd) : Hub := s.sidMark c.port (goneLast (· == .cmd c))

/-! ### Sequence rules (R417, R418) -/

/-- Consume a command, and after it the held ones that follow in SEQ order. -/
def Hub.consume : Nat → Hub → Cmd → Hub
  | 0, s, _ => s
  | f + 1, s, c =>
    let r := MBX_SRC c.src
    let s := ((s.setFld r 15 0 c.seq).setBit r 31 true).incWrap MBX_CNT0 31 16
    let s := { s with mbx := { s.mbx with taken := s.mbx.taken ++ [c], recent := consumed s.mbx.recent c.cmdKey } }
    match s.mbx.held.find? fun x => x.1.src == c.src && x.1.seq == (c.seq + 1) % 2 ^ 16 with
    | none => s
    | some x => Hub.consume f { s with mbx := { s.mbx with held := s.mbx.held.erase x } } x.1

/-- A duplicate of one of the last 8 consumed commands of its source is answered from store, or not at all while the original has not
completed. -/
def Hub.duplicate (s : Hub) (c : Cmd) : Hub :=
  let s := s.dropCmd c
  if ¬ s.mbx.recent.contains c.cmdKey then s.turnAway c stBAD_ARG 3
  else match s.mbx.stored.reverse.find? fun (r : Resp) => r.cmdKey == c.cmdKey with
    | some r => (s.incSat MBX_CNT1 31 16).sendResp { r with disp := 1 }
    | none => s.incSat MBX_CNT1 31 16

/-- Step 4 of R416 for a command in its siding. -/
def Hub.sequence (s : Hub) (c : Cmd) : Hub :=
  let r := MBX_SRC c.src
  let d := (c.seq + 2 ^ 16 - s.fld r 15 0) % 2 ^ 16
  let s :=
    if c.flags % 2 = 1 ∨ ¬ s.bit r 31 ∨ d = 1 then Hub.consume 9 s c
    else if 2 ≤ d ∧ d ≤ 8 then
      match s.mbx.held.find? fun x => x.1.src == c.src && x.1.seq == c.seq with
      | none => { s with mbx := { s.mbx with held := s.mbx.held ++ [(c, s.xo)] } }
      | some x => if x.1.crc = c.crc then (s.dropCmd c).incSat MBX_CNT1 31 16 else (s.dropCmd c).turnAway c stBAD_ARG 3
    else if d = 0 ∨ d ≥ 65529 then s.duplicate c
    else (s.dropCmd c).turnAway c stBAD_ARG 3
  Hub.rejectUnknown (s.mbx.taken.length + 1) s

/-! ### Arrival (R411, R412, R416, R422, R436, R458) -/

/-- Commands that arrive in this siding are taken in the present mode. (Log entry 12: DEDUCED, unsafe) -/
def Hub.takesFrom (s : Hub) (port : Nat) : Bool :=
  if s.mode = mDORMANT ∨ ¬ s.bit RP_PD_STATUS 1 then false else if s.mode = mLOADING then sourceOf port == s.bootSource && port != 33 else true

/-- The Signal Box reads the entry of a command that came last (R390); of one that it cannot read it requests a software reset. -/
def Hub.readCmd (s : Hub) (c : Cmd) : Bool × Hub :=
  let xs := s.items c.port
  match s.readEntry c.port (xs.length - 1 - xs.reverse.findIdx (· == .cmd c)) 0 with
  | (true, s) => (true, s)
  | (false, s) => (false, s.fwGivesUp)

/-- The Signal Box examines a command in its siding: what steps 1 to 3 of R416 find, then step 4. -/
def Hub.examine (s : Hub) (c : Cmd) (found : Option Nat) : Hub :=
  match s.readCmd c with
  | (false, s) => s
  | (true, s) =>
    match found with
    | some st => ((if st = stBAD_ARG then s else s.incSat MBX_CNT0 15 0).dropCmd c).turnAway c st 3
    | none => s.sequence c

/-- COMMAND_RECEIVE: a message of KIND 0x20 arrives on RX0 (port 32), RX2 (33), CSPI (34) or RX1 (35). (Log entry 11: DEDUCED, unsafe) -/
def Hub.receiveCommand (s : Hub) (port : Nat) (m : List Byte) : Hub :=
  if ¬ s.takesFrom port then s
  else if m.length < 20 ∨ pl m 2 2 < 20 then s.incSat MBX_CNT0 15 0
  else
    let c := parseCmd port m
    match s.sidPush port (.cmd c) with
    | (s, false) => (s.incSat MBX_CNT2 15 0).turnAway c stBUSY 3
    | (s, true) =>
      if c.src = 0 ∧ s.linkPaused then { s with mbx := { s.mbx with waiting := s.mbx.waiting ++ [(c, messageStatus m)] } }
      else s.examine c (messageStatus m)

def execCommandReceive (port : Fin 4) (m : List Byte) := lift fun s => s.receiveCommand (32 + port.val) m

/-- Commands of source 0 that arrived while it was paused are examined once the Dispatcher runs again. (Log entry 13: DEDUCED, safe) -/
def Hub.resumeLink (s : Hub) : Hub :=
  if s.linkPaused then s
  else
    let s := s.mbx.waiting.foldl (fun s x => s.examine x.1 x.2) { s with mbx := { s.mbx with waiting := [] } }
    Hub.rejectUnknown (s.mbx.taken.length + 1) s

/-- Frame-tick work: the timers of source 0 stop while it is paused. -/
def Hub.mbxTick (s : Hub) (xo : Nat) : Hub :=
  if s.linkPaused then
    { s with mbx := { s.mbx with held := s.mbx.held.map fun x => if x.1.src = 0 then (x.1, x.2 + xo) else x } }
  else s.resumeLink

/-- HELD_COMMAND_TIMEOUT: a command held for GAP_WAIT × 100 µs is answered TIMEOUT with DISPOSITION 2 and discarded. -/
def Hub.heldTimeout (s : Hub) (src seq : Nat) : Hub :=
  match s.mbx.held.find? fun x => x.1.src == src && x.1.seq == seq with
  | none => s
  | some x =>
    if (src = 0 ∧ s.linkPaused) ∨ s.xo < x.2 + s.fld MBX_CTRL 15 8 * 100 * xoUs then s
    else (({ s with mbx := { s.mbx with held := s.mbx.held.erase x } }.dropCmd x.1).incSat MBX_CNT1 15 0).turnAway x.1 stTIMEOUT 2

def execHeldCommandTimeout (src : Fin 3) (seq : BitVec 16) := lift fun s => s.heldTimeout src.val seq.toNat

/-- The time limit of a deferred command in XO cycles (R211, R260, R325, R368). A command forwarded under R325 times out only if TX7
has sent no pair carriage since it started. -/
def deferLimit (sent : Nat) (d : Def) : Option Nat :=
  if d.hdr.target = 1 then (if loadingCmd d.op ∧ sent < d.since then some xoMs else none)
  else if d.op = 0x0704 ∨ d.op = 0x0904 then some xoMs
  else if d.op = 0x0D05 then some (2000 * xoMs)
  else none

/-- The limit of a deferred command as it stands: STREAM_SELFCHECK has none once an ingot of the group has closed (R260). -/
def Hub.limitOf (s : Hub) (d : Def) : Option Nat :=
  if d.op = 0x0904 ∧ d.hdr.target ≠ 1 ∧ (s.codec (d.arg - 16)).met then none else deferLimit s.pr.sentXo d

/-- DEFERRED_COMMAND_TIMEOUT: a deferred command past its limit returns TIMEOUT; a self-check asked for is no longer pending. -/
def Hub.deferredTimeout (s : Hub) (src seq : Nat) : Hub :=
  let late := fun (d : Def) => d.hdr.src.val == src && d.hdr.seq.toNat == seq &&
    (match s.limitOf d with | some l => decide (d.since + l ≤ s.xo) | none => false)
  match s.mbx.deferred.find? late with
  | none => s
  | some d =>
    let s := if d.op = 0x0904 then s.setCodec (d.arg - 16) { s.codec (d.arg - 16) with asked := false } else s
    s.completeAny (· == d) stTIMEOUT []

def execDeferredCommandTimeout (src : Fin 3) (seq : BitVec 16) := lift fun s => s.deferredTimeout src.val seq.toNat

/-! ### The CSPI port (R429, R430) -/

/-- CSPI_WRITE_MSG: one transaction of these bytes after the instruction byte. -/
def Hub.cspiWrite (s : Hub) (m : List Byte) : Hub :=
  if s.mode = mDORMANT ∨ ¬ s.bit RP_PD_STATUS 1 then s
  else if m.length < 4 ∨ m.length ≠ pl m 2 2 then s.incSat MBX_CNT0 15 0
  else if pl m 0 1 = kPadding then s
  else if pl m 0 1 ≠ kCommand then s.incSat MBX_CNT0 15 0
  else s.receiveCommand 34 m

def execCspiWriteMsg (m : List Byte) := lift fun s => s.cspiWrite m

/-- The message that READ_MSG sends: the one queued first of S37 and S40. -/
def Hub.cspiNext (s : Hub) : Option Item :=
  match (s.items 37).head?, (s.items 40).find? Item.isCspi with
  | some a, some b => some (if a.stamp < b.stamp then a else b)
  | some a, none => some a
  | none, b => b

/-- The siding and the place in it of the message that READ_MSG sends. -/
def Hub.cspiPlace (s : Hub) (it : Item) : Nat × Nat :=
  if (s.items 37).head? = some it then (37, 0) else (40, (s.items 40).findIdx (· == it))

/-- The data that the CSPI port sends. (Log entry 213: DESIGN CHOICE, unsafe) -/
def Hub.cspiShow (s : Hub) (m : List Byte) : Hub := { s with mbx := { s.mbx with cspiOut := m } }

/-- The padding message that READ_MSG sends when nothing waits. -/
def cspiPadding : List Byte := envelope kPadding 8 ++ [0, 0, 0, 0]

/-- CSPI_READ_MSG: the host clocks out `n` bytes; a message is read when all of it has been sent. An entry that the host bridge cannot
read is discarded, and the one after it is sent. (Log entry 205: DEDUCED, unsafe) -/
def Hub.cspiSend : Nat → Hub → Nat → Hub
  | 0, s, _ => s
  | f + 1, s, n =>
    match s.cspiNext with
    | none => s.cspiShow (cspiPadding.take n)
    | some it =>
      let (q, i) := s.cspiPlace it
      match s.readMsg q i 3 it with
      | (false, s) => Hub.cspiSend f s n
      | (true, s) =>
        let m := s.itemMsg it
        let s := s.cspiShow (m.take n)
        if n < m.length then s else if q = 40 then s.eventLeft it false true else s.sidPop 37

def Hub.cspiRead (s : Hub) (n : Nat) : Hub := if s.mode = mDORMANT ∨ ¬ s.bit RP_PD_STATUS 1 then s else Hub.cspiSend 129 s n

def execCspiReadMsg (n : Nat) := lift fun s => s.cspiRead n

/-- CSPI_READ_STATUS: the transaction sends the four bytes of MBX_STATUS. -/
def Hub.cspiStatus (s : Hub) : Hub := if s.mode = mDORMANT ∨ ¬ s.bit RP_PD_STATUS 1 then s else s.cspiShow (leBytes 4 s.mbxStatus)

def execCspiReadStatus := lift Hub.cspiStatus

/-! ### SYS commands and MODE_GET (R440, R442) -/

/-- SYS_PREP as it reads is kept in its register by the mode logic. -/
def sysInfoBody (p : List Byte) (s : Hub) : Reply × Hub :=
  guarded [(p.length ≠ 0, stBAD_LEN)] s fun s =>
  okay (words [s.reg SYS_ID, s.reg SYS_FW, s.reg SYS_STRAPS] ++ leBytes 8 Config.deviceId.toNat ++ leBytes 4 (s.reg RP_RST_CAUSE)) s

def sysEchoBody (p : List Byte) (s : Hub) : Reply × Hub := okay p s

def sysEventsBody (p : List Byte) (s : Hub) : Reply × Hub :=
  let m := pl p 0 4
  let f := pl p 4 1
  guarded [(p.length ≠ 8, stBAD_LEN), (m ≥ 2 ^ 20 ∨ m % 2 = 1 ∨ f > 3 ∨ ¬ plZero p 5 3, stBAD_ARG)] s fun s =>
  okay [] ((s.setReg MBX_EVT_MASK m).setFld MBX_CTRL 1 0 f)

def sysCountersBody (p : List Byte) (s : Hub) : Reply × Hub :=
  guarded [(p.length ≠ 0, stBAD_LEN)] s fun s =>
  okay (words [s.mbxStatus, s.mbxSrc 0, s.mbxSrc 1, s.mbxSrc 2, s.reg MBX_CNT0, s.reg MBX_CNT1, s.reg MBX_CNT2]) s

def execSysInfo (h : Hdr) (p : List Byte) := lift fun s => s.command 0x0101 h p (sysInfoBody p)
def execSysEcho (h : Hdr) (p : List Byte) := lift fun s => s.command 0x0103 h p (sysEchoBody p)
def execSysEvents (h : Hdr) (p : List Byte) := lift fun s => s.command 0x0104 h p (sysEventsBody p)
def execSysCounters (h : Hdr) (p : List Byte) := lift fun s => s.command 0x0105 h p (sysCountersBody p)

/-- SYS_MODE_CROSSING_READ: the read latches SYS_MODE_TURN. -/
def Hub.readModeCrossing (s : Hub) : Hub := s.latchTurn SYS_MODE_TURN

def execSysModeCrossingRead := lift Hub.readModeCrossing

end Sys2Proof.Machine
end

