-- ==== Sys2Proof/Machine/Time.lean ====
section
/-! DEFINITION. Time messages, the servo, steps, holdover, sampling phase and the TIME commands (12_time.md). The counter and
its captures are in Timetable.lean. Times are in 1/256 ns modulo 2^72. -/

namespace Sys2Proof.Machine

/-- The signed difference of two captures. -/
def timeDiff (a b : Nat) : Int := toS 72 ((a + 2 ^ 72 - b % 2 ^ 72) % 2 ^ 72)

/-- A time in 1/256 ns as picoseconds, and a signed value saturated to 32 bits. -/
def toPs (v : Int) : Int := rdiv (v * 1000) 256

/-- A JOINED follower takes its time from RX1 (R330). -/
def Hub.slaved (s : Hub) : Bool := s.bit PAIR_STATUS 8

/-- The time-source lane (R301, R330). -/
def Hub.timeLane (s : Hub) : Nat := if s.slaved then 9 else s.clockLane.getD 8

/-- The DOMAIN of the time source's messages (R302, R330). -/
def Hub.timeDomain (s : Hub) : Nat := if s.slaved then 0xFF else s.fld TM_CTRL 23 16

/-- TM_STATUS.STATE. -/
def Hub.servo (s : Hub) : Nat := s.fld TM_STATUS 2 0
def Hub.setServo (s : Hub) (v : Nat) : Hub := s.setFld TM_STATUS 2 0 v

/-- Modes in which the counter may be stepped and a phase target is acquired at once (R307, R311); LOADING is taken like them.
(Log entry 92: DEDUCED, unsafe) -/
def Hub.stepMode (s : Hub) : Bool := !s.modeIn [mRUN, mPULSE]

/-! ### Holdover (R308, R309) -/

/-- Enter holdover from state 2 or 3. -/
def Hub.enterHoldover (s : Hub) (cause : Nat) : Hub :=
  if s.servo ≠ 2 ∧ s.servo ≠ 3 then s
  else
    let s := ((s.setServo 4).setFld TM_STATUS 6 5 cause).setReg TM_RATE (s.reg TM_INTEG)
    let s := { s with tm := { s.tm with holdXo := s.xo } }
    ((s.setReg TM_HOLD_AGE 0).showHoldover).emit 0x0B04 [1, cause]

/-- TM_HOLD_AGE counts milliseconds of the XO while in holdover. -/
def Hub.ageTick (s : Hub) : Hub :=
  if s.servo = 4 then s.setReg TM_HOLD_AGE (min (2 ^ 32 - 1) ((s.xo - s.tm.holdXo) / xoMs)) else s

/-- An accepted offset ends holdover. -/
def Hub.leaveHoldover (s : Hub) : Hub :=
  if s.servo = 4 then
    let s := s.ageTick
    (s.setServo 2).emit 0x0B04 [0, s.fld TM_STATUS 6 5, s.reg TM_HOLD_AGE]
  else s

/-- SYNC_TIMEOUT: no Follow_Up has been accepted for 2^SYNC_TO_LOG2 frames. -/
def Hub.syncTimeout (s : Hub) : Hub :=
  if s.tm.followAt + 2 ^ s.fld TM_CTRL 12 8 ≤ s.frame then s.enterHoldover 0 else s

def execSyncTimeout := lift Hub.syncTimeout

/-! ### The servo (R305-R307) -/

/-- Clamp to ±limit. -/
def clampTo (limit v : Int) : Int := max (-limit) (min limit v)

/-- One update of I and RATE with an offset in picoseconds. -/
def servoStep (i ki kp limit o : Int) : Int × Int :=
  let i' := clampTo limit (i - rdiv (ki * o) 16)
  (i', clampTo limit (i' - rdiv (kp * o) 16))

/-- I and RATE take an update. -/
def Hub.updateRate (s : Hub) (o : Int) : Hub :=
  let (i, r) := servoStep (toS 32 (s.reg TM_INTEG)) (s.fld TM_GAIN 15 0) (s.fld TM_GAIN 31 16) (s.reg TM_RATE_LIMIT) o
  (s.setReg TM_INTEG (ofS 32 i)).setReg TM_RATE (ofS 32 r)

/-- STATE of an enabled servo out of holdover: locked when the last 16 accepted offsets all lay within ±1000 ps (R306). -/
def Hub.servoState (s : Hub) : Nat := if s.tm.good ≥ 16 then 3 else if s.tm.accepted then 2 else 1

/-- An offset in ps has been accepted; 16 at most are counted that lay within ±1000 ps in a row (R306). -/
def Hub.countGood (s : Hub) (o : Int) : Hub :=
  { s with tm := { s.tm with good := if o.natAbs ≤ 1000 then min 16 (s.tm.good + 1) else 0, accepted := true } }

/-- In RUN and PULSE an offset above STEP_LIMIT acts by R305, and raises the alarm (R307). -/
def Hub.alarmOffset (s : Hub) (o : Int) : Hub := ((s.updateRate o).setBit TM_STATUS 8 true).emit 0x0B03 [sword (satS 32 o)]

/-- An offset `u` in 1/256 ns acts on the servo, or asks for a step. -/
def Hub.takeOffset (s : Hub) (u : Int) : Hub :=
  let o := toPs u
  let s := (s.setReg TM_OFFSET (ofS 32 (satS 32 o))).countGood o
  if ¬ s.bit TM_CTRL 3 then s
  else
    let s := s.leaveHoldover.setServo s.servoState
    let s := if decide (o.natAbs > s.fld TM_STEP 15 0 * 1000) then
        if s.stepMode then { s with tm := { s.tm with step := some (.inl (-u)), stepAt := s.frame } } else s.alarmOffset o
      else (s.updateRate o).setBit TM_STATUS 8 false
    s.showHoldover

/-! ### Messages (R300-R304) -/

/-- A message is discarded and counted (R302). -/
def Hub.discardTime (s : Hub) : Hub := s.incSat TM_COUNT 15 0

/-- A message of the time source: its lane, DOMAIN and VERSION fit. -/
def Hub.timeOk (s : Hub) (lane domain version : Nat) : Bool := lane == s.timeLane && domain == s.timeDomain && version == 2

/-- SYNC_RECEIVE: the capture of the carriage, less DELAY, is t2; an earlier Sync is abandoned. Without a capture the Sync straddles a
step or a change of lane, and gives no measurement. -/
def Hub.syncReceive (s : Hub) (lane domain version seq : Nat) (capture : Option Nat) : Hub :=
  if ¬ s.timeOk lane domain version then s.discardTime
  else { s with tm := { s.tm with sync := capture.map fun c => (seq, s.frame, (c + 2 ^ 72 - s.delayUnits lane) % 2 ^ 72) } }

/-- FOLLOW_UP_RECEIVE: ms = t2 - t1, and with a path delay an offset. `stamp` is t1 with its CORRECTION. -/
def Hub.followUp (s : Hub) (lane domain version seq stamp : Nat) : Hub :=
  match s.tm.sync with
  | some (q, f, t2) =>
    if ¬ s.timeOk lane domain version ∨ q ≠ seq ∨ s.frame > f + 1024 then s.discardTime
    else
      let ms := timeDiff t2 stamp
      let s := { s with tm := { s.tm with sync := none, ms := some ms, followAt := s.frame } }.incWrap TM_COUNT 31 16
      match s.tm.df with
      | some df => s.takeOffset (ms - rdiv df (2 ^ 16))
      | none => s
  | none => s.discardTime

/-- The filtered path delay after a new d, both with 16 more fraction bits. (Log entry 90: DESIGN CHOICE, unsafe) -/
def delayFilter (k : Nat) (df : Option Int) (d : Int) : Int := match df with | none => d | some v => v + fdiv (d - v) (2 ^ k : Nat)

/-- DELAY_RESP_RECEIVE: sm = t4 - t3 gives a new path delay. `stamp` is t4 with its CORRECTION. -/
def Hub.delayResp (s : Hub) (lane domain version seq stamp : Nat) : Hub :=
  match s.tm.dreq with
  | some (q, f, some t3) =>
    if ¬ s.timeOk lane domain version ∨ q ≠ seq ∨ s.frame > f + 1024 then s.discardTime
    else
      let sm := timeDiff stamp t3
      let s := { s with tm := { s.tm with dreq := none, respAt := s.frame } }.setBit TM_STATUS 7 false
      match s.tm.ms with
      | some ms =>
        let df := delayFilter (s.fld TM_CTRL 2 0) s.tm.df ((ms + sm) * 2 ^ 15)
        { s with tm := { s.tm with df := some df } }.setReg TM_PATH_DELAY (ofS 32 (satS 32 (toPs (rdiv df (2 ^ 16)))))
      | none => s
  | _ => s.discardTime

/-- A timestamp of a message with its CORRECTION. -/
def messageStamp (lo hi frac correction : Nat) : Nat :=
  ((((hi * 2 ^ 32 + lo) * 256 + frac : Nat) : Int) + toS 32 correction).emod (2 ^ 72) |>.toNat

/-- A capture that lies `after` (1/256 ns) from the tick that began the present frame. (Log entry 89: DEDUCED, safe) -/
def Hub.captureAt (s : Hub) (after : Int) : Nat := (((s.tm.now : Int) + after).emod (2 ^ 72)).toNat

def execSyncReceive (lane : Fin 11) (domain version : BitVec 8) (seq : BitVec 16) (after : Int) :=
  lift fun s => s.syncReceive lane.val domain.toNat version.toNat seq.toNat (some (s.captureAt after))

def execFollowUpReceive (lane : Fin 11) (domain version : BitVec 8) (seq : BitVec 16) (lo hi : BitVec 32) (frac : BitVec 8)
    (correction : BitVec 32) :=
  lift fun s => s.followUp lane.val domain.toNat version.toNat seq.toNat (messageStamp lo.toNat hi.toNat frac.toNat correction.toNat)

def execDelayRespReceive (lane : Fin 11) (domain version : BitVec 8) (seq : BitVec 16) (lo hi : BitVec 32) (frac : BitVec 8)
    (correction : BitVec 32) :=
  lift fun s => s.delayResp lane.val domain.toNat version.toNat seq.toNat (messageStamp lo.toNat hi.toNat frac.toNat correction.toNat)

/-- A time message as it arrives in a service stream, with the capture of the carriage in which it began (R300, R302). -/
def Hub.timeMessage (s : Hub) (lane : Nat) (m : List Byte) (capture : Option Nat) : Hub :=
  let ty := pl m 4 1
  let ver := pl m 5 1
  let seq := pl m 6 2
  let dom := pl m 17 1
  let stamp := messageStamp (pl m 8 4) (pl m 12 4) (pl m 16 1) (pl m 20 4)
  if m.length ≠ 24 then s.discardTime
  else if ty = 0x00 then s.syncReceive lane dom ver seq capture
  else if ty = 0x08 then s.followUp lane dom ver seq stamp
  else if ty = 0x09 then s.delayResp lane dom ver seq stamp
  else s.discardTime

/-- A Delay_Req message. -/
def delayReqMsg (seq domain : Nat) : List Byte :=
  envelope kTime 24 ++ [1, 2] ++ leBytes 2 seq ++ List.replicate 9 0 ++ [BitVec.ofNat 8 domain] ++ List.replicate 6 0

/-- DELAY_REQ_SEND: one is due every DREQ_PERIOD × 1024 frames while the lane it leaves on is ACTIVE: TX0, in a JOINED follower
TX7 (R303, R330). -/
def Hub.delayReqSend (s : Hub) : Hub :=
  let n := if s.slaved then 7 else 0
  if s.laneState n ≠ lsACTIVE ∨ s.frame < s.tm.dreqAt + s.fld TM_STEP 31 16 * 1024 then s
  else
    let q := s.tm.dreqSeq
    let x := s.lane n
    let it : TxItem := { typ := tySERVICE, bytes := delayReqMsg q s.timeDomain, timed := some q }
    { s.setLane n { x with service := x.service ++ [it] } with tm := { s.tm with
        dreq := some (q, s.frame, none), dreqSeq := (q + 1) % 2 ^ 16, dreqAt := s.frame } }

def execDelayReqSend := lift Hub.delayReqSend

/-- DELAY_STALE: no Delay_Resp has been accepted within 16 periods. -/
def Hub.delayStale (s : Hub) : Hub :=
  if s.tm.respAt + 16 * s.fld TM_STEP 31 16 * 1024 ≤ s.frame then s.setBit TM_STATUS 7 true else s

def execDelayStale := lift Hub.delayStale

/-! ### Steps, wraps and epoch markers (R294, R298, R307) -/

/-- Set the 64-bit count with its fraction, in 1/256 ns. -/
def Hub.setCounter (s : Hub) (v : Nat) : Hub :=
  let v := v % 2 ^ 72
  let low := s.tm.cnt % 2 ^ 24
  { s with tm := { s.tm with epoch := v / 2 ^ 40, cnt := v % 2 ^ 40 * 2 ^ 24 + low } }

/-- Answer the TIME_GET commands that wait for this tick. -/
def Hub.answerTime (s : Hub) : Hub :=
  let t := s.tm.now
  s.complete (fun d => d.op == 0x0B06 && d.arg < s.frame) stOK
    (crossPayload s.tt.crossing s.tt.turn ++ words [t / 256 % 2 ^ 32, t / 2 ^ 40, t % 256, s.reg TM_SEC, s.reg TM_STATUS])

/-- A step that RUN or PULSE overtook is not made: an offset acts as it does there (R307). (Log entry 203: DESIGN CHOICE, unsafe) -/
def Hub.missStep (s : Hub) (st : Int ⊕ Nat) : Hub :=
  let s := { s with tm := { s.tm with step := none } }
  (match st with | .inl d => if s.bit TM_CTRL 3 then s.alarmOffset (toPs (-d)) else s | .inr _ => s).answerTime

/-- TIME_STEP_APPLY: at the frame tick after it was asked for, the counter is stepped; t(N) of the tick is already stepped,
and measurements that straddle the step are discarded. In RUN and PULSE the hub never steps. -/
def Hub.timeStepApply (s : Hub) : Hub :=
  match s.tm.step with
  | none => s
  | some st =>
    if s.frame ≤ s.tm.stepAt then s
    else if ¬ s.stepMode then s.missStep st
    else
      let old := s.tm.now
      let new := match st with | .inl d => (((old : Int) + d).emod (2 ^ 72)).toNat | .inr v => v % 2 ^ 72
      let full := (s.timeFull / 2 ^ 32) % 2 ^ 72
      let s := (s.setCounter (full + new + 2 ^ 72 - old)).dropMeasurements
      let s := { s with
        tm := { s.tm with now := new, step := none, epochDue := true, epochAt := (s.tt.crossing, s.tt.turn) }
        hist := match s.hist with | r :: t => (if r.n = s.frame then { r with stamp := new } else r) :: t | [] => [] }
      let s := s.incSat TM_STEPS 15 0
      let s := s.emit 0x0B02 [new / 256 % 2 ^ 32, new / 2 ^ 40, sword (satS 32 (rdiv (timeDiff new old) 256)), s.tt.crossing, s.tt.turn]
      s.answerTime

def execTimeStepApply := lift Hub.timeStepApply

/-- TIME_NS_WRAP: TIME_NS has wrapped, and EPOCH takes 1 more. -/
def Hub.nsWrapTake (s : Hub) : Hub :=
  if s.tm.cnt < nsWrap then s
  else { s with tm := { s.tm with
      cnt := s.tm.cnt - nsWrap, epoch := (s.tm.epoch + 1) % 2 ^ 32, epochDue := true, epochAt := (s.tt.crossing, s.tt.turn) } }

def execTimeNsWrap := lift Hub.nsWrapTake

/-- Firmware brings TM_SEC up to date: the whole seconds at the instant TIME_NS last wrapped (R298). -/
def Hub.holdSec (s : Hub) : Hub := s.setReg TM_SEC (s.tm.epoch * 2 ^ 32 / 10 ^ 9)

/-- EV_TIME_EPOCH of R298 with the crossing and turn given, TM_SEC brought up to date with it. -/
def Hub.epochMarker (s : Hub) (c t : Nat) : Hub :=
  let ns := s.tm.epoch * 2 ^ 32
  let s := { s.holdSec with tm := { s.tm with epochDue := false } }
  s.emit 0x0B01 [s.tm.epoch, ns / 10 ^ 9 % 2 ^ 32, ns % 10 ^ 9, c, t, s.reg TM_STATUS]

/-- EV_TIME_EPOCH: the marker due after a wrap or a step. -/
def Hub.epochEvent (s : Hub) : Hub := if s.tm.epochDue ∧ s.fwRuns then s.epochMarker s.tm.epochAt.1 s.tm.epochAt.2 else s

def execEvTimeEpoch := lift Hub.epochEvent

/-- TM_NOW_LO_READ: the read returns TIME_NS and latches EPOCH and FRAC for the reading master (R297). -/
def Hub.readNow (s : Hub) (master : Nat) : Hub :=
  let v := s.timeFull / 2 ^ 32
  { s with tm := { s.tm with latches := tset (fun _ => (0, 0)) s.tm.latches master (v / 2 ^ 40 % 2 ^ 32, v % 256) } }

def Hub.nowLo (s : Hub) : Nat := s.timeFull / 2 ^ 40 % 2 ^ 32
def Hub.latchOf (s : Hub) (master : Nat) : Nat × Nat := tget (fun _ => (0, 0)) s.tm.latches master

def execTmNowLoRead (master : Fin 6) := lift fun s => s.readNow master.val

/-! ### Sampling phase (R310-R312) -/

/-- The frame period against the counter: ticks and their distance over the records held, at most 128 frames. (Log entry 91: DESIGN CHOICE, unsafe) -/
def Hub.framePeriod (s : Hub) : Nat × Nat :=
  let h := s.hist.take 129
  match h.head?, h.getLast? with
  | some a, some b => (a.n - b.n, a.raw - b.raw)
  | _, _ => (0, 0)

/-- phi of R310 in 2^-12 step for an offset `x` in 1/256 ns and `k` frames that last `d`. -/
def phiOf (x : Int) (k d : Nat) : Nat := ((x * k).emod (d : Int)).toNat * (1024 * 2 ^ 12) / d

/-- In every frame with PHASE_MODE = 1 and the servo in state 2 or 3, phi of the last time-source carriage is gathered. -/
def Hub.phaseTick (s : Hub) : Hub :=
  let (k, d) := s.framePeriod
  match s.tm.arrival, s.tm.df with
  | some a, some df =>
    if ¬ s.bit TM_CTRL 4 ∨ (s.servo ≠ 2 ∧ s.servo ≠ 3) ∨ k = 0 ∨ d = 0 then s
    else
      let x := timeDiff s.tm.now a + rdiv df (2 ^ 16)
      { s with tm := { s.tm with phiSum := s.tm.phiSum + phiOf x k d, phiCnt := s.tm.phiCnt + 1 } }
  | _, _ => s

/-- P* in 1/16 step; in a JOINED follower the leader's phase stands for PHASE_OFS (R331). -/
def Hub.targetOf (s : Hub) (mean : Nat) : Nat := ((if s.slaved then s.pr.farPhase else s.fld TM_PHASE 25 16) * 16 + 16384 - mean % 16384) % 16384

/-- P* - PHASE taken circularly, in 1/16 step. -/
def phaseErr (target phase : Nat) : Int := toS 14 ((target + 16384 - phase * 16 % 16384) % 16384)

/-- TM_PHASE_ERR follows the target and PHASE. -/
def Hub.showErr (s : Hub) : Hub :=
  match s.tm.target with
  | some t => s.setReg TM_PHASE_ERR (ofS 16 (phaseErr t (s.fld TM_PHASE 9 0)))
  | none => s

/-- PHASE_TARGET_UPDATE: every 1024 frames the target is set from the mean phi. In the modes of R311 it is acquired at once,
at the next tick. -/
def Hub.phaseTarget (s : Hub) : Hub :=
  if s.tm.phiCnt < 1024 then s
  else
    let mean := ((s.tm.phiSum / s.tm.phiCnt + 128) / 256) % 16384
    ({ s with tm := { s.tm with
        phiSum := 0, phiCnt := 0, mean := mean, target := some (s.targetOf mean), acquire := s.stepMode } }).showErr

def execPhaseTargetUpdate := lift Hub.phaseTarget

/-- The passage of PHASE between 1023 and 0, by the shorter way, from `p` to `v` (R312). -/
def phaseWrap (p v : Nat) : Int :=
  let q := (p : Int) + toS 10 ((v + 1024 - p) % 1024)
  if q ≥ 1024 then 1 else if q < 0 then -1 else 0

/-- PHASE takes the target P*, rounded, at once; WRAP gathers the passages until a TIME_PHASE reports them (R311, R312).
(Log entry 95: DEDUCED, unsafe) -/
def Hub.acquirePhase (s : Hub) (t : Nat) : Hub :=
  let p := s.fld TM_PHASE 9 0
  let v := (rdiv t 16).toNat % 1024
  ({ s.setFld TM_PHASE 9 0 v with tm := { s.tm with acquire := false, wrap := s.tm.wrap + phaseWrap p v } }).showErr

/-- PHASE_SLEW_STEP: an acquisition, or in RUN and PULSE one step toward a target at least 0.75 step away, once per slew period;
beyond the wrap PHASE stays at the rail (R311, R312). PHASE is frozen in holdover. -/
def Hub.phaseSlew (s : Hub) : Hub :=
  match s.tm.target with
  | none => s
  | some t =>
    if ¬ s.bit TM_CTRL 4 ∨ (s.servo ≠ 2 ∧ s.servo ≠ 3) then s
    else if s.stepMode then (if s.tm.acquire then s.acquirePhase t else s)
    else
      let p := s.fld TM_PHASE 9 0
      let e := phaseErr t p
      if e.natAbs < 12 ∨ s.frame < s.tm.slewAt + 2 ^ s.fld TM_PHASE 15 12 then s
      else
        let s := { s with tm := { s.tm with slewAt := s.frame } }
        let rail := (e > 0 ∧ p = 1023) ∨ (e < 0 ∧ p = 0)
        if rail then
          if s.bit TM_STATUS 9 then s else (s.setBit TM_STATUS 9 true).emit 0x0B05 [p]
        else ((s.setBit TM_STATUS 9 false).setFld TM_PHASE 9 0 (if e > 0 then p + 1 else p - 1)).showErr

def execPhaseSlewStep := lift Hub.phaseSlew

/-! ### The tick -/

/-- Frame-tick work: holdover by loss of the time-source lane or of the PLL's source, ages, phi, and TIME_GET.
(Log entry 93: DESIGN CHOICE, unsafe) -/
def Hub.timeTick (s : Hub) : Hub :=
  let n := s.timeLane
  let s := s.setBit TM_STATUS 4 (n == 10)
  let s := if s.laneState n ≠ lsACTIVE ∧ ¬ s.switchable n then s.enterHoldover 1 else s
  let s := if s.tt.pllHold then s.enterHoldover 2 else s
  let s := s.ageTick.showHoldover.phaseTick
  if s.tm.step.isSome then s else s.answerTime

/-! ### Settings and TIME commands (R314-R316) -/

/-- Enable or disable the servo. (Log entry 94: DEDUCED, unsafe) -/
def Hub.setServoEn (s : Hub) (en : Bool) : Hub :=
  let was := s.bit TM_CTRL 3
  let s := s.setBit TM_CTRL 3 en
  if en = was then s
  else if en then (s.setServo s.servoState).showHoldover
  else (s.setServo 0).showHoldover

/-- RATE and I take a value while the servo is off (R305). -/
def Hub.writeRate (s : Hub) (v : Nat) : Hub := if s.bit TM_CTRL 3 then s else (s.setReg TM_RATE v).setReg TM_INTEG v

def timeStatusBody (p : List Byte) (s : Hub) : Reply × Hub :=
  guarded [(p.length ≠ 0, stBAD_LEN)] s fun s =>
  okay (words [s.reg TM_STATUS, s.reg TM_OFFSET, s.reg TM_PATH_DELAY, s.reg TM_RATE, s.reg TM_INTEG, s.reg TM_PHASE, s.reg TM_PHASE_ERR,
    s.reg TM_HOLD_AGE, s.reg TM_COUNT]) s

def timeConfigBody (p : List Byte) (s : Hub) : Reply × Hub :=
  let f := pl p 0 1
  let sync := pl p 2 1
  let filt := pl p 3 1
  let limit := pl p 8 4
  let step := pl p 12 2
  let dreq := pl p 14 2
  let slew := pl p 16 1
  guarded [(p.length ≠ 20, stBAD_LEN),
    (f > 3 ∨ sync < 10 ∨ sync > 24 ∨ filt > 7 ∨ limit = 0 ∨ limit ≥ 2 ^ 31 ∨ step = 0 ∨ dreq = 0 ∨ slew < 4 ∨ slew > 15 ∨ ¬ plZero p 17 3, stBAD_ARG),
    (s.modeIn [mRUN, mPULSE] ∧ f ≠ 3, stBAD_MODE)] s fun s =>
  let s := s.setServoEn (bitAt f 0)
  let s := s.setReg TM_CTRL (pl p 1 1 * 2 ^ 16 + sync * 2 ^ 8 + bits f 1 1 * 2 ^ 4 + bits f 0 0 * 2 ^ 3 + filt)
  let s := (s.setReg TM_GAIN (pl p 4 2 * 2 ^ 16 + pl p 6 2)).setReg TM_RATE_LIMIT limit
  okay [] ((s.setReg TM_STEP (dreq * 2 ^ 16 + step)).setFld TM_PHASE 15 12 slew)

def timeSetDelayBody (p : List Byte) (s : Hub) : Reply × Hub :=
  let n := pl p 0 1
  guarded [(p.length ≠ 4, stBAD_LEN), (n > 10 ∨ ¬ plZero p 1 1, stBAD_ARG), (s.modeIn [mRUN, mPULSE], stBAD_MODE)] s fun s =>
  okay [] (s.setReg (TM_DELAY n) (pl p 2 2))

def timeSetBody (p : List Byte) (s : Hub) : Reply × Hub :=
  guarded [(p.length ≠ 12, stBAD_LEN), (¬ plZero p 9 3, stBAD_ARG), (s.modeIn [mRUN, mPULSE], stBAD_MODE)] s fun s =>
  let (c, t) := s.nextCross
  okay (crossPayload c t)
    { s with tm := { s.tm with step := some (.inr ((pl p 4 4 * 2 ^ 32 + pl p 0 4) * 256 + pl p 8 1)), stepAt := s.frame } }

/-- WRAP as the byte of a response. -/
def wrapByte (w : Int) : Byte := BitVec.ofNat 8 (ofS 8 w)

/-- (Log entry 95: DEDUCED, unsafe) -/
def timePhaseBody (p : List Byte) (s : Hub) : Reply × Hub :=
  let ofs := pl p 0 2
  let f := pl p 2 1
  let v := pl p 4 2
  guarded [(p.length ≠ 8, stBAD_LEN), (ofs > 1023 ∨ v > 1023 ∨ f ≥ 3 ∨ ¬ plZero p 3 1 ∨ ¬ plZero p 6 2, stBAD_ARG),
    (f ≠ 0 ∧ s.modeIn [mRUN, mPULSE], stBAD_MODE), (f = 1 ∧ s.servo ≠ 2 ∧ s.servo ≠ 3, stNO_RESOURCE)] s fun s =>
  let (c, t) := s.nextCross
  let s := s.setFld TM_PHASE 25 16 ofs
  let s :=
    if f = 1 ∧ s.tm.target.isSome then
      let g := s.targetOf s.tm.mean
      { s with tm := { s.tm with target := some g } }.acquirePhase g
    else if f = 2 then ((s.setBit TM_CTRL 4 false).setFld TM_PHASE 9 0 v).showErr
    else s
  okay (crossPayload c t ++ leBytes 2 (s.fld TM_PHASE 9 0) ++ [wrapByte s.tm.wrap, 0]) { s with tm := { s.tm with wrap := 0 } }

def timeGetBody (p : List Byte) (s : Hub) : Reply × Hub :=
  guarded [(p.length ≠ 0, stBAD_LEN)] s fun s => (.later s.frame, s)

def execTimeStatus (h : Hdr) (p : List Byte) := lift fun s => s.command 0x0B01 h p (timeStatusBody p)
def execTimeConfig (h : Hdr) (p : List Byte) := lift fun s => s.command 0x0B02 h p (timeConfigBody p)
def execTimeSetDelay (h : Hdr) (p : List Byte) := lift fun s => s.command 0x0B03 h p (timeSetDelayBody p)
def execTimeSet (h : Hdr) (p : List Byte) := lift fun s => s.command 0x0B04 h p (timeSetBody p)
def execTimePhase (h : Hdr) (p : List Byte) := lift fun s => s.command 0x0B05 h p (timePhaseBody p)
def execTimeGet (h : Hdr) (p : List Byte) := lift fun s => s.command 0x0B06 h p (timeGetBody p)

/-! ### Resets (R295, R308, R309) -/

/-- What a reset leaves of time. A power-on reset clears the counter; every other leaves it running with RATE at I. (Log entry 97: DEDUCED, unsafe) -/
def Hub.resetTime (s : Hub) (powerOn : Bool) : Hub :=
  if powerOn then { s with tm := {} }
  else { s.setReg TM_RATE (s.reg TM_INTEG) with tm := {
      epoch := s.tm.epoch, cnt := s.tm.cnt, residue := s.tm.residue, raw := s.tm.raw, now := s.tm.now, rawNow := s.tm.rawNow,
      epochDue := s.tm.epochDue, epochAt := s.tm.epochAt, accepted := s.tm.accepted, holdXo := s.tm.holdXo,
      dreqAt := s.frame, respAt := s.frame, followAt := s.frame } }

end Sys2Proof.Machine
end

