-- ==== Sys2Proof/Machine/Pair.lean ====
section
/-! DEFINITION. Joined pairs: formation, roles and the switch-over gap, pair carriages, forwarded commands, shadow compare and
the PAIR commands (13_joined_pairs.md). -/

namespace Sys2Proof.Machine

/-! ### Fields of PAIR_STATUS (R337) -/

def Hub.pairState (s : Hub) : Nat := s.fld PAIR_STATUS 19 16
def Hub.pairEpoch (s : Hub) : Nat := s.fld PAIR_STATUS 31 24
def Hub.inGap (s : Hub) : Bool := s.bit PAIR_STATUS 15

/-- JOIN. -/
def Hub.joinSet (s : Hub) : Bool := s.bit PAIR_CTRL 0

/-- Epoch `a` is newer than `b` (R326). -/
def newer (a b : Nat) : Bool := decide (1 ≤ (a + 256 - b) % 256) && decide ((a + 256 - b) % 256 ≤ 127)

/-- EV_PAIR_STATE. (Log entry 104: DEDUCED, unsafe) -/
def Hub.pairEvent (s : Hub) : Hub := s.emit 0x0C01 [s.pairState, b2n s.leader, s.pairEpoch, s.tt.crossing, s.tt.turn]

/-- STATE takes a value, and every change is reported (R317). -/
def Hub.setPairState (s : Hub) (v : Nat) : Hub := if s.pairState = v then s else (s.setFld PAIR_STATUS 19 16 v).pairEvent

/-- The time-source lane follows STATE and ROLE outside a switch-over gap; a change discards what straddles it (R329, R330). -/
def Hub.showSlaved (s : Hub) : Hub :=
  let v := s.follower
  if s.inGap ∨ s.slaved = v then s else (s.setBit PAIR_STATUS 8 v).dropMeasurements

/-! ### Health (R327) -/

/-- PAIR_HEALTH as it stands. -/
def Hub.healthBits (s : Hub) : Nat :=
  let off := fun (n : Nat) => b2n (s.laneState n != lsACTIVE)
  let servo := s.servo
  off 8 * off 10 + 2 * off 0 + 4 * b2n (servo != 2 && servo != 3) +
    8 * b2n (s.jctCause != 0 || !s.jctImage) + 16 * b2n (s.asy.engine != 2) + 32 * b2n (s.bit RP_SUPPLY 8) +
    64 * b2n (s.laneState 7 != lsACTIVE || s.laneState 9 != lsACTIVE) + 128 * b2n (s.bit PAIR_STATUS 9)

/-- PAIR_HEALTH, HEALTHY and PARTNER_SEEN follow at the tick, and the count of R332 with them. (Log entry 108: DEDUCED, unsafe) -/
def Hub.showHealth (s : Hub) : Hub :=
  let h := s.healthBits
  let seen : Bool := match s.pr.seenAt with | some f => decide (s.frame ≤ f + 64) | none => false
  let s := ((s.setReg PAIR_HEALTH h).setBit PAIR_STATUS 12 (h == 0)).setBit PAIR_STATUS 7 seen
  let counting := h = 0 ∧ seen ∧ s.bit PAIR_STATUS 13 ∧ s.bit PAIR_CTRL 2 ∧ s.follower
  let since := if counting then some (s.pr.healthySince.getD s.xo) else none
  let t := match since with | some x => (s.xo - x) / (10 * xoMs) | none => 0
  { s with pr := { s.pr with healthySince := since } }.setFld PAIR_REVERT 31 16 (satU 16 t)

/-- Role and epoch pass S51, with a heartbeat from the Signal Box to the pair transmitter (requester 7), of a partner that claims a newer epoch
from the pair receiver to the Signal Box (R28). (Log entry 105: DESIGN CHOICE, unsafe) -/
def Hub.passRole (s : Hub) (requester : Nat) (lead : Bool) (epoch : Nat) : Bool × Hub :=
  s.passSiding 51 requester (.blob 0 (s.tt.crossing * 65536 + 7 * 256) [BitVec.ofNat 8 (b2n lead), BitVec.ofNat 8 epoch])

/-- PAIR_HEARTBEAT: every HB_PERIOD × 1024 frames. (Log entry 104: DEDUCED, unsafe; log entry 105: DESIGN CHOICE, unsafe) -/
def Hub.heartbeat (s : Hub) : Hub :=
  if ¬ s.joinSet ∨ s.frame < s.pr.hbAt + s.fld PAIR_TIMING 7 0 * 1024 then s
  else
    let s := { s with pr := { s.pr with hbAt := s.frame } }
    let s := if s.fwActs then (s.passRole 7 s.leader s.pairEpoch).2 else s
    s.emit 0x0C02
      [b2n (s.bit PAIR_STATUS 12), b2n s.leader, s.pairEpoch, b2n (s.bit PAIR_STATUS 13), s.reg PAIR_HEALTH, b2n (s.bit PAIR_STATUS 7),
       s.tt.crossing, s.tt.turn]

def execPairHeartbeat := lift Hub.heartbeat

/-! ### Roles and the switch-over gap (R326, R328, R329, R332) -/

/-- A gap opens at the next tick; one that is open then goes on for as long. -/
def Hub.openGap (s : Hub) : Hub :=
  { s with pr := { s.pr with gapFrom := if s.inGap then none else some (s.frame + 1), gapTo := s.frame + 97 } }

/-- REVERT_HOLDOFF in XO cycles. -/
def Hub.holdoff (s : Hub) : Nat := s.fld PAIR_TIMING 31 16 * 10 * xoMs

/-- This hub takes a role. A hub that loses the leadership it took by its own revert within 8 × REVERT_HOLDOFF raises HOLDOFF_EXP. -/
def Hub.setRole (s : Hub) (lead byRevert : Bool) : Hub :=
  if s.leader = lead then s
  else
    let soon := !lead && s.pr.byRevert && decide (s.xo < s.pr.leadSince + 8 * s.holdoff)
    let s := if soon then s.setFld PAIR_REVERT 1 0 (min 3 (s.fld PAIR_REVERT 1 0 + 1)) else s
    { s.setBit PAIR_STATUS 14 lead with pr := { s.pr with leadSince := s.xo, byRevert := byRevert, revertAt := none } }.incSat PAIR_SWITCHES 31 16

/-- PAIR formation and its leader (R317). -/
def Hub.formPair (s : Hub) : Hub :=
  if s.pairState = 1 ∧ s.laneState 7 = lsACTIVE ∧ s.laneState 9 = lsACTIVE ∧ s.pr.capsOk ∧ s.pr.valid ≥ 16 ∧
      (s.leader ∨ s.bit PAIR_STATUS 10) then
    (s.setPairState 2).showSlaved
  else s

/-- The partner leads with a newer epoch: this hub follows it, and a change of role, its own or the partner's, opens the gap here too (R326,
R328). (Log entry 98: DEDUCED, unsafe) -/
def Hub.followPartner (s : Hub) (led : Bool) (epoch : Nat) : Hub :=
  let changed := s.leader || !led
  let s := (s.setFld PAIR_STATUS 31 24 epoch).setRole false false
  if changed then s.openGap.pairEvent else s

/-- The role rules of R326 for a valid pair carriage of the partner: ROLE and EPOCH as it carries them, `led` the ROLE it carried before. A
leader elsewhere with a newer epoch makes this hub a follower of that epoch; two leaders of one epoch are a conflict, which SIDE decides; a
partner that gives up the lead of its own opens a gap here too (R328). (Log entry 215: DEDUCED, unsafe) -/
def Hub.partnerRole (s : Hub) (led role : Bool) (epoch : Nat) : Hub :=
  if s.pairState = 0 then s
  else if role ∧ newer epoch s.pairEpoch then
    match s.passRole 0 role epoch with
    | (true, s) => s.followPartner led epoch
    | (false, s) => s.fwGivesUp
  else if role ∧ s.leader ∧ epoch = s.pairEpoch then
    if s.pr.conflict then s
    else
      let s := { s with pr := { s.pr with conflict := true } }.incSat PAIR_SWITCHES 7 0
      ((if s.side = 1 then s.setRole false false else s).openGap).pairEvent
  else
    let s := { s with pr := { s.pr with conflict := false } }
    if led ∧ ¬ role ∧ ¬ s.inGap ∧ s.pr.gapFrom.isNone then s.openGap else s

/-- The tick that comes begins the crossing 0 from which this hub leads by its own revert (R332). -/
def Hub.revertComes (s : Hub) : Bool :=
  match s.pr.revertAt with | some f => decide (f ≤ s.frame + 1) && s.nextCross.1 == 0 && s.follower | none => false

/-- Frame-tick work before the crossing is formed: a gap of which 96 frames have passed ends, and one that is due begins, that of a revert
with the tick of its crossing 0 (R328, R329). -/
def Hub.gapTick (s : Hub) : Hub :=
  let s := if s.inGap ∧ s.pr.gapTo ≤ s.frame + 1 then { s.setBit PAIR_STATUS 15 false with pr := { s.pr with gapDone := true } }.showSlaved else s
  let s := match s.pr.gapFrom with
    | some f => if f ≤ s.frame + 1 then { s.setBit PAIR_STATUS 15 true with pr := { s.pr with gapFrom := none } } else s
    | none => s
  if s.revertComes then { s.setBit PAIR_STATUS 15 true with pr := { s.pr with gapFrom := none, gapTo := s.frame + 97 } } else s

/-- SWITCHOVER_GAP_END: after 96 frames the new role acts, the time-source lanes change and held responses leave. -/
def Hub.gapEnd (s : Hub) : Hub :=
  if ¬ s.pr.gapDone ∧ (¬ s.inGap ∨ s.frame < s.pr.gapTo) then s
  else
    let s := { s with pr := { s.pr with gapDone := false } }
    let s := ((s.setBit PAIR_STATUS 15 false).showSlaved).complete (fun d => d.op == 0x0C03) stOK (crossPayload s.tt.crossing s.tt.turn)
    let held := s.mbx.gapHeld
    held.foldl (fun s x => s.respond x.1 x.2.1 x.2.2.1 x.2.2.2) { s with mbx := { s.mbx with gapHeld := [] } }

def execSwitchoverGapEnd := lift Hub.gapEnd

/-- REVERT_HOLDOFF_EXPIRE: the count of R332 reaches REVERT_HOLDOFF × 2^HOLDOFF_EXP; the hub takes the next epoch and will
lead from crossing 0 of the next turn. (Log entry 99: DEDUCED, unsafe) -/
def Hub.revertDue (s : Hub) : Hub :=
  match s.pr.healthySince with
  | none => s
  | some x =>
    if s.pr.revertAt.isSome ∨ s.inGap ∨ s.xo < x + s.holdoff * 2 ^ s.fld PAIR_REVERT 1 0 then s
    else { s.setFld PAIR_STATUS 31 24 (s.pairEpoch + 1) with pr := { s.pr with revertAt := some (s.frame + s.toTurn) } }

def execRevertHoldoffExpire := lift Hub.revertDue

/-- The hub leads by its own revert from the crossing now at offset 0. -/
def Hub.revertsNow (s : Hub) : Bool :=
  match s.pr.revertAt with | some f => decide (f ≤ s.frame) && s.tt.crossing == 0 && s.follower | none => false

/-- ROLE_REVERT: the gap begins with crossing 0 itself (R328). -/
def Hub.revert (s : Hub) : Hub :=
  if ¬ s.revertsNow then s
  else
    let s := (s.setRole true true).incSat PAIR_SWITCHES 15 8
    let s := { s.setBit PAIR_STATUS 15 true with
      pr := { s.pr with gapFrom := none, gapTo := s.frame + 96 }
      hist := match s.hist with | r :: t => { r with gap := true } :: t | [] => [] }
    (s.pairEvent).emit 0x0C03 [s.pairEpoch, s.fld PAIR_REVERT 1 0]

def execRoleRevert := lift Hub.revert

/-- HOLDOFF_EXP_CLEAR: after 8 × REVERT_HOLDOFF of uninterrupted leadership. -/
def Hub.clearHoldoff (s : Hub) : Hub :=
  if s.leader ∧ s.pr.leadSince + 8 * s.holdoff ≤ s.xo then s.setFld PAIR_REVERT 1 0 0 else s

def execHoldoffExpClear := lift Hub.clearHoldoff

/-! ### Modes of a pair (R319) -/

/-- A combination of the leader's and the follower's modes that a pair accepts. -/
def modesFit (leader follower : Nat) : Bool := leader == follower || (leader == mIDLE && follower == mLOADING)

/-- The present combination, with the partner's mode as last reported. -/
def Hub.modesOk (s : Hub) : Bool := if s.leader then modesFit s.mode s.pr.farMode else modesFit s.pr.farMode s.mode

/-- STATE and MODE_MISMATCH follow the combination of modes. -/
def Hub.showModes (s : Hub) (bad : Bool) : Hub := (s.setBit PAIR_STATUS 9 bad).setPairState (if bad then 3 else 2)

/-- While the partner boots, TX7 sends to it with the reset values of LN_TXEQ and counts as ACTIVE without training (R324, as TX0 under R274).
(Log entry 207: DEDUCED, unsafe) -/
def Hub.bootLane (s : Hub) : Hub :=
  let s := s.setReg (LN_TXEQ 7) txeqReset
  if ¬ s.bit (LN_CTRL 7) 0 ∨ s.laneState 7 = lsACTIVE then s else s.enterLane 7 lsACTIVE

/-- The partner boots over TX7, which sends with the reset values of LN_TXEQ until the partner reaches IDLE, and then trains (R324).
(Log entry 207: DEDUCED, unsafe) -/
def Hub.partnerBoots (s : Hub) (was now : Nat) : Hub :=
  if ¬ s.joinSet then s
  else if now = mLOADING then s.bootLane
  else if was = mLOADING then (s.trainLane 7).trainLane 9
  else s

/-- PAIR_MODE_MISMATCH: the partner's mode, given with the event, has stayed outside the accepted combinations for more than one
full turn, or lies inside them again. -/
def Hub.modeMismatch (s : Hub) (partner : Nat) : Hub :=
  let s := { s with pr := { s.pr with farMode := partner } }.partnerBoots s.pr.farMode partner
  if s.joined then s.showModes (!s.modesOk) else s

def execPairModeMismatch (partner : Fin 8) := lift fun s => s.modeMismatch partner.val

/-! ### Responses and events of the partner (R322, R323, R320, R426) -/

/-- The meanings of commands that may name the partner's channels. -/
def chanBody (op : Nat) (p : List Byte) : Hub → Reply × Hub :=
  match op with
  | 0x0401 => chanEnableBody p
  | 0x0402 => chanSetTrimBody p
  | 0x0403 => chanSetSkewBody p
  | 0x0404 => chanSetRangeBody p
  | 0x0405 => chanResetBody p
  | 0x0407 => chanGetStatusBody p
  | _ => trigSetMapBody p

/-- The response of a command that both hubs carried out: of two CROSSING and TURN pairs the later, of status words one after
the other. -/
def mergePayload (op : Nat) (own far : List Byte) : List Byte :=
  if op = 0x0407 then own ++ far
  else if (pl own 4 4, pl own 0 2) = (pl far 4 4, pl far 0 2) then own
  else if pl own 4 4 < pl far 4 4 ∨ (pl own 4 4 = pl far 4 4 ∧ pl own 0 2 < pl far 0 2) then far else own

/-- The follower has answered its part of a command that names its channels: the leader's part follows an OK. -/
def Hub.splitAnswer (s : Hub) (d : Def) (status : Nat) (payload : List Byte) : Hub :=
  if status ≠ 0 then s.completeAny (· == d) status []
  else match splitChannels d.op d.payload with
    | (some own, _) =>
      match chanBody d.op own s with
      | (.now st pl, s) => s.completeAny (· == d) st (if st = 0 then mergePayload d.op pl payload else [])
      | (.later a, s) =>
        { s with mbx := { s.mbx with deferred := s.mbx.deferred.map fun (e : Def) =>
            if e = d then { e with arg := a, payload := own, since := s.xo } else e } }
    | (none, _) => s.completeAny (· == d) 0 payload

/-- A response with number `n` of the leader's own series. -/
def Hub.partnerResponse (s : Hub) (n status : Nat) (payload : List Byte) : Hub :=
  match s.mbx.deferred.find? fun d => d.isFar && d.arg % 2 ^ 16 == n with
  | some d => if d.hdr.target = 1 then s.completeAny (· == d) status payload else s.splitAnswer d status payload
  | none =>
    { s with mbx := { s.mbx with both := s.mbx.both.map fun (b : Both) =>
        if b.n = n ∧ b.theirs.isNone then { b with theirs := some (status, payload) } else b } }.settleBoth

/-- The leader emits an event of its follower. -/
def Hub.partnerEvent (s : Hub) (m : List Byte) : Hub :=
  let link := s.bit MBX_CTRL 0
  let cspi := s.bit MBX_CTRL 1
  if ¬ link ∧ ¬ cspi then s.incSat MBX_CNT2 31 16
  else
    let e : Ev := { eseq := pl m 4 2, code := pl m 6 2, source := 1, crossing := pl m 14 2, turn := pl m 16 4,
                    words := (List.range (pl m 8 2 / 4)).map fun i => pl m (20 + 4 * i) 4 }
    let st := s.mbx.stamp
    { s with mbx := { s.mbx with stamp := st + 1 } }.sidQueue 40 (.ev e link cspi st)

/-- A time message of the pair. -/
def pairTimeMsg (typ seq stamp : Nat) : List Byte :=
  envelope kTime 24 ++ [BitVec.ofNat 8 typ, 2] ++ leBytes 2 seq ++ leBytes 4 (stamp / 256) ++ leBytes 4 (stamp / 2 ^ 40) ++
    [BitVec.ofNat 8 stamp, 0xFF, 0, 0, 0, 0, 0, 0]

/-- Queue a service message for TX7. -/
def Hub.queuePair (s : Hub) (it : TxItem) : Hub := let x := s.lane 7; s.setLane 7 { x with service := x.service ++ [it] }

/-- A time message on RX1: the leader answers a Delay_Req with the capture of its carriage, less DELAY (R330). -/
def Hub.pairTime (s : Hub) (m : List Byte) (capture : Option Nat) : Hub :=
  if s.joined ∧ s.leader ∧ m.length = 24 ∧ pl m 4 1 = 1 ∧ pl m 5 1 = 2 ∧ pl m 17 1 = 0xFF then
    match capture with
    | some c => s.queuePair { typ := tySERVICE, bytes := pairTimeMsg 9 (pl m 6 2) ((c + 2 ^ 72 - s.delayUnits 9) % 2 ^ 72) }
    | none => s
  else s.timeMessage 9 m capture

/-- A service message on RX1 (R272): responses and events only from the follower. One of them whose CRC does not match is discarded.
(Log entry 107: DEDUCED, unsafe) -/
def Hub.pairMessage (s : Hub) (m : List Byte) (capture : Option Nat) : Hub :=
  let k := pl m 0 1
  if k = kPadding then s
  else if k = kCommand then s.receiveCommand 35 m
  else if (k = kResponse ∨ k = kEvent) ∧ ¬ (s.joined ∧ s.leader) then s.incSat (LN_CNT2 9) 31 0
  else if k = kResponse ∧ m.length ≥ 20 then
    if pl m 12 2 ≠ messageCrc m then s.incSat (LN_CNT2 9) 31 0 else s.partnerResponse (pl m 4 2) (pl m 10 1) ((m.drop 20).take (pl m 8 2))
  else if k = kEvent ∧ m.length ≥ 20 then (if pl m 12 2 ≠ messageCrc m then s.incSat (LN_CNT2 9) 31 0 else s.partnerEvent m)
  else if k = kTime then s.pairTime m capture
  else s.incSat (LN_CNT2 9) 31 0

/-! ### Shadow compare (R336) -/

/-- The frame of the crossing that a pair carriage names, at most `back` frames ago. -/
def Hub.frameOf (s : Hub) (crossing back : Nat) : Option Nat :=
  (s.hist.find? fun r => r.crossing == crossing && decide (s.frame ≤ r.n + back)).map (·.n)

/-- A mismatch for a crossing. -/
def Hub.shadowMiss (s : Hub) (c t : Nat) : Hub :=
  let s := s.incSat PAIR_SHADOW 31 0
  let s := if s.pr.latchFirst then
      { (s.setFld PAIR_FIRST_MISMATCH 15 0 c).setShadow PAIR_FIRST_TURN t with pr := { s.pr with latchFirst := false } } else s
  { s with pr := { s.pr with shadowCnt := s.pr.shadowCnt + 1, shadowFirst := if s.pr.shadowCnt = 0 then c else s.pr.shadowFirst } }

/-- The follower compares its hash of a crossing with the leader's. (Log entry 232: DEDUCED, unsafe) -/
def Hub.shadowCompare (s : Hub) (crossing st hash : Nat) : Hub :=
  if ¬ s.follower then s
  else match s.frameOf crossing 32 with
    | none => s
    | some n =>
      let own := (s.pr.hashes.find? (·.1 == n)).bind (·.2)
      let s := { s with pr := { s.pr with hashes := s.pr.hashes.filter (·.1 != n) } }
      match own with
      | none => s.incSat PAIR_SKIP 31 0
      | some v =>
        if st ≠ 1 then s.incSat PAIR_SKIP 31 0
        else if v = hash then s
        else s.shadowMiss (s.crossAt n).1 (s.crossAt n).2

/-- SHADOW_HASH_TIMEOUT: the leader's hash has not arrived within the 16 frames for which the follower keeps its own.
(Log entry 232: DEDUCED, unsafe) -/
def Hub.shadowTimeout (s : Hub) : Hub :=
  let late := s.pr.hashes.filter fun h => decide (h.1 + 32 < s.frame)
  let s := { s with pr := { s.pr with hashes := s.pr.hashes.filter fun h => !decide (h.1 + 32 < s.frame) } }
  if s.follower then s.addSat PAIR_SKIP 31 0 late.length else s

def execShadowHashTimeout := lift Hub.shadowTimeout

/-- EV_PAIR_SHADOW, at most once per turn. -/
def Hub.shadowReport (s : Hub) : Hub :=
  if s.tt.crossing ≠ 0 ∨ s.pr.shadowCnt = 0 then s
  else
    let k := s.pr.shadowCnt
    { s with pr := { s.pr with shadowCnt := 0 } }.emit 0x0C04 [k, s.pr.shadowFirst]

/-- PAIR_FIRST_MISMATCH_READ: the read latches PAIR_FIRST_TURN. -/
def Hub.readFirstMismatch (s : Hub) : Hub := s.latchTurn PAIR_FIRST_TURN

def execPairFirstMismatchRead := lift Hub.readFirstMismatch

/-! ### Pair carriages in (R333-R335) -/

/-- A boundary block of the partner: `margin` is how many ps before the tick of frame N + 15 its last symbol arrived. On time and
valid, it is placed in S49. -/
def Hub.takeBlock (s : Hub) (crossing turnLo : Nat) (ws : List Nat) (valid : Bool) (margin : Int) : Hub :=
  if ¬ s.joined ∨ ¬ valid then s
  else
    let ms := (margin :: s.pr.margins).take 1024
    let low := ms.foldl min margin
    let s := { s with pr := { s.pr with margins := ms } }.setFld PAIR_MARGIN 15 0 (ofS 16 (satS 16 low))
    if margin < 0 then s else s.sidQueue 49 (.block crossing turnLo (words ws))

/-- The messages of a service area or service carriage, each with the capture of the carriage in which it began, and the
incomplete item left with its own. -/
def streamItems (part : Option (List Byte)) (began : Option Nat) (w0 ptr : Nat) (data : List Byte) (capture : Nat) :
    List (List Byte × Option Nat) × Option (List Byte) × Option Nat :=
  let (ms, r) := takeStream part w0 ptr data
  let cont : Bool := match part with | some bs => !bs.isEmpty | none => false
  let caps := ms.zipIdx.map fun (m, i) => (m, if i = 0 ∧ cont then began else some capture)
  (caps, r, if ms.isEmpty ∧ cont then began else some capture)

/-- The arrival of a carriage of the time-source lane at its ball (R310, R331). -/
def Hub.noteArrival (s : Hub) (n capture : Nat) : Hub :=
  if n = s.timeLane then { s with tm := { s.tm with arrival := some ((capture + 2 ^ 72 - s.delayUnits n) % 2 ^ 72) } } else s

/-- A valid pair carriage (R333): its 184 payload bytes, the capture of its arrival, and the margin of its block. -/
def Hub.pairCarriage (s : Hub) (bs : List Byte) (capture : Nat) (margin : Int) : Hub :=
  if s.laneState 9 ≠ lsACTIVE then s
  else
    let v := beNat bs
    let h := bits v 1471 1408
    let led := s.bit PAIR_STATUS 10
    let s := s.noteArrival 9 capture
    let s := { s with pr := { s.pr with
        seenAt := some s.frame, farPhase := bits h 25 16,
        valid := if s.joinSet ∧ bits h 30 30 ≠ s.side then min 16 (s.pr.valid + 1) else s.pr.valid } }
    let s := ((s.setBit PAIR_STATUS 11 (bitAt h 29)).setBit PAIR_STATUS 10 (bitAt h 31)).setBit PAIR_STATUS 7 true
    let s := (s.partnerRole led (bitAt h 31) (bits h 15 8)).formPair
    let s := s.takeBlock (bits h 63 48) (bits h 47 32) ((List.range 24).map fun i => bits v (1407 - 20 * i) (1388 - 20 * i)) (bitAt h 28) margin
    let s := s.shadowCompare (bits v 895 880) (bits h 27 26) (bits v 927 896)
    let (ms, part, began) := streamItems s.pr.part s.pr.began 0 (bits v 879 874) (bs.drop 76) capture
    let s := { s with pr := { s.pr with part := part, began := began } }
    ms.foldl (fun s m => s.pairMessage m.1 m.2) s

def execPairCarriageReceive (payload : BitVec 1472) (after margin : Int) :=
  lift fun s => s.pairCarriage (beBytes 184 payload.toNat) (s.captureAt after) margin

/-! ### Pair carriages out (R324, R325, R330, R333-R335) -/

/-- Fill the queue of TX7 from S38; what the pair transmitter cannot read it discards (R389). -/
def Hub.fillPair : Nat → Hub → Hub
  | 0, s => s
  | f + 1, s =>
    if bytesLeft (s.lane 7).service ≥ 108 then s
    else match (s.items 38).head? with
      | none => s
      | some it =>
        let key := match it with | .cmd c => c.seq + 1 | _ => 0
        match s.readMsg 38 0 7 it with
        | (true, s) => Hub.fillPair f ((s.sidPop 38).queuePair { typ := tySERVICE, bytes := s.itemMsg it, key := key })
        | (false, s) => Hub.fillPair f s

/-- The leader sends a Sync every 1024 frames. -/
def Hub.pairSync (s : Hub) : Hub :=
  if ¬ s.joined ∨ ¬ s.leader ∨ s.frame < s.pr.syncAt + 1024 then s
  else
    let q := (s.pr.syncSeq + 1) % 2 ^ 16
    { s with pr := { s.pr with syncAt := s.frame, syncSeq := q } }.queuePair
      { typ := tySERVICE, bytes := pairTimeMsg 0 q 0, timed := some q }

/-- The last byte of an item leaves on TX7: a Sync is followed by its Follow_Up, a Delay_Req has its departure, and a command
forwarded under R325 is answered. -/
def Hub.leftOnPair (s : Hub) (x : TxItem) : Hub :=
  let f := x.firstAt.getD s.frame
  let t := match s.frameRec f with | some r => r.stamp | none => s.tm.now
  let t := (t + s.delayUnits 7) % 2 ^ 72
  match x.timed with
  | some q =>
    if pl x.bytes 4 1 = 0 then s.queuePair { typ := tySERVICE, bytes := pairTimeMsg 8 q t }
    else match s.tm.dreq with
      | some (r, _, none) => if q = r then { s with tm := { s.tm with dreq := some (q, f, some t) } } else s
      | _ => s
  | none =>
    if x.key = 0 then s
    else s.completeAny (fun d => d.hdr.target == 1 && loadingCmd d.op && d.arg + 1 == x.key) stOK (leBytes 2 (x.key - 1))

/-- The header of R334 for the block of a crossing; a revert that is due at the present crossing already shows. -/
def Hub.pairHeader (s : Hub) (c t : Nat) (valid : Bool) (hashState : Nat) : Nat :=
  c * 2 ^ 48 + t % 2 ^ 16 * 2 ^ 32 + b2n (s.leader || s.revertsNow) * 2 ^ 31 + s.side * 2 ^ 30 + b2n (s.bit PAIR_STATUS 12) * 2 ^ 29 +
    b2n valid * 2 ^ 28 + hashState * 2 ^ 26 + s.fld TM_PHASE 9 0 * 2 ^ 16 + s.pairEpoch * 2 ^ 8 + s.fld JCT_CTRL 15 8

/-- The 184 payload bytes of the pair carriage of the present frame, but for its service area of 108 bytes. -/
def Hub.pairHead (s : Hub) (sptr : Nat) : List Byte :=
  let n := s.frame - 13
  let m := s.frame - 21
  let block := (s.pr.blocks.find? (·.1 == n)).map (·.2)
  let (st, hash) := match s.pr.hashes.find? (·.1 == m) with | some (_, some v) => (1, v) | some (_, none) => (2, 0) | none => (0, 0)
  let (c, t) := s.crossAt n
  let head := s.pairHeader c t block.isSome st
  let ws := (block.getD []).zipIdx.foldl (fun a (w, i) => a + w % 2 ^ 20 * 2 ^ (1388 - 20 * i)) 0
  beBytes 76 ((head * 2 ^ 1408 + ws + hash * 2 ^ 896 + (s.crossAt m).1 * 2 ^ 880 + sptr * 2 ^ 874) / 2 ^ 864)

/-- The pair carriage of TX7. -/
def Hub.pairSend (s : Hub) : Hub :=
  if (¬ s.joinSet ∧ s.pr.leaveAt.isNone) ∨ s.laneState 7 ≠ lsACTIVE then { s with tx7 := none }
  else
    let s := Hub.fillPair 30 s.pairSync
    let (bs, first, done, rest) := packItems s.frame (s.lane 7).service 0 108
    let s := s.setLane 7 { s.lane 7 with service := rest }
    let s := { s with
      tx7 := some (s.pairHead (match first with | some o => o / 4 | none => 63) ++ bs ++ List.replicate (108 - bs.length) 0)
      pr := { s.pr with sentXo := s.xo } }
    done.foldl Hub.leftOnPair s

/-- S48 is taken by TX7 and S50 by the Signal Box, which requests a software reset for an entry that it cannot read: boundary blocks and own
hashes by frame. (Log entry 232: DEDUCED, unsafe) -/
def Hub.takeBlocks (s : Hub) : Hub :=
  let frameAt := fun (c t : Nat) => (s.hist.find? fun r => r.crossing == c && r.turn == t).map (·.n)
  let (bs, s) := Hub.takeItems (s.items 48).length s 48 7
  let due := (s.items 50).length
  let (hs, s) := if s.bit FW_STATUS 0 then ([], s) else Hub.takeItems due s 50 0
  let s := if hs.length < due ∧ (s.items 50).isEmpty then s.fwGivesUp else s
  let bs := bs.filterMap fun it => match it with
    | .block c t b => (frameAt c t).map fun n => (n, (List.range 24).map fun i => pl b (4 * i) 4)
    | _ => none
  let hs := hs.filterMap fun it => match it with
    | .block c t b => (frameAt c t).map fun n => (n, if b.isEmpty then none else some (pl b 0 4))
    | _ => none
  let keep := s.pr.hashes.filter fun h => s.follower || decide (s.frame ≤ h.1 + 32)
  { s with pr := { s.pr with blocks := (s.pr.blocks.filter fun b => decide (s.frame ≤ b.1 + 14)) ++ bs, hashes := keep ++ hs } }

/-! ### Joining and leaving (R317, R321) -/

/-- Every group's next ingot is COLD. -/
def Hub.coldAll (s : Hub) : Hub := s.each (List.range 8) fun s g => s.setCodec g { s.codec g with coldNext := true }

/-- A PAIR_LEAVE takes effect at the tick that begins. TX7 sends one more pair carriage, which can hold the forwarded command.
(Log entry 102: DEDUCED, unsafe) -/
def Hub.leaveNow (s : Hub) : Hub :=
  match s.pr.leaveAt with
  | none => s
  | some f =>
    if s.frame + 1 < f then s
    else
      let s := { s.setBit PAIR_CTRL 0 false with pr := { s.pr with revertAt := none, valid := 0, capsOk := false } }
      (((s.setBit PAIR_STATUS 9 false).setPairState 0).showSlaved).coldAll

/-- The last pair carriage has been sent. -/
def Hub.leaveDone (s : Hub) : Hub :=
  match s.pr.leaveAt with
  | none => s
  | some f =>
    if s.frame < f then s
    else { s.setBit PAIR_CTRL 1 false with pr := { s.pr with leaveAt := none, blocks := [], hashes := [] } }

/-- Frame-tick work of the pair, before the lanes send. -/
def Hub.pairTick (s : Hub) : Hub :=
  let s := s.showHealth.takeBlocks
  let s := s.sidRemove 49 fun it => match it with | .block c _ _ => (s.frameOf c 17).isNone | _ => true
  let s := if s.pairState = 3 ∧ s.modesOk then s.showModes false else s
  s.formPair.shadowReport.pairSend.leaveDone

/-! ### PAIR commands (R338, R339) -/

def pairJoinBody (p : List Byte) (s : Hub) : Reply × Hub :=
  let side := pl p 0 1
  guarded [(p.length ≠ 12, stBAD_LEN), (side > 1 ∨ s.fld TT_LAT 5 0 < 24 ∨ ¬ plZero p 1 3, stBAD_ARG), (s.mode ≠ mIDLE, stBAD_MODE),
    (s.joinSet, stBUSY)] s fun s =>
  let s := ((s.setFld PAIR_CTRL 1 0 (2 * side + 1)).setReg PAIR_PARTNER_LO (pl p 4 4)).setReg PAIR_PARTNER_HI (pl p 8 4)
  let s := { s with pr := { s.pr with valid := 0, capsOk := false, hbAt := s.frame, part := none } }.setPairState 1
  let s := (s.trainLane 7).trainLane 9
  okay [] (if s.pr.farMode = mLOADING then s.bootLane else s)

/-- A hub of a joined pair also sends a PAIR_LEAVE of its own sources on to its partner, so that both hubs leave. (Log entry 101: DEDUCED, unsafe) -/
def pairLeaveBody (src : Nat) (p : List Byte) (s : Hub) : Reply × Hub :=
  guarded [(p.length ≠ 0, stBAD_LEN), (¬ s.modeIn [mIDLE, mTEST], stBAD_MODE), (¬ s.joinSet, stDENIED)] s fun s =>
  let (c, t) := s.nextCross
  let s := if s.joined ∧ src ≠ 2 then (s.sendForward 0x0C02 []).2 else s
  okay (crossPayload c t) { s with pr := { s.pr with leaveAt := some (s.frame + 1) } }

def roleAssignBody (p : List Byte) (s : Hub) : Reply × Hub :=
  let role := pl p 0 1
  let epoch := pl p 1 1
  let f := pl p 2 1
  guarded [(p.length ≠ 4, stBAD_LEN), (role > 1 ∨ f > 1 ∨ ¬ plZero p 3 1, stBAD_ARG),
    (¬ newer epoch s.pairEpoch ∨ s.pairState = 0, stDENIED)] s fun s =>
  let s := (s.setFld PAIR_STATUS 31 24 epoch).setBit PAIR_STATUS 13 (f == 1)
  if s.leader = (role == 1) then
    let (c, t) := s.nextCross
    okay (crossPayload c t) s
  else (.later 0, ((s.setRole (role == 1) false).openGap).pairEvent)

def pairConfigBody (p : List Byte) (s : Hub) : Reply × Hub :=
  let en := pl p 0 1
  let hb := pl p 1 1
  let hold := pl p 2 2
  guarded [(p.length ≠ 4, stBAD_LEN), (en > 1 ∨ hb = 0 ∨ hold = 0, stBAD_ARG)] s fun s =>
  okay [] ((s.setBit PAIR_CTRL 2 (en == 1)).setReg PAIR_TIMING (hold * 2 ^ 16 + hb))

def pairStatusBody (p : List Byte) (s : Hub) : Reply × Hub :=
  guarded [(p.length ≠ 0, stBAD_LEN)] s fun s =>
  okay (words [s.reg PAIR_STATUS, s.reg PAIR_HEALTH, s.reg PAIR_REVERT, s.reg PAIR_SHADOW, s.reg PAIR_SKIP, s.reg PAIR_SWITCHES,
    s.reg PAIR_MARGIN]) s

def execPairJoin (h : Hdr) (p : List Byte) := lift fun s => s.command 0x0C01 h p (pairJoinBody p)
def execPairLeave (h : Hdr) (p : List Byte) := lift fun s => s.command 0x0C02 h p (pairLeaveBody h.src.val p)
def execRoleAssign (h : Hdr) (p : List Byte) := lift fun s => s.command 0x0C03 h p (roleAssignBody p)
def execPairConfig (h : Hdr) (p : List Byte) := lift fun s => s.command 0x0C04 h p (pairConfigBody p)
def execPairStatus (h : Hdr) (p : List Byte) := lift fun s => s.command 0x0C05 h p (pairStatusBody p)

end Sys2Proof.Machine
end

