-- ==== Sys2Proof/Machine/Mon.lean ====
section
/-! DEFINITION. Structure monitoring: the crosspoint, excitation sources, housekeeping converter and sequencers, the always-on
comparators, the loop transmitters and the MON and LOOP commands (14_monitoring_and_loops.md). -/

namespace Sys2Proof.Machine

/-- PD9 is on (R21, R445). -/
def Hub.auxOn (s : Hub) : Bool := s.fwRuns && s.bit RP_PD_STATUS 9

def Hub.seqst (s : Hub) (q : Nat) : SeqSt := tget (fun _ => {}) s.mon.seqs q
def Hub.setSeqst (s : Hub) (q : Nat) (x : SeqSt) : Hub := { s with mon := { s.mon with seqs := tset (fun _ => {}) s.mon.seqs q x } }
def Hub.loopst (s : Hub) (n : Nat) : LoopSt := tget (fun _ => {}) s.mon.loops n
def Hub.setLoopst (s : Hub) (n : Nat) (x : LoopSt) : Hub := { s with mon := { s.mon with loops := tset (fun _ => {}) s.mon.loops n x } }
def Hub.setRun (s : Hub) (r : Option HkRun) : Hub := { s with mon := { s.mon with run := r } }

/-! ### Settle timers (R342, R345, R354) -/

/-- The runs of a settle timer, oldest first: 0 and 1 the sources, 2 the crosspoint, 5 and 6 a source's while it is enabled. -/
def Hub.timers (s : Hub) (k : Nat) : List (Nat × Nat) := tget (fun _ => []) s.mon.timers k

/-- XO cycles for which a past run of a settle timer can still overlap a sampling time. -/
def settleKept : Nat := 6000

/-- Start a settle timer, or start it again: a run in progress ends here. -/
def Hub.startTimer (s : Hub) (k len : Nat) : Hub :=
  let old := (s.timers k).filterMap fun (r : Nat × Nat) =>
    if r.2 + settleKept < s.xo then none else some (r.1, min r.2 s.xo)
  { s with mon := { s.mon with timers := tset (fun _ => []) s.mon.timers k (old ++ [(s.xo, s.xo + len)]) } }

/-- The end of the last run of a settle timer. -/
def Hub.timerEnd (s : Hub) (k : Nat) : Nat := match (s.timers k).getLast? with | some r => r.2 | none => 0

/-- A source begins to show a fault, or shows none any more (R344). -/
def Hub.markFault (s : Hub) (x : Nat) (on : Bool) : Hub :=
  let runs := s.timers (3 + x)
  let old := fun (rs : List (Nat × Nat)) => rs.filter fun r => decide (s.xo ≤ r.2 + settleKept)
  let runs := if on then old runs ++ [(s.xo, s.xo)]
    else match runs.getLast? with | some r => old runs.dropLast ++ [(r.1, s.xo)] | none => [(s.xo, s.xo)]
  { s with mon := { s.mon with timers := tset (fun _ => []) s.mon.timers (3 + x) runs } }

/-- A source shows ILIM or SENSE_FAULT. -/
def Hub.excBad (s : Hub) (x : Nat) : Bool := s.fld (MON_EXC_STAT x) 1 0 != 0

/-- Set what a source shows, and note when that begins or ends. -/
def Hub.showFault (s : Hub) (x v : Nat) : Hub :=
  let old := s.excBad x
  let s := s.setFld (MON_EXC_STAT x) 1 0 v
  if s.excBad x = old then s else s.markFault x (s.excBad x)

/-- A source showed a fault at some time from `a` until `b`. -/
def Hub.badDuring (s : Hub) (x a b : Nat) : Bool :=
  let runs := s.timers (3 + x)
  (s.excBad x && (match runs.getLast? with | some r => decide (r.1 < b) | none => true)) || runs.any fun r => decide (r.1 < b) && decide (a ≤ r.2)

/-- A settle timer ran at some time from `a` until `b`. -/
def Hub.ranDuring (s : Hub) (k a b : Nat) : Bool := (s.timers k).any fun r => decide (max r.1 a < min r.2 b)

/-- EN_NOW and POL_NOW of a source. -/
def Hub.excNow (s : Hub) (x : Nat) : Bool × Bool := (s.bit (MON_EXC_STAT x) 3, s.bit (MON_EXC_STAT x) 4)

/-- A source's settle timer starts (R345); what of the run falls while the source is enabled is kept for R354. -/
def Hub.settleExc (s : Hub) (x : Nat) : Hub :=
  let len := s.fld (MON_EXC x) 23 16 * 10 * xoUs
  ((s.startTimer x len).startTimer (5 + x) (if (s.excNow x).1 then len else 0)).setBit (MON_EXC_STAT x) 2 true

/-- Apply EN and POL to a source. With EN = 0 its pins are Hi-Z, so neither fault condition holds (R343, R344). (Log entry 111: DEDUCED, unsafe) -/
def Hub.applyExc (s : Hub) (x : Nat) (en pol : Bool) : Hub :=
  if s.excNow x = (en, pol) then s
  else
    let s := (s.setBit (MON_EXC_STAT x) 3 en).setBit (MON_EXC_STAT x) 4 pol
    (if en then s else s.showFault x 0).settleExc x

/-- The source that an entry's words name; none when EXC = 0, or when POS is 33 to 35 (R348). -/
def entryExc (a : Nat) : Option Nat := if bits a 22 21 = 0 ∨ 33 ≤ bits a 5 0 then none else some (bits a 23 23)

/-- The entry in progress has a source's EN and POL (R346). -/
def Hub.ownsExc (s : Hub) (x : Nat) : Bool := match s.mon.run with | some r => entryExc r.a == some x | none => false

/-- The static EN and POL of a source, unless an entry overrides them (R346). -/
def Hub.applyStatic (s : Hub) (x : Nat) : Hub :=
  if s.ownsExc x then s else s.applyExc x (s.bit (MON_EXC x) 31) (s.bit (MON_EXC x) 30)

/-- A new MON_EXC word: LEVEL applies at once, EN and POL at the end of an entry that overrides them (R346). -/
def Hub.setExc (s : Hub) (x w : Nat) : Hub :=
  let old := s.fld (MON_EXC x) 11 0
  let s := s.setReg (MON_EXC x) w
  (if bits w 11 0 = old then s else s.settleExc x).applyStatic x

/-- New ROLE and IBIAS of a pin; a change starts the crosspoint settle timer (R340, R342). -/
def Hub.setPin (s : Hub) (n role ibias : Nat) : Hub :=
  let w := ibias * 2 ^ 8 + role
  if s.reg (MON_PIN n) = w then s
  else ((s.setReg (MON_PIN n) w).startTimer 2 (100 * xoUs)).setBit MON_STATUS 0 true

/-- CROSSPOINT_SETTLE_END and EXC_SETTLE_END; an entry that waits for its source then goes on (R351). -/
def execCrosspointSettleEnd := lift fun s =>
  if s.auxOn ∧ s.bit MON_STATUS 0 ∧ s.timerEnd 2 ≤ s.xo then s.setBit MON_STATUS 0 false else s

/-- XO cycles of the converter's start-up (R347). -/
def startUp : Nat := 2 * xoUs

/-- The sources that an entry watches under ISO (R350, R354). Without ISO it watches the sources that are enabled while it samples: one that is
not has no fault, and no run of its settle timer counts. -/
def watched (a : Nat) : List Nat := if bitAt a 24 then (entryExc a).toList else [0, 1]

def Hub.excSettled (s : Hub) (x : Nat) : Hub :=
  if ¬ s.auxOn ∨ ¬ s.bit (MON_EXC_STAT x) 2 ∨ s.xo < s.timerEnd x then s
  else
    let s := s.setBit (MON_EXC_STAT x) 2 false
    match s.mon.run with
    | some r => if r.waiting ∧ entryExc r.a = some x then s.setRun (some { r with waiting := false, next := s.timerEnd x + startUp }) else s
    | none => s

def execExcSettleEnd (x : Fin 2) := lift fun s => s.excSettled x.val

/-! ### Faults of sources and pins (R342, R344) -/

/-- EXC_FAULT_ONSET: ILIM (cause 0) or SENSE_FAULT (cause 1) of an enabled source. (Log entry 112: DEDUCED, unsafe) -/
def Hub.excOnset (s : Hub) (x : Nat) (sense : Bool) : Hub :=
  let k := b2n sense
  if ¬ s.auxOn ∨ ¬ (s.excNow x).1 ∨ s.bit (MON_EXC_STAT x) k then s
  else
    let s := (s.showFault x (s.fld (MON_EXC_STAT x) 1 0 + 2 ^ k)).setBit MON_STATUS (8 + 2 * k + x) true
    s.emit 0x0D01 [x, k]

def execExcFaultOnset (x : Fin 2) (sense : Bool) := lift fun s => s.excOnset x.val sense
def execExcFaultClear (x : Fin 2) (sense : Bool) := lift fun s =>
  if s.auxOn then s.showFault x.val (putBits (s.fld (MON_EXC_STAT x.val) 1 0) (b2n sense) (b2n sense) 0) else s

/-- MON_PIN_LIMIT: an output or bias pin reaches its limit. -/
def execMonPinLimit (n : Fin 32) := lift fun s =>
  if s.auxOn ∧ s.fld (MON_PIN n.val) 1 0 ≠ 0 then s.setBit MON_PIN_ILIM n.val true else s

/-! ### Sequencers (R349, R353) -/

/-- A pass starts: LEN and MODE hold for it (R353). -/
def Hub.startPass (s : Hub) (q : Nat) (x : SeqSt) : Hub :=
  let m := s.fld (MON_SEQ_CTRL q) 1 0
  ((s.setSeqst q { x with pass := true, mode := m, idx := 0, len := s.fld (MON_SEQ_CTRL q) 8 4, req := false }).setBit MON_STATUS (4 + q) true).setFld
    (MON_SEQ_STAT q) 3 0 0

/-- HK_SEQ_PASS_START: continuous with no pass in progress, periodic when due (skipped during a pass), single on request. -/
def Hub.passStart (s : Hub) (q : Nat) : Hub :=
  let x := s.seqst q
  let mode := if x.pass then x.mode else s.fld (MON_SEQ_CTRL q) 1 0
  let next := { x with next := x.next + s.fld (MON_SEQ_CTRL q) 31 16 * 100 * xoUs }
  if ¬ s.auxOn then s
  else if mode = 1 ∧ ¬ x.pass then s.startPass q x
  else if mode = 2 ∧ x.next ≤ s.xo then
    if x.pass then (s.setSeqst q next).incSat (MON_SEQ_STAT q) 15 8 else s.startPass q next
  else if mode = 3 ∧ ¬ x.pass ∧ x.req then s.startPass q x
  else s

def execHkSeqPassStart (q : Fin 4) := lift fun s => s.passStart q.val

/-- A new MODE applies: a periodic sequencer is due at once, and a request for a single pass lapses. (Log entry 116: DEDUCED, unsafe) -/
def Hub.newSeqMode (s : Hub) (q : Nat) : Hub := s.setSeqst q { s.seqst q with next := s.xo, req := false }

/-- New MODE, LEN and PERIOD; MODE and LEN apply at the end of the pass in progress (R353). -/
def Hub.setSeqCtrl (s : Hub) (q w : Nat) : Hub :=
  let same := s.fld (MON_SEQ_CTRL q) 1 0 = bits w 1 0
  let s := s.setReg (MON_SEQ_CTRL q) w
  if same ∨ (s.seqst q).pass then s else s.newSeqMode q

/-! ### Entries (R351-R356) -/

/-- A field of the entry's words that R350 reserves. -/
def entryOk (a b : Nat) : Bool :=
  decide (bits a 5 0 ≤ 35) && decide (bits a 11 6 ≤ 32) && bits a 31 30 == 0 &&
    (!bitAt a 25 || decide (toS 16 (bits b 15 0) ≤ toS 16 (bits b 31 16)))

/-- Write an entry; its window is ARMED again (R353, R356). -/
def Hub.setEntry (s : Hub) (q e a b : Nat) : Hub :=
  let s := ((s.setReg (MON_ENTRY_A q e) a).setReg (MON_ENTRY_B q e) b).setBit (MON_RES q e) 31 false
  { s with mon := { s.mon with inBand := tset (fun _ => 0) s.mon.inBand (16 * q + e) 0 } }

/-- A phase starts: the entry's setting of its source, the wait for its settle timer, the conversions to come (R351).
(Log entry 110: DEDUCED, unsafe) -/
def Hub.startPhase (s : Hub) (r : HkRun) : Hub :=
  let r := { r with discard := bits r.a 29 26, left := 2 ^ bits r.a 20 18, sum := 0, next := if r.phase = 0 then s.xo + startUp else r.next }
  match entryExc r.a with
  | none => s.setRun (some r)
  | some x =>
    let s := s.setRun (some r)
    let s := s.applyExc x true (bits r.a 22 21 == 2 || (bits r.a 22 21 == 3 && r.phase == 1))
    s.setRun (some { r with waiting := s.bit (MON_EXC_STAT x) 2 })

/-- HK_ENTRY_START: the free converter takes the entry of the lowest sequencer that has one, in an HK frame when gated (R352). -/
def Hub.entryStart (s : Hub) : Hub :=
  match (List.range 4).find? fun q => (s.seqst q).pass with
  | none => s
  | some q =>
    if ¬ s.auxOn ∨ s.mon.run.isSome ∨ (s.bit TT_CTRL 7 ∧ ¬ s.now.hk) then s
    else
      let e := (s.seqst q).idx
      let s := s.setBit (MON_SEQ_STAT q) 4 true
      s.startPhase { seq := q, entry := e, a := s.reg (MON_ENTRY_A q e), b := s.reg (MON_ENTRY_B q e), warn := s.bit RP_SUPPLY 8 }

def execHkEntryStart := lift Hub.entryStart

/-- XO cycles of a sampling time (R350). -/
def sampleXo (a : Nat) : Nat := [20, 40, 80, 160, 320, 640, 1280, 5120].getD (bits a 17 15) 20

/-- XO cycles of one conversion: its sampling time and 0.5 us (R347). -/
def convXo (a : Nat) : Nat := sampleXo a + 20

/-- HK_CONVERSION: one conversion of the entry in progress completes, 0.5 us after its sampling time (R347, R351, R354); conversions of a
phase run back to back. (Log entry 120: DEDUCED, safe) -/
def Hub.conversion (s : Hub) (value : Int) (clip : Bool) : Hub :=
  match s.mon.run with
  | none => s
  | some r =>
    if ¬ s.auxOn ∨ r.waiting ∨ r.result.isSome ∨ s.xo < r.next + convXo r.a then s
    else
      let start := r.next
      let stop := start + sampleXo r.a
      let r := { r with next := start + convXo r.a }
      if r.discard > 0 then s.setRun (some { r with discard := r.discard - 1 })
      else
        let v := max (-32767) (min value 32767)
        let settling := s.ranDuring 2 start stop || (watched r.a).any fun x => s.ranDuring (5 + x) start stop
        let bad := (watched r.a).any fun x => s.badDuring x start stop
        let r := { r with sum := r.sum + v, left := r.left - 1, ovr := r.ovr || clip || v.natAbs == 32767,
                          settling := r.settling || settling, exc := r.exc || bad, warn := r.warn || s.bit RP_SUPPLY 8 }
        if r.left > 0 then s.setRun (some r)
        else
          let mean := rdiv r.sum ((2 ^ bits r.a 20 18 : Nat) : Int)
          if (entryExc r.a).isSome ∧ bits r.a 22 21 = 3 then
            if r.phase = 0 then s.startPhase { r with phase := 1, first := mean }
            else s.setRun (some { r with result := some (rdiv (r.first - mean) 2) })
          else s.setRun (some { r with result := some mean })

def execHkConversion (value : Int) (clip : Bool) := lift fun s => s.conversion value clip

/-- Compare a result with its window (R356). -/
def Hub.windowCheck (s : Hub) (r : HkRun) (v : Int) : Hub :=
  if ¬ bitAt r.a 25 ∨ r.settling ∨ r.exc then s
  else
    let k := 16 * r.seq + r.entry
    let res := MON_RES r.seq r.entry
    let below := decide (v < toS 16 (bits r.b 15 0))
    let above := decide (v > toS 16 (bits r.b 31 16))
    let n := tget (fun _ => 0) s.mon.inBand k
    let setBand := fun (s : Hub) (c : Nat) => { s with mon := { s.mon with inBand := tset (fun _ => 0) s.mon.inBand k c } }
    if below ∨ above then
      let s := setBand s 0
      if s.bit res 31 then s
      else
        let s := (s.setBit res 31 true).setBit (if r.seq < 2 then MON_WIN_EV0 else MON_WIN_EV1) (16 * (r.seq % 2) + r.entry) true
        s.emit 0x0D02 [r.seq, r.entry, sword v, b2n above, s.tt.crossing, s.tt.turn]
    else if s.bit res 31 ∧ n + 1 ≥ 4 then (setBand s 0).setBit res 31 false
    else setBand s (if s.bit res 31 then n + 1 else 0)

/-- The words of a sequencer's results. -/
def Hub.resWords (s : Hub) (q n : Nat) : List Byte := words ((List.range n).map fun e => s.reg (MON_RES q e))

/-- The next entry of the pass, or its end (R349). -/
def Hub.nextEntry (s : Hub) (q : Nat) : Hub :=
  let x := s.seqst q
  if x.idx + 1 < x.len then (s.setSeqst q { x with idx := x.idx + 1 }).setFld (MON_SEQ_STAT q) 3 0 (x.idx + 1)
  else
    let s := (s.setSeqst q { x with pass := false, idx := 0 }).setFld (MON_SEQ_STAT q) 3 0 0
    let s := (s.setBit MON_STATUS (4 + q) false).incWrap (MON_SEQ_STAT q) 31 16
    let s := if s.fld (MON_SEQ_CTRL q) 1 0 = x.mode then s else s.newSeqMode q
    s.complete (fun d => d.op = 0x0D05 ∧ d.arg = q) stOK (s.resWords q x.len)

/-- HK_ENTRY_END: the result is written, the static excitation restored and the window judged (R351, R355, R356). -/
def Hub.entryEnd (s : Hub) : Hub :=
  match s.mon.run with
  | none => s
  | some r => match r.result with
    | none => s
    | some v =>
      let res := MON_RES r.seq r.entry
      let s := ((s.incWrap res 23 16).setFld res 15 0 (ofS 16 v)).setFld res 30 27
        (b2n r.settling * 8 + b2n r.exc * 4 + b2n r.ovr * 2 + b2n (r.warn || s.bit RP_SUPPLY 8))
      let s := s.setRun none
      let s := match entryExc r.a with | some x => s.applyStatic x | none => s
      let s := s.windowCheck r v
      let s := if r.settling ∨ r.exc then s
        else { s with mon := { s.mon with good := tset (fun _ => (0, 0, false)) s.mon.good (16 * r.seq + r.entry) (s.xo, v, r.ovr) } }
      (s.setBit (MON_SEQ_STAT r.seq) 4 false).nextEntry r.seq

def execHkEntryEnd := lift fun s => if s.auxOn then s.entryEnd else s

/-! ### Always-on comparators (R357-R359) -/

/-- AONC_TRIP: the condition of comparator k has held for its debounce time. In DORMANT, WAKE begins the exit. -/
def Hub.aoncTrip (s : Hub) (k : Nat) : Hub :=
  if ¬ s.bit (AONC_CFG k) 31 then s
  else
    let was := s.bit AONC_STATUS k
    let s := (s.setBit AONC_STATUS (4 + k) true).setBit AONC_STATUS k true
    let s := if s.mode = mDORMANT ∧ s.bit (AONC_CFG k) 28 then s.setBit AONC_STATUS (8 + k) true else s
    if was then s else s.emit 0x0D03 [s.fld AONC_STATUS 3 0, s.fld AONC_STATUS 11 8]

def execAoncTrip (k : Fin 4) := lift fun s => s.aoncTrip k.val
def execAoncRelease (k : Fin 4) := lift fun s => s.setBit AONC_STATUS (4 + k.val) false

/-- TRIPPED bits of a mask are cleared; without a debounce time one whose condition still holds sets again at once (R358). -/
def Hub.clearTripped (s : Hub) (mask : Nat) : Hub :=
  let again := fun (s : Hub) (k : Nat) => s.bit AONC_STATUS k && bitAt mask k && s.bit AONC_STATUS (4 + k) && s.fld (AONC_CFG k) 27 26 == 0
  let ks := (List.range 4).filter (again s)
  let s := s.eachBit 4 mask fun s k => s.setBit AONC_STATUS k false
  s.each ks Hub.aoncTrip

/-- Set a comparator; one that is off has no condition. (Log entry 117: DEDUCED, unsafe) -/
def Hub.setAonc (s : Hub) (k w : Nat) : Hub :=
  let s := s.setReg (AONC_CFG k) w
  if bitAt w 31 then s else s.setBit AONC_STATUS (4 + k) false

/-- ALERT_N is low while a TRIPPED bit whose comparator has ALERT is set (R358). -/
def Hub.alertLow (s : Hub) : Bool := (List.range 4).any fun k => s.bit AONC_STATUS k && s.bit (AONC_CFG k) 29

/-! ### Loops (R360-R364) -/

/-- The last usable result of an entry. -/
def Hub.goodRes (s : Hub) (q e : Nat) : Option (Nat × Int × Bool) :=
  let g := tget (fun _ => (0, 0, false)) s.mon.good (16 * q + e)
  if g = (0, 0, false) then none else some g

/-- The entries that a loop's source names: (SEQ, ENTRY), and in SRC 2 (SEQ_B, ENTRY_B). -/
def Hub.loopNames (s : Hub) (n : Nat) : List (Nat × Nat) :=
  let w := s.reg (LOOP_SRC n)
  let a := (bits w 7 6, bits w 3 0)
  match s.fld (LOOP_CTRL n) 1 0 with
  | 1 => [a]
  | 2 => [a, (bits w 15 14, bits w 11 8)]
  | _ => []

/-- The conditions of R362 as bits 0 to 3 of LOOP_FLT: STALE, FW_STALE, OVR, SEQ_OFF. -/
def Hub.loopCond (s : Hub) (n : Nat) : Nat :=
  let names := s.loopNames n
  let limit := s.fld (LOOP_CTRL n) 15 8 * 10 * xoMs
  let stale := names.any fun x => match s.goodRes x.1 x.2 with | some g => decide (g.1 + limit < s.xo) | none => true
  let fw := s.fld (LOOP_CTRL n) 1 0 == 2 && (match (s.loopst n).fwAt with | some t => decide (t + limit < s.xo) | none => true)
  let ovr := names.any fun x => match s.goodRes x.1 x.2 with | some g => g.2.2 | none => false
  let off := names.any fun x => s.fld (MON_SEQ_CTRL x.1) 1 0 == 0
  b2n stale + 2 * b2n fw + 4 * b2n ovr + 8 * b2n off

/-- The scaling of R361, clamped to 7 600 to 41 000. -/
def scaleLoop (zero span v : Int) : Nat :=
  let p := (v - zero) * 32000
  let q := if span < 0 then rdiv (-p) (-span) else rdiv p span
  (max 7600 (min 41000 (8000 + q))).toNat

/-- The CODE of a normal update. -/
def Hub.loopCode (s : Hub) (n : Nat) : Nat :=
  let zero := toS 16 (s.fld (LOOP_SCALE n) 31 16)
  let span := toS 16 (s.fld (LOOP_SCALE n) 15 0)
  match s.fld (LOOP_CTRL n) 1 0 with
  | 0 => s.fld (LOOP_SET n) 15 0
  | 1 => scaleLoop zero span (match s.goodRes (s.fld (LOOP_SRC n) 7 6) (s.fld (LOOP_SRC n) 3 0) with | some g => g.2.1 | none => 0)
  | _ => scaleLoop zero span (toS 16 (s.fld (LOOP_FW n) 15 0))

/-- Record the onset of loop cause i and report it (R362, R363). (Log entry 114: DEDUCED, unsafe) -/
def Hub.loopFault (s : Hub) (n i : Nat) : Hub := ((s.setBit (LOOP_FLT n) i true).incSat (LOOP_FLT n) 31 16).emit 0x0F01 []

/-- The update of a loop at time `at_` of the XO (R361, R362). -/
def Hub.loopTake (s : Hub) (n at_ : Nat) : Hub :=
  let x := s.loopst n
  let on := s.bit (LOOP_CTRL n) 31
  let cond := if on then s.loopCond n else 0
  let high := s.bit (LOOP_CTRL n) 30
  let code := if ¬ on then 0 else if cond = 0 then s.loopCode n else if high then 42000 else 7200
  let state := if ¬ on then 0 else if cond = 0 then 1 else if high then 3 else 2
  let s := (((s.setReg (LOOP_NOW n) (state * 2 ^ 16 + code)).setBit LOOP_STATUS n on).setBit LOOP_STATUS (4 + n) (cond != 0)).setLoopst n
    { x with missed := false, cond := cond, readOf := x.readOf ++ [at_] }
  s.each (List.range 4) fun s i => if bitAt cond i ∧ ¬ bitAt x.cond i then s.loopFault n i else s

/-- LOOP_UPDATE: every 10 ms of the XO. In a switch-over gap no update is taken and the current holds (R364). (Log entry 113: DEDUCED, unsafe) -/
def Hub.loopUpdate (s : Hub) (n : Nat) : Hub :=
  let x := s.loopst n
  if ¬ s.auxOn ∨ s.xo < x.at_ + 10 * xoMs then s
  else
    let at_ := x.at_ + (s.xo - x.at_) / (10 * xoMs) * (10 * xoMs)
    let s := s.setLoopst n { x with at_ := at_ }
    if s.inGap then s else s.loopTake n at_

def execLoopUpdate (n : Fin 4) := lift fun s => s.loopUpdate n.val

/-- In a switch-over gap a loop that is on holds its current; the first update after it is taken at the frame tick that follows (R364).
(Log entry 115: DEDUCED, unsafe) -/
def Hub.loopTick (s : Hub) : Hub :=
  if ¬ s.auxOn then s
  else s.each (List.range 4) fun s n =>
    if s.inGap then
      let s := s.setLoopst n { s.loopst n with missed := true }
      if s.fld (LOOP_NOW n) 19 16 = 0 then s else s.setFld (LOOP_NOW n) 19 16 4
    else if (s.loopst n).missed then s.loopTake n s.xo
    else s

/-- LOOP_READBACK: the current measured 5 ms after an update, the oldest not yet measured, in 0.5 uA (R363). (Log entry 120: DEDUCED, safe) -/
def Hub.loopReadback (s : Hub) (n current : Nat) : Hub :=
  let x := s.loopst n
  match x.readOf with
  | [] => s
  | t :: rest =>
  if ¬ s.auxOn ∨ s.xo < t + 5 * xoMs then s
  else
    let code := s.fld (LOOP_NOW n) 15 0
    let low := if s.bit LOOP_STATUS n ∧ current < 2000 then x.low + 1 else 0
    let dev := if ((current : Int) - code).natAbs > 400 then x.dev + 1 else 0
    let s := (s.setReg (LOOP_READ n) current).setLoopst n { x with readOf := rest, low := low, dev := dev }
    let s := if low = 2 ∨ (low > 2 ∧ ¬ s.bit (LOOP_FLT n) 4) then s.loopFault n 4 else s
    if dev = 3 ∨ (dev > 3 ∧ ¬ s.bit (LOOP_FLT n) 5) then s.loopFault n 5 else s

def execLoopReadback (n : Fin 4) (current : BitVec 16) := lift fun s => s.loopReadback n.val current.toNat

/-- VAL under FN from results A and B (R361). -/
def loopFn (fn : Nat) (a b : Int) : Int :=
  match fn with
  | 0 => max a b
  | 1 => min a b
  | 2 => satS 16 (a - b)
  | _ => rdiv (a + b) 2

/-- LOOP_FW_WRITE: firmware forms VAL from the latest results of A and B; not in a switch-over gap (R328, R361). -/
def Hub.loopFwWrite (s : Hub) (n : Nat) : Hub :=
  if ¬ s.auxOn ∨ s.inGap ∨ s.fld (LOOP_CTRL n) 1 0 ≠ 2 then s
  else match (s.loopNames n).map fun x => s.goodRes x.1 x.2 with
    | [some a, some b] =>
      (s.setReg (LOOP_FW n) (ofS 16 (loopFn (s.fld (LOOP_SRC n) 17 16) a.2.1 b.2.1))).setLoopst n { s.loopst n with fwAt := some s.xo }
    | _ => s

def execLoopFwWrite (n : Fin 4) := lift fun s => s.loopFwWrite n.val

/-! ### MON commands (R367, R368) -/

/-- (Log entry 119: DEDUCED, unsafe) -/
def monPinSetBody (p : List Byte) (s : Hub) : Reply × Hub :=
  let first := pl p 0 1
  let count := pl p 1 1
  let role := fun i => pl p (4 + 2 * i) 1
  let ibias := fun i => pl p (5 + 2 * i) 1
  let ok := fun k => decide (1 ≤ k) && decide (k ≤ 100)
  guarded [(p.length ≠ 4 + 2 * count, stBAD_LEN),
    (count = 0 ∨ first + count > 32 ∨ ¬ plZero p 2 2 ∨
      (List.range count).any (fun i => decide (role i > 3) || (role i == 3 && !ok (ibias i))), stBAD_ARG)] s fun s =>
  okay [] (s.each (List.range count) fun s i =>
    s.setPin (first + i) (role i) (if ok (ibias i) then ibias i else s.fld (MON_PIN (first + i)) 14 8))

def monExcSetBody (p : List Byte) (s : Hub) : Reply × Hub :=
  let x := pl p 0 1
  let level := pl p 4 2
  guarded [(p.length ≠ 8, stBAD_LEN),
    (x > 1 ∨ pl p 1 1 > 1 ∨ pl p 2 1 > 1 ∨ pl p 3 1 = 0 ∨ level > 4000 ∨ ¬ plZero p 6 2, stBAD_ARG)] s fun s =>
  okay [] (s.setExc x (pl p 1 1 * 2 ^ 31 + pl p 2 1 * 2 ^ 30 + pl p 3 1 * 2 ^ 16 + level))

def monSeqWriteBody (p : List Byte) (s : Hub) : Reply × Hub :=
  let q := pl p 0 1
  let first := pl p 1 1
  let count := pl p 2 1
  let a := fun i => pl p (4 + 8 * i) 4
  let b := fun i => pl p (8 + 8 * i) 4
  guarded [(p.length ≠ 4 + 8 * count, stBAD_LEN),
    (q > 3 ∨ count = 0 ∨ first + count > 16 ∨ ¬ plZero p 3 1 ∨ (List.range count).any (fun i => !entryOk (a i) (b i)), stBAD_ARG)] s fun s =>
  okay [] (s.each (List.range count) fun s i => s.setEntry q (first + i) (a i) (b i))

/-- (Log entry 119: DEDUCED, unsafe) -/
def monSeqCtrlBody (p : List Byte) (s : Hub) : Reply × Hub :=
  let q := pl p 0 1
  let mode := pl p 1 1
  let len := pl p 2 1
  let period := pl p 4 2
  guarded [(p.length ≠ 8, stBAD_LEN),
    (q > 3 ∨ mode > 3 ∨ len = 0 ∨ len > 16 ∨ (period = 0 ∧ mode = 2) ∨ ¬ plZero p 3 1 ∨ ¬ plZero p 6 2, stBAD_ARG)] s fun s =>
  okay [] (s.setSeqCtrl q ((if period = 0 then s.fld (MON_SEQ_CTRL q) 31 16 else period) * 2 ^ 16 + len * 16 + mode))

def monSeqRunBody (p : List Byte) (s : Hub) : Reply × Hub :=
  let q := pl p 0 1
  guarded [(p.length ≠ 4, stBAD_LEN), (q > 3 ∨ ¬ plZero p 1 3, stBAD_ARG),
    (s.fld (MON_SEQ_CTRL q) 1 0 ≠ 3 ∨ (s.seqst q).pass ∨ (s.seqst q).req, stBUSY)] s fun s =>
  (.later q, s.setSeqst q { s.seqst q with req := true })

def monReadBody (p : List Byte) (s : Hub) : Reply × Hub :=
  let q := pl p 0 1
  guarded [(p.length ≠ 4, stBAD_LEN), (q > 3 ∨ ¬ plZero p 1 3, stBAD_ARG)] s fun s =>
  okay (leBytes 4 (s.reg (MON_SEQ_STAT q)) ++ s.resWords q 16) s

/-- AONC_CFG bits that are not reserved, with THRESH in its range (R365). -/
def aoncOk (w : Nat) : Bool := w &&& 0xFF0703FF == w && decide (bits w 9 0 ≤ 1000)

def monAoncSetBody (p : List Byte) (s : Hub) : Reply × Hub :=
  let k := pl p 0 1
  let w := pl p 4 4
  guarded [(p.length ≠ 8, stBAD_LEN), (k > 3 ∨ ¬ aoncOk w ∨ ¬ plZero p 1 3, stBAD_ARG)] s fun s => okay [] (s.setAonc k w)

def monStatusBody (p : List Byte) (s : Hub) : Reply × Hub :=
  let f := pl p 0 1
  guarded [(p.length ≠ 4, stBAD_LEN), (f > 1 ∨ ¬ plZero p 1 3, stBAD_ARG)] s fun s =>
  let out := words ([MON_STATUS, MON_PIN_ILIM, MON_WIN_EV0, MON_WIN_EV1, MON_EXC_STAT 0, MON_EXC_STAT 1, AONC_STATUS].map s.reg)
  okay out (if f = 0 then s
    else (((((s.setFld MON_STATUS 11 8 0).setReg MON_PIN_ILIM 0).setReg MON_WIN_EV0 0).setReg MON_WIN_EV1 0).setFld AONC_STATUS 11 8 0).clearTripped 15)

def execMonPinSet (h : Hdr) (p : List Byte) := lift fun s => s.command 0x0D01 h p (monPinSetBody p)
def execMonExcSet (h : Hdr) (p : List Byte) := lift fun s => s.command 0x0D02 h p (monExcSetBody p)
def execMonSeqWrite (h : Hdr) (p : List Byte) := lift fun s => s.command 0x0D03 h p (monSeqWriteBody p)
def execMonSeqCtrl (h : Hdr) (p : List Byte) := lift fun s => s.command 0x0D04 h p (monSeqCtrlBody p)
def execMonSeqRun (h : Hdr) (p : List Byte) := lift fun s => s.command 0x0D05 h p (monSeqRunBody p)
def execMonRead (h : Hdr) (p : List Byte) := lift fun s => s.command 0x0D06 h p (monReadBody p)
def execMonAoncSet (h : Hdr) (p : List Byte) := lift fun s => s.command 0x0D07 h p (monAoncSetBody p)
def execMonStatus (h : Hdr) (p : List Byte) := lift fun s => s.command 0x0D08 h p (monStatusBody p)

/-! ### LOOP commands (R369, R370) -/

def loopConfigBody (p : List Byte) (s : Hub) : Reply × Hub :=
  let n := pl p 0 1
  let b := fun i => pl p i 1
  guarded [(p.length ≠ 16, stBAD_LEN),
    (n > 3 ∨ b 1 > 1 ∨ b 2 > 2 ∨ b 3 > 1 ∨ b 4 > 3 ∨ b 6 > 3 ∨ b 5 > 15 ∨ b 7 > 15 ∨ b 8 > 3 ∨ b 9 = 0 ∨ pl p 14 2 = 0 ∨ ¬ plZero p 10 2,
      stBAD_ARG)] s fun s =>
  okay [] (((s.setReg (LOOP_CTRL n) (b 1 * 2 ^ 31 + b 3 * 2 ^ 30 + b 9 * 2 ^ 8 + b 2)).setReg (LOOP_SRC n)
    (b 8 * 2 ^ 16 + b 6 * 2 ^ 14 + b 7 * 2 ^ 8 + b 4 * 2 ^ 6 + b 5)).setReg (LOOP_SCALE n) (pl p 12 2 * 2 ^ 16 + pl p 14 2))

def loopSetBody (p : List Byte) (s : Hub) : Reply × Hub :=
  let n := pl p 0 1
  let code := pl p 2 2
  guarded [(p.length ≠ 4, stBAD_LEN), (n > 3 ∨ code < 7200 ∨ code > 42000 ∨ ¬ plZero p 1 1, stBAD_ARG),
    (s.fld (LOOP_CTRL n) 1 0 ≠ 0, stDENIED)] s fun s => okay [] (s.setReg (LOOP_SET n) code)

def loopStatusBody (p : List Byte) (s : Hub) : Reply × Hub :=
  guarded [(p.length ≠ 0, stBAD_LEN)] s fun s =>
  okay (words (s.reg LOOP_STATUS :: (List.range 4).flatMap fun n => [s.reg (LOOP_NOW n), s.reg (LOOP_READ n), s.reg (LOOP_FLT n)])) s

def execLoopConfig (h : Hdr) (p : List Byte) := lift fun s => s.command 0x0F01 h p (loopConfigBody p)
def execLoopSet (h : Hdr) (p : List Byte) := lift fun s => s.command 0x0F02 h p (loopSetBody p)
def execLoopStatus (h : Hdr) (p : List Byte) := lift fun s => s.command 0x0F03 h p (loopStatusBody p)

end Sys2Proof.Machine
end

