-- ==== Sys2Proof/Machine/LedPulser.lean ====
section
/-! DEFINITION. The calibration LED pulser: patterns, regulation, the switching stage, proving and the LED commands
(15_led_pulser.md). -/

namespace Sys2Proof.Machine

/-! ### Settings in effect (R381) -/

/-- Field [hi:lo] and bit of an LED register in a set of settings. -/
def efld (eff : List (Nat × Nat)) (a hi lo : Nat) : Nat := bits (tget regReset eff a) hi lo
def ebit (eff : List (Nat × Nat)) (a i : Nat) : Bool := bitAt (tget regReset eff a) i

/-- Consecutive counts of the pulser. -/
def Hub.ledFails (s : Hub) (k : Nat) : Nat := tget (fun _ => 0) s.led.fails k
def Hub.setLedFails (s : Hub) (k v : Nat) : Hub := { s with led := { s.led with fails := tset (fun _ => 0) s.led.fails k v } }
def Hub.ledRun (s : Hub) (k : Nat) : Nat := tget (fun _ => 0) s.led.runs k
def Hub.setLedRun (s : Hub) (k v : Nat) : Hub := { s with led := { s.led with runs := tset (fun _ => 0) s.led.runs k v } }

/-- A declared fault remains in some row (R380). -/
def Hub.ledFaulty (s : Hub) : Bool := s.fld LED_STATUS 23 16 != 0 || (List.range 8).any fun r => s.reg (LED_FAULT r) != 0

/-- Clear the faults, darkness, disabled state and counts of the rows of a mask (R383). -/
def Hub.clearRows (s : Hub) (mask : Nat) : Hub :=
  let s := s.eachBit 8 mask fun s r =>
    let s := ((s.setReg (LED_FAULT r) 0).setBit LED_STATUS (16 + r) false).setBit LED_STATUS (24 + r) false
    (s.each (List.range 16) fun s c => s.setLedFails (16 * r + c) 0).setLedFails (256 + r) 0
  if s.ledFaulty then s else s.setBit LED_STATUS 2 false

/-- The target of the switching stage, kept within 2.50 V and VLED_MAX; at VLED_MAX it sets VLED_RAIL (R378). -/
def Hub.setVled (s : Hub) (v : Int) : Hub :=
  let top := efld s.led.eff LED_VLED 23 16
  let t := (max 50 (min v top)).toNat
  (s.setFld LED_VLED 15 8 t).setBit LED_STATUS 3 (t == top)

/-- The stage starts and stops with STAGE_EN; it starts at VLED_START (R377). -/
def Hub.ledStage (s : Hub) : Hub :=
  let on := s.auxOn && ebit s.led.eff LED_CTRL 0
  if on = s.bit LED_STATUS 0 then (if on then s.setVled (s.fld LED_VLED 15 8) else s)
  else
    let s := ((s.setBit LED_STATUS 0 on).setBit LED_STATUS 1 false).setLedRun 8 0
    if on then s.setVled (efld s.led.eff LED_VLED 7 0) else (s.setFld LED_VLED 15 8 0).setBit LED_STATUS 3 false

/-- Settings written in PULSE are taken at crossing 0 of a turn, others at the next frame tick (R381); in a switch-over gap they are
frozen (R328). (Log entry 128: DEDUCED, unsafe) -/
def Hub.ledSettings (s : Hub) : Hub :=
  if s.inGap ∨ (s.mode = mPULSE ∧ s.tt.crossing ≠ 0) then s
  else
    let s := s.clearRows s.led.clear
    { s with led := { s.led with clear := 0, eff := s.regs.filter fun (x : Nat × Nat) => decide (0x400D0000 ≤ x.1) && decide (x.1 < 0x400E0000) } }.ledStage

/-! ### Patterns (R371-R373) -/

/-- W of a pattern in ns. -/
def patWidth (eff : List (Nat × Nat)) (p : Nat) : Nat := efld eff (LED_PAT_A p) 17 8 + 4

/-- The sink code of LED (r, c) in a pattern (R373). -/
def ledCode (eff : List (Nat × Nat)) (adj p r c : Nat) : Nat :=
  min 255 (rdiv ((efld eff (LED_PAT_A p) 7 0 * efld eff (LED_BIN r c) 7 0 * adj : Nat) : Int) (128 * 32768)).toNat

/-- LED (r, c) fires in a pattern when its row is not disabled (R371). -/
def ledFires (eff : List (Nat × Nat)) (adj p r c : Nat) : Bool :=
  ebit eff (LED_PAT_A p) (24 + r) && ebit eff (LED_PAT_B p) (16 + c) && ebit eff (LED_PAT_B p) (efld eff (LED_BIN r c) 11 8) &&
    ledCode eff adj p r c != 0

/-- LED (r, c) fires in a proving pulse of its row (R379). -/
def ledProves (eff : List (Nat × Nat)) (r c : Nat) : Bool := ebit eff LED_PROVE (16 + c) && efld eff (LED_BIN r c) 7 0 != 0

/-- A burst fires an LED, and at this code. -/
def Burst.fires (b : Burst) (r c : Nat) : Bool :=
  b.rows.contains r && (if b.pat = 8 then ledProves b.eff r c else ledFires b.eff b.adj b.pat r c)
def Burst.code (b : Burst) (r c : Nat) : Nat := if b.pat = 8 then efld b.eff LED_PROVE 15 8 else ledCode b.eff b.adj b.pat r c
def Burst.width (b : Burst) : Nat := if b.pat = 8 then 200 else patWidth b.eff b.pat

/-! ### Firing (R372, R374, R379) -/

/-- The rows of a pattern that fire. -/
def Hub.patRows (s : Hub) (p : Nat) : List Nat :=
  let eff := s.led.eff
  (List.range 8).filter fun r => !s.bit LED_STATUS (24 + r) && (List.range 16).any fun c => ledFires eff (s.fld (LED_ADJ p) 15 0) p r c

/-- A burst goes out, and is counted. (Log entry 123: DEDUCED, unsafe) -/
def Hub.fire (s : Hub) (b : Burst) : Hub :=
  { s.incWrap LED_CNT 31 16 with led := { s.led with bursts := s.led.bursts ++ [b], ends := b.ends } }

/-- A row of a pattern's ROW_MASK is disabled or DARK (R376). -/
def Hub.rowOut (s : Hub) (eff : List (Nat × Nat)) (p : Nat) : Bool :=
  (efld eff (LED_PAT_A p) 31 24 &&& (s.fld LED_STATUS 31 24 ||| s.fld LED_STATUS 23 16)) != 0

/-- The pattern of the crossing fires. (Log entry 122: DEDUCED, unsafe) -/
def Hub.firePattern (s : Hub) (r : FrameRec) : Hub :=
  let p := r.pulseSet
  let eff := s.led.eff
  let k := popCount 8 (efld eff (LED_PAT_A p) 31 24)
  let w := patWidth eff p
  let (n, d) := s.framePeriod
  let tf := fun (x : Nat) => if n = 0 then x * 8000 / 1024 else x * d / (1024 * n)
  let ns := (k - 1) * (w + efld eff LED_CTRL 15 8) + w
  let rows := s.patRows p
  if ¬ s.bit LED_STATUS 1 ∨ s.bit LED_STATUS 2 then s.incSat LED_CNT 15 0
  else if rows = [] then s
  else s.fire
    { n := r.n, crossing := r.crossing, turn := r.turn, pat := p, eff := eff, adj := s.fld (LED_ADJ p) 15 0, rows := rows,
      ends := s.tm.rawNow + tf (efld eff (LED_PAT_C p) 9 0) + ns * 256,
      paused := s.inGap || s.rowOut eff p }

/-- The proving pulse of the crossing fires row ROW_NEXT. (Log entry 125: DEDUCED, unsafe) -/
def Hub.fireProof (s : Hub) (r : FrameRec) : Hub :=
  let row := s.fld LED_PROVE 2 0
  if ¬ s.bit LED_STATUS 1 then s
  else (s.setFld LED_PROVE 2 0 (row + 1)).fire
    { n := r.n, crossing := r.crossing, turn := r.turn, pat := 8, row := row, eff := s.led.eff, rows := [row],
      ends := s.tm.rawNow + 200 * 256, paused := s.inGap }

/-- On entry to PULSE, ROW_NEXT is 0: the crossing is the first formed in PULSE (R381). -/
def Hub.ledEntry (s : Hub) : Hub :=
  let before := match s.frameRec (s.frame - 1) with | some r => r.mode | none => 0
  if s.now.mode = mPULSE ∧ before ≠ mPULSE then s.setFld LED_PROVE 2 0 0 else s

/-- The tick: settings, then the crossing's PULSE or PROVE. One that begins while a burst still runs is not fired, and that burst's
regulation holds (R374, R376). (Log entry 124: DEDUCED, unsafe) -/
def Hub.ledTick (s : Hub) : Hub :=
  let s := s.ledSettings.ledEntry
  let r := s.now
  if ¬ s.auxOn ∨ ¬ (r.pulse ∨ r.prove) then s
  else if s.led.ends > s.tm.rawNow then
    let cut := s.led.bursts.map fun (b : Burst) => if b.ends > s.tm.rawNow then { b with paused := true } else b
    { s with led := { s.led with bursts := cut } }.incSat LED_CNT2 31 16
  else if r.pulse then s.firePattern r
  else s.fireProof r

/-! ### The end of a burst (R375-R380) -/

/-- Declare a fault: kind 0 open, 1 short, 2 dark (R380). -/
def Hub.declareLed (s : Hub) (b : Burst) (row col kind : Nat) : Hub :=
  let s := if ebit s.led.eff LED_CTRL 1 then s.setBit LED_STATUS (24 + row) true else s.setBit LED_STATUS 2 true
  s.emit 0x0E01 [row, col, kind, b.crossing, b.turn]

/-- The proof of one LED (R379). -/
def Hub.proveLed (s : Hub) (b : Burst) (m : LedMeas) : Hub :=
  let k := 16 * m.row.val + m.col.val
  let reg := LED_FAULT m.row.val
  let bad := if m.percent < 10 then some 0 else if m.across < 1000 then some 1 else none
  match bad with
  | none => s.setLedFails k 0
  | some kind =>
    let n := s.ledFails k + 1
    let s := s.setLedFails k (min n 2)
    if n < 2 ∨ s.bit reg m.col.val ∨ s.bit reg (16 + m.col.val) then s
    else (s.setBit reg (16 * kind + m.col.val) true).declareLed b m.row.val m.col.val kind

/-- What each fired sink measured: proofs, low headroom, H_min (R378, R379). (Log entry 127: DEDUCED, safe) -/
def Hub.judgeSinks (s : Hub) (b : Burst) (xs : List LedMeas) : Hub :=
  let xs := xs.filter fun m => b.fires m.row.val m.col.val
  let s := s.each xs fun s m =>
    if b.pat = 8 ∨ (64 ≤ b.width ∧ 13 ≤ b.code m.row.val m.col.val) then s.proveLed b m else s
  if b.width < 16 then s
  else
    let s := s.each xs fun s m => if m.percent < 90 ∧ m.headroom < 250 then s.incSat LED_CNT2 15 0 else s
    let hs := (xs.filter fun m => decide (10 ≤ m.percent)).map fun m => m.headroom
    match hs with
    | [] => s
    | h :: t =>
      let hmin := t.foldl min h
      let now := (s.fld LED_VLED 15 8 : Nat)
      if ¬ s.bit LED_STATUS 0 then s
      else if hmin < 400 then (s.setVled ((now : Int) + 2)).setLedRun 8 0
      else if hmin < 600 then s.setLedRun 8 0
      else if s.ledRun 8 + 1 ≥ 64 then (s.setVled ((now : Int) - 1)).setLedRun 8 0
      else s.setLedRun 8 (s.ledRun 8 + 1)

/-- ADJ after a burst with integral q (R375). -/
def nextAdj (adj target q shift : Nat) : Int :=
  max 16384 (min 65535 ((adj : Int) + rdiv ((adj : Int) * ((target : Int) - q)) ((target * 2 ^ shift : Nat) : Int)))

/-- Regulation of the pattern; it holds when a row of ROW_MASK is disabled or DARK, at the firing or by what the burst's own sinks have
shown (R375, R376). (Log entry 129: DEDUCED, unsafe) -/
def Hub.regulate (s : Hub) (b : Burst) (q : Nat) : Hub :=
  let p := b.pat
  if ¬ ebit b.eff (LED_PAT_C p) 31 then s
  else
    let s := s.setReg (LED_PHD (efld b.eff (LED_PAT_C p) 27 26)) q
    if b.paused ∨ s.inGap ∨ s.rowOut b.eff p then s
    else
      let t := max 1 (efld b.eff (LED_PAT_D p) 15 0)
      let a := nextAdj (s.fld (LED_ADJ p) 15 0) t q (efld b.eff (LED_PAT_C p) 18 16)
      let good := decide (200 * ((t : Int) - q).natAbs ≤ t) && a != 16384 && a != 65535
      let n := if good then min 16 (s.ledRun p + 1) else 0
      ((s.setReg (LED_ADJ p) a.toNat).setLedRun p n).setBit LED_STATUS (8 + p) (n == 16)

/-- The photodiode's proof of a row (R379). -/
def Hub.proveRow (s : Hub) (b : Burst) (q : Nat) : Hub :=
  let s := s.setReg (LED_PHD (efld b.eff LED_ROW_PHD (2 * b.row + 1) (2 * b.row))) q
  if q ≥ efld b.eff LED_ROW_PHD 31 16 then s.setLedFails (256 + b.row) 0
  else
    let n := s.ledFails (256 + b.row) + 1
    let s := s.setLedFails (256 + b.row) (min n 2)
    if n < 2 ∨ s.bit LED_STATUS (16 + b.row) then s
    else (s.setBit LED_STATUS (16 + b.row) true).declareLed b b.row 0xFF 2

/-- LED_BURST_END: the oldest burst not yet judged ends, with the integral of its photodiode and what its sinks measured.
(Log entry 126: DEDUCED, safe) -/
def Hub.burstEnd (s : Hub) (q : Nat) (xs : List LedMeas) : Hub :=
  match s.led.bursts with
  | [] => s
  | b :: rest =>
    if ¬ s.auxOn ∨ s.tm.rawNow + 64 * 256 < b.ends then s
    else
      let s := { s with led := { s.led with bursts := rest } }.judgeSinks b xs
      if b.pat = 8 then s.proveRow b (satU 16 q) else s.regulate b (satU 16 q)

def execLedBurstEnd (q : Nat) (xs : List LedMeas) := lift fun s => s.burstEnd q xs

/-- VLED_READY_SET and VLED_OUT_OF_RANGE (R377). -/
def execVledReadySet := lift fun s => if s.bit LED_STATUS 0 then s.setBit LED_STATUS 1 true else s
def execVledOutOfRange := lift fun s => s.setBit LED_STATUS 1 false

/-! ### LED commands (R383, R384) -/

/-- The first crossing under a change of settings. -/
def Hub.ledFirst (s : Hub) : List Byte := if s.mode = mPULSE then crossPayload 0 (s.tt.turn + 1) else s.firstCross

/-- A write to a pattern resets ADJ and clears REG_LOCKED (R376). (Log entry 121: DEDUCED, unsafe) -/
def Hub.patWritten (s : Hub) (p : Nat) : Hub := ((s.setReg (LED_ADJ p) 32768).setBit LED_STATUS (8 + p) false).setLedRun p 0

def ledConfigBody (p : List Byte) (s : Hub) : Reply × Hub :=
  let b := fun i => pl p i 1
  guarded [(p.length ≠ 12, stBAD_LEN),
    (b 0 > 1 ∨ b 1 > 1 ∨ b 2 < 8 ∨ b 3 = 0 ∨ b 10 < 50 ∨ b 11 < 50 ∨ b 10 > b 11, stBAD_ARG)] s fun s =>
  let s := s.setReg LED_CTRL (b 2 * 2 ^ 8 + b 1 * 2 + b 0)
  let s := (s.setFld LED_PROVE 31 16 (pl p 4 2)).setFld LED_PROVE 15 8 (b 3)
  let s := s.setReg LED_ROW_PHD (pl p 6 2 * 2 ^ 16 + pl p 8 2)
  let s := (s.setFld LED_VLED 7 0 (b 10)).setFld LED_VLED 23 16 (b 11)
  okay s.ledFirst s

def ledSetPatternBody (p : List Byte) (s : Hub) : Reply × Hub :=
  let b := fun i => pl p i 1
  let k := b 0
  let w := pl p 6 2
  guarded [(p.length ≠ 16, stBAD_LEN),
    (k > 7 ∨ w < 4 ∨ w > 1024 ∨ b 9 > 3 ∨ b 10 > 1 ∨ b 11 > 7 ∨ pl p 12 2 > 1023 ∨ pl p 14 2 = 0, stBAD_ARG)] s fun s =>
  let s := s.setReg (LED_PAT_A k) (b 1 * 2 ^ 24 + (w - 4) * 2 ^ 8 + b 8)
  let s := s.setReg (LED_PAT_B k) (pl p 2 2 * 2 ^ 16 + pl p 4 2)
  let s := s.setReg (LED_PAT_C k) (b 10 * 2 ^ 31 + b 9 * 2 ^ 26 + b 11 * 2 ^ 16 + pl p 12 2)
  let s := (s.setReg (LED_PAT_D k) (pl p 14 2)).patWritten k
  okay s.ledFirst s

def ledSetBinBody (p : List Byte) (s : Hub) : Reply × Hub :=
  let first := pl p 0 1
  let count := pl p 1 1
  let bin := fun i => pl p (5 + 2 * i) 1
  guarded [(p.length ≠ 4 + 2 * count, stBAD_LEN),
    (count = 0 ∨ first + count > 128 ∨ ¬ plZero p 2 2 ∨ (List.range count).any (fun i => decide (bin i > 15)), stBAD_ARG)] s fun s =>
  okay s.ledFirst (s.each (List.range count) fun s i =>
    s.setReg (LED_BIN ((first + i) / 16) ((first + i) % 16)) (bin i * 2 ^ 8 + pl p (4 + 2 * i) 1))

def ledStatusBody (p : List Byte) (s : Hub) : Reply × Hub :=
  guarded [(p.length ≠ 0, stBAD_LEN)] s fun s =>
  okay (words ([s.reg LED_STATUS, s.reg LED_VLED, s.reg LED_CNT, s.reg LED_CNT2] ++ (List.range 8).map (fun r => s.reg (LED_FAULT r)) ++
    (List.range 4).map (fun k => s.reg (LED_PHD k)) ++ (List.range 8).map fun k => s.reg (LED_ADJ k))) s

def ledClearFaultBody (p : List Byte) (s : Hub) : Reply × Hub :=
  let m := pl p 0 1
  guarded [(p.length ≠ 4, stBAD_LEN), (m = 0 ∨ ¬ plZero p 1 3, stBAD_ARG)] s fun s =>
  okay s.ledFirst { s with led := { s.led with clear := s.led.clear ||| m } }

def execLedConfig (h : Hdr) (p : List Byte) := lift fun s => s.command 0x0E01 h p (ledConfigBody p)
def execLedSetPattern (h : Hdr) (p : List Byte) := lift fun s => s.command 0x0E02 h p (ledSetPatternBody p)
def execLedSetBin (h : Hdr) (p : List Byte) := lift fun s => s.command 0x0E03 h p (ledSetBinBody p)
def execLedStatus (h : Hdr) (p : List Byte) := lift fun s => s.command 0x0E04 h p (ledStatusBody p)
def execLedClearFault (h : Hdr) (p : List Byte) := lift fun s => s.command 0x0E05 h p (ledClearFaultBody p)

end Sys2Proof.Machine
end

