-- ==== Sys2Proof/Machine/Receive.lean ====
section
/-! DEFINITION. A carriage that arrives on RX0, RX1 or RX2: its levels, its checks, and what its payload does (R263-R273, R276, R279,
R290). -/

namespace Sys2Proof.Machine

/-! ### Messages of a service stream (R272) -/

/-- A service message on RX0 or RX2. -/
def Hub.laneMessage (s : Hub) (n : Nat) (m : List Byte) (capture : Option Nat) : Hub :=
  let k := pl m 0 1
  if k = kPadding then s
  else if k = kCommand then s.receiveCommand (if n = 8 then 32 else 33) m
  else if k = kTime then s.timeMessage n m capture
  else if k = kLaneState ∧ m.length = 16 then s.laneStateWhole n (pl m 4 1) (pl m 5 1) (pl m 6 1) (pl m 8 4) (pl m 12 4)
  else s.incSat (LN_CNT2 n) 31 0

/-- A message on an RX lane. -/
def Hub.rxMessage (s : Hub) (n : Nat) (m : List Byte) (capture : Option Nat) : Hub :=
  if n = 9 then s.pairMessage m capture else s.laneMessage n m capture

/-! ### A valid carriage in service (R263, R270, R271) -/

/-- The messages of a SERVICE or a CONTROL carriage, each TYPE a stream of its own (R270). -/
def Hub.serviceCarriage (s : Hub) (n : Nat) (control : Bool) (w0 ptr : Nat) (data : List Byte) (capture : Nat) : Hub :=
  let x := s.lane n
  let (ms, part, began) := if control then streamItems x.ctlPart x.ctlBegan w0 ptr data capture else streamItems x.part x.began w0 ptr data capture
  let s := s.setLane n (if control then { x with ctlPart := part, ctlBegan := began } else { x with part := part, began := began })
  ms.foldl (fun s m => s.rxMessage n m.1 m.2) s

/-- What a valid carriage of an ACTIVE lane does. -/
def Hub.carriageIn (s : Hub) (n : Nat) (c : Car) (capture : Nat) (margin : Int) : Hub :=
  let s := s.noteArrival n capture
  if c.typ = tyPAIR then (if n = 9 then s.pairCarriage c.payload capture margin else s)
  else if c.typ = tySERVICE then s.serviceCarriage n false 0 c.ptr c.payload capture
  else if c.typ = tyCONTROL ∧ n ≠ 9 then
    let s := if c.tm then s.turnMarker n (pl c.payload 0 4) else s
    s.serviceCarriage n true 2 c.ptr (c.payload.drop 8) capture
  else s

/-! ### Lock, loss and CAPS (R269, R276, R277, R279) -/

/-- CAPS of a TRAIN carriage. -/
def Hub.capsCarriage (s : Hub) (n : Nat) (p : List Byte) : Hub :=
  if pl p 0 2 ≠ 0x5043 ∨ pl p 2 1 ≠ 1 then s
  else s.capsReceive n (pl p 3 1) (pl p 4 1) (pl p 5 1) (pl p 6 1) (pl p 8 8)

/-- A valid carriage: counts, runs of CSEQ, and the work of the lane's state. -/
def Hub.validCarriage (s : Hub) (n : Nat) (c : Car) (fixed : Nat) (capture : Nat) (margin : Int) : Hub :=
  let x := s.lane n
  let run := if x.lastSeq = some ((c.cseq + 63) % 64) then x.good + 1 else 1
  let s := s.setLane n { x with lastSeq := some c.cseq, good := min 16 run, bad := 0 }
  let s := s.incWrap (LN_CNT0 n) 31 0
  let s := if fixed = 0 then s else (s.incSat (LN_CNT1 n) 31 0).addSat (LN_CNT3 n) 31 0 fixed
  let st := s.laneState n
  if st = lsSYMLOCK then (if run ≥ 16 then s.enterLane n lsCAPS else s)
  else if st = lsACQUIRE then (if run ≥ 16 then s.enterLane n lsACTIVE else s)
  else if st = lsCAPS then (if c.typ = tyTRAIN then s.capsCarriage n c.payload else s)
  else s.carriageIn n c capture margin

/-- An invalid carriage is discarded whole, the incomplete item with it; the fourth in a row takes an ACTIVE lane out of service. -/
def Hub.invalidCarriage (s : Hub) (n : Nat) : Hub :=
  let s := s.incSat (LN_CNT2 n) 31 0
  let x := s.lane n
  let s := s.setLane n { x with good := 0, bad := x.bad + 1, lastSeq := none, part := none, ctlPart := none }
  let s := if n = 9 then { s with pr := { s.pr with part := none } } else s
  if s.laneState n = lsACTIVE ∧ x.bad + 1 ≥ 4 then s.loseLock n none else s

/-! ### From levels (R266-R268, R275, R290) -/

/-- The bits of 800 levels received on a lane: the precoder is undone when it is on. -/
def Hub.rxBits (s : Hub) (n : Nat) (ys : List Nat) : List Bool :=
  let x := s.lane n
  ofLevels (if x.pre then unprecode x.level ys else ys)

/-- The CONTROL and STATUS words of a training frame; none where its marker is not found. -/
def trainWords (ys : List Nat) : Option (Nat × Nat) :=
  let bit := fun (y : Nat) => decide (y ≥ 2)
  if ys.take 16 ≠ List.replicate 8 3 ++ List.replicate 8 0 then none
  else some (natMsb (((ys.drop 16).take 32).map bit), natMsb (((ys.drop 48).take 32).map bit))

/-- The bits in which two sequences differ. -/
def bitErrors (a b : List Bool) : Nat := ((List.zipWith (· != ·) a b).filter id).length

/-- The bits a receiver compares a carriage of a generated pattern with: its generator runs on from its register, or, from none, takes the
carriage's first bits into the register and runs on from them. -/
def patternRef (p reg : Nat) (bs : List Bool) : List Bool :=
  if reg = 0 then
    let seed := bs.take (if p = 1 then 13 else 31)
    seed ++ (patternBits p (natMsb seed)).1.take (1600 - seed.length)
  else (patternBits p reg).1

/-- The register of a generated pattern after 1600 bits. -/
def patternReg (p : Nat) (bs : List Bool) : Nat := natMsb (bs.drop (1600 - if p = 1 then 13 else 31))

/-- Pattern bit errors counted at a receiver in PATTERN, by comparison with the pattern (R290). The receiver aligns its generator with the
first carriage; whether it aligns again with a later one is a free value, and so is the count of a carriage whose bits are in no place of
the pattern. (Log entry 79: DESIGN CHOICE, safe) -/
def Hub.patternErrors (s : Hub) (n : Nat) (ys : List Nat) : Hub :=
  let p := s.fld (LN_CTRL n) 11 8
  let bs := s.rxBits n ys
  if p = 3 then s.addSat (LN_TEST n) 31 0 (bitErrors bs levelPattern)
  else
    let held := (s.lane n).prbs
    let (w, s) := s.drawWord
    let ref := patternRef p (if held / 2 ^ 31 = p ∧ w % 2 = 0 then held % 2 ^ 31 else 0) bs
    let reg := patternReg p ref
    (s.setLane n { s.lane n with prbs := if reg = 0 then 0 else p * 2 ^ 31 + reg }).addSat (LN_TEST n) 31 0
      (if reg = 0 then w / 2 % 1601 else bitErrors bs ref)

/-- CARRIAGE_RECEIVE: 800 levels arrive on an RX lane, the first symbol `after` (1/256 ns) from the tick that began the present
frame; `margin` is that of R335 in ps. (Log entry 71: DEDUCED, safe) -/
def Hub.carriageReceive (s : Hub) (n levels : Nat) (after margin : Int) : Hub :=
  let st := s.laneState n
  if n < 8 ∨ n > 10 then s
  else
    let ys := unpackLevels levels
    let bs := s.rxBits n ys
    let s := s.setLane n { s.lane n with level := ys.getLast?.getD 0 }
    if st = lsTRAIN then (match trainWords ys with | some (c, t) => s.trainingFrame n c t | none => s)
    else if st = lsPATTERN then s.patternErrors n ys
    else if st = lsSYMLOCK ∨ st = lsCAPS ∨ st = lsACTIVE ∨ st = lsACQUIRE then
      match Car.decode (st = lsSYMLOCK || st = lsACQUIRE) bs with
      | some (c, k) => s.validCarriage n c k (s.captureAt after) margin
      | none => s.invalidCarriage n
    else s

def execCarriageReceive (lane : Fin 11) (levels : BitVec 1600) (after margin : Int) :=
  lift fun s => s.carriageReceive lane.val levels.toNat after margin

end Sys2Proof.Machine
end

