-- ==== Sys2Proof/Machine/Memory.lean ====
section
/-! DEFINITION. Memory errors, scrubbing, sidings as software sees them, the firewall and the MEM commands
(16_memory_and_protection.md). -/

namespace Sys2Proof.Machine

/-! ### Program memories and windows (R16, R400) -/

/-- R16 allows the master a write to the engine program memory at this address now: only the Signal Box writes one, and in LOADING the
decoder the Dispatcher's. -/
def Hub.progWritable (s : Hub) (k a : Nat) : Bool :=
  if 0x38000000 ≤ a ∧ a < 0x38008000 then k == 0 && !s.feBusy ((a - 0x38000000) / 0x1000)
  else if 0x38008000 ≤ a ∧ a < 0x38009000 then k == 0 && (s.mode == mIDLE || (s.modeIn [mPREPARE, mHOLD, mTEST] && s.tt.crossing == 0))
  else if k = 4 then s.mode == mLOADING
  else k == 0 && s.modeIn [mLOADING, mIDLE, mHOLD, mTEST]

/-- A write of access type `acc` to the Assay window: no effect, no freeze, an entry of KIND 6 (R19, R402). -/
def Hub.assayWrite (s : Hub) (k acc a : Nat) : Hub := s.logErr 6 k 0xFF acc a { code := 0x1103, words := [k, a, acc], rest := some [] }

def execAssayWindowWrite (master : Fin 6) (addr : BitVec 32) := lift fun s =>
  if s.canAccess master.val ∧ 0x50000000 ≤ addr.toNat ∧ addr.toNat < 0x50100000 then s.assayWrite master.val 1 addr.toNat else s

/-- Set a window; BASE and LIMIT are word addresses. -/
def Hub.setWindow (s : Hub) (k w base limit attr : Nat) : Hub :=
  ((s.setReg (FW_WIN_BASE k w) (base / 4 * 4)).setReg (FW_WIN_LIMIT k w) (limit / 4 * 4)).setReg (FW_WIN_ATTR k w) attr

/-- Windows as (BASE, LIMIT, ATTR), window 0 first. -/
def Hub.setWindows (s : Hub) (k : Nat) (ws : List (Nat × Nat × Nat)) : Hub :=
  s.each (List.range 8) fun s w => let x := ws.getD w (0, 0, 0); s.setWindow k w x.1 x.2.1 x.2.2

/-- The windows of master 0 (R500) and of the host bridge (R406), and those that firmware gives the Dispatcher and the Junction engine when it
starts, of which the spec gives no value: all that R14 lets them reach. (Log entry 196: DESIGN CHOICE, unsafe) -/
def bootWindows : List (Nat × Nat × Nat) :=
  [(0, 0xFFFF, 0xB), (0x10000000, 0x101FFFFF, 0xF), (0x20000000, 0x20FFFFFF, 0x7), (0x30000000, 0x301FFFFF, 0x3),
   (0x38000000, 0x3800AFFF, 0x7), (0x40000000, 0x4010FFFF, 0x7), (0x50000000, 0x500FFFFF, 0x3), (0x60000000, 0x60000FFF, 0x7)]

def hostWindows : List (Nat × Nat × Nat) :=
  [(0x40000000, 0x400DFFFF, 0x7), (0x400E0000, 0x400E001F, 0x7), (0x400E0020, 0x400E008F, 0x707), (0x400F0000, 0x400F0FFF, 0x7),
   (0x400F1000, 0x400F2FFF, 0x3), (0x40100000, 0x4010FFFF, 0x7), (0x50000000, 0x500FFFFF, 0x3), (0x60000000, 0x60000FFF, 0x3)]

def dispatcherWindows : List (Nat × Nat × Nat) :=
  [(0x101F0000, 0x101FFFFF, 0x7), (0x20000000, 0x20FFFFFF, 0x3), (0x38009000, 0x3800AFFF, 0xB), (0x60000000, 0x60000FFF, 0x7)]

def junctionWindows : List (Nat × Nat × Nat) :=
  [(0x101F0000, 0x101FFFFF, 0x7), (0x38008000, 0x38008FFF, 0xB), (0x60000000, 0x60000FFF, 0x7)]

/-- Release masters: those of the mask that were frozen (R403). -/
def Hub.releaseMasters (s : Hub) (mask : Nat) : Nat × Hub :=
  let now := s.fld FW_STATUS 5 0
  (now &&& mask, s.setFld FW_STATUS 5 0 (now &&& (63 - mask % 64)))

/-! ### Reads through SECDED (R390-R393) -/

/-- The Dispatcher abandons an item in transit: no complete copy of it reaches the back end, LOST_RECORDS names it with LANE 0xFF and its
segment is freed (R393). -/
def Hub.abandonOn (s : Hub) (n : Nat) (x : TxItem) : Hub :=
  (s.setLane n { s.lane n with record := (s.lane n).record.filter (· != x) }).abandonItem x

/-- The record that the Dispatcher moves: the first one in transit on the lowest lane that has one. (Log entry 244: DESIGN CHOICE, unsafe) -/
def Hub.inTransit (s : Hub) : Option (Nat × TxItem) :=
  (List.range 6).findSome? fun n => (s.lane n).record.head?.map fun x => (n, x)

/-- What an uncorrectable read does to the requester: masters 0 to 5, 6 the stream marshal, 7 another fixed-function reader, 8 + g FEg, 16 the
Assay engine (R393). A message that the Dispatcher finds damaged in memory 0 is sent again from its source.
(Log entry 58: PRESUMED, unsafe; log entry 244: DESIGN CHOICE, unsafe) -/
def Hub.requesterHit (s : Hub) (requester acc m : Nat) : Hub :=
  let cause := if m = 13 then 4 else 2
  if requester = 0 then
    (if acc = 2 then { s with pw := { s.pw with lockAt := some s.frame } }
     else if s.fwRuns then s.fwGivesUp else s)
  else if requester = 1 then (match s.inTransit with | some (n, x) => if m = 0 then s else s.abandonOn n x | none => s)
  else if requester = 2 then s.jctFault cause
  else if 8 ≤ requester ∧ requester < 16 then s.feFault (requester - 8) cause
  else if requester = 16 then { s with asy := { s.asy with engine := 3 } }
  else s

/-- The Dispatcher meets an uncorrectable word of an item in transit, and abandons that item (R393). -/
def Hub.abandonAt (s : Hub) (w : Nat) : Hub :=
  s.each (List.range 6) fun s n =>
    match (s.lane n).record.find? fun x => decide (x.addr / 8 * 8 ≤ w) && decide (w < x.addr + x.bytes.length) with
    | none => s
    | some x => s.abandonOn n x

/-- GROUP and SEQ of the ingot in the elastic buffer that holds a word. -/
def Hub.ingotAt (s : Hub) (w : Nat) : List Nat :=
  match s.msh.store.find? fun z => decide (z.addr < w + 8) && decide (w < z.addr + z.size) with
  | none => []
  | some z =>
    match (s.msh.pool ++ (List.range 6).flatMap fun n => (s.lane n).stream ++ (s.lane n).kept.map (·.2)).find? (fun x => x.typ == tySTREAM && x.key == z.key) with
    | some x => [x.group, x.seq]
    | none => []

/-- MEMORY_READ: a requester reads a code word. The stored word of a memory with addresses says what the check finds; for memories 13
and 14, which have none, `errors` does (0 clean, 1 a single bit, 2 a detected double bit), or, with 0, the flip that a write to memory 13
took. (Log entry 133: DEDUCED, safe) -/
def Hub.memoryRead (s : Hub) (m a requester : Nat) (fetch : Bool) (errors : Nat) : Hub :=
  let found : Option (Nat × EccOutcome) :=
    if m = 13 ∨ m = 14 then
      some (a, if errors = 1 then .corrected else if errors = 2 then .uncorrectable else if m = 13 then eccCheck s.mc.localBad else .clean)
    else match memoryAt a with
      | some (k, width) => if k = m then some (a / width * width, eccCheck (s.eccAt (a / width * width))) else none
      | none => none
  match found with
  | none => s
  | some (w, out) =>
    let s := if m = 13 ∧ errors = 0 then { s with mc := { s.mc with localBad := 0 } } else s
    match out with
    | .clean => s
    | .corrected => s.bucketAdd m w requester
    | .uncorrectable =>
      let acc := if fetch then 2 else 0
      let s := s.uncorrectable m w requester acc
        (if m = 2 ∧ requester = 6 then s.ingotAt w else if m = 13 then [(Config.localStore w).toNat] else [])
      if m = 1 ∧ requester = 1 then s.abandonAt w else s.requesterHit requester acc m

def execMemoryRead (memory : Fin 15) (addr : BitVec 32) (requester : Fin 17) (fetch : Bool) (errors : Fin 3) :=
  lift fun s =>
    if requester.val < 6 ∧ ¬ s.canAccess requester.val then s else s.memoryRead memory.val addr.toNat requester.val fetch errors.val

/-- ECC_BUCKET_LEAK: every 2^20 frames each bucket loses 1 (R392). -/
def Hub.bucketLeak (s : Hub) : Hub :=
  if s.frame / 2 ^ 20 ≤ s.mc.leaks then s
  else
    let s := { s with mc := { s.mc with leaks := s.mc.leaks + 1 } }
    s.each (List.range 16) fun s m => s.setFld (ECC_CNT m) 7 0 (s.fld (ECC_CNT m) 7 0 - 1)

def execEccBucketLeak := lift Hub.bucketLeak

/-- The bitwise majority of three copies (R398). -/
def majority (a b c : Nat) : Nat := (a &&& b) ||| (b &&& c) ||| (a &&& c)

/-- The bits of a register that are held in three copies: the RW and RWL fields of the peripheral register blocks, and the fuse shadow
(R398). (Log entry 208: DEDUCED, safe) -/
def tmrMask (a : Nat) : Nat :=
  match if a < 0x60000000 then findReg a else none with
  | some (r, _, _) => if r.base = RP_FUSE 0 then 2 ^ 32 - 1 else r.rw ||| r.rwl
  | none => 0

/-- A register holds the word of the reference block of the Assay constants at this offset (R134). -/
def refOffset (a : Nat) : Option Nat := if CAL_REF 0 ≤ a ∧ a < CAL_REF 256 then some (0x100 + (a - CAL_REF 0)) else none

/-- The content of a register that is held in three copies, and setting it. -/
def Hub.heldReg (s : Hub) (a : Nat) : Nat := match refOffset a with | some o => imgGet s.asy.img o 4 | none => s.reg a
def Hub.setHeldReg (s : Hub) (a v : Nat) : Hub :=
  match refOffset a with
  | some o => { s with asy := { s.asy with img := imgPut s.asy.img o 4 v } }
  | none => s.setReg a v

/-- The three copies of a register (R398). -/
structure Copies where
  a : Nat
  b : Nat
  c : Nat
  deriving DecidableEq, Repr

/-- What a read returns. -/
def Copies.read (x : Copies) : Nat := majority x.a x.b x.c

/-- Invert bits of the copies. -/
def Copies.upset (x : Copies) (p q r : Nat) : Copies := { a := x.a ^^^ p, b := x.b ^^^ q, c := x.c ^^^ r }

/-- The copies that disagree with the majority, each of which is rewritten from it. -/
def Copies.repairs (x : Copies) : Nat := b2n (x.a != x.read) + b2n (x.b != x.read) + b2n (x.c != x.read)

/-- The copies of a register between two rows: every core cycle they are made to agree, so they hold the value that a read returns.
(Log entry 208: DEDUCED, safe) -/
def Hub.copies (s : Hub) (a : Nat) : Copies := { a := s.heldReg a, b := s.heldReg a, c := s.heldReg a }

/-- TMR_REPAIR: bits of the three copies of the fields of the register at `a` have inverted, and in the next core cycle each copy that disagrees with the
majority is rewritten from it and counted (R398, R399). (Log entry 208: DEDUCED, safe) -/
def Hub.tmrRepair (s : Hub) (a p q r : Nat) : Hub :=
  let m := tmrMask a
  if m = 0 then s
  else
    let x := (s.copies a).upset (p &&& m) (q &&& m) (r &&& m)
    (s.setHeldReg a x.read).each (List.range x.repairs) fun s _ => (s.incWrap TMR_REPAIRS 31 0).bucketAdd 15 a 17

def execTmrRepair (i : Upset) := lift fun s => s.tmrRepair i.addr.toNat i.first.toNat i.second.toNat i.third.toNat

/-- Frame-tick work: firmware takes the error log; an armed flip of memory 13 damages the word that the tick writes, since its stores are
written in every frame in which the channels sample (R395). (Log entry 131: DEDUCED, unsafe) -/
def Hub.memTick (s : Hub) : Hub :=
  let s := s.drainLog
  if s.modeIn [mPREPARE, mRUN, mPULSE, mHOLD, mTEST] then
    match s.flipFor 13 0 8 with
    | some mask => { s.setBit ECC_FLIP 31 false with mc := { s.mc with localBad := mask } }
    | none => s
  else s

/-! ### Scrubbing (R396, R397) -/

/-- MEM_SCRUB_COMPLETE: the summary of the range; with WRITE_BACK, correctable words are written again. (Log entry 130: DEDUCED, unsafe) -/
def Hub.scrubDone (s : Hub) : Hub :=
  match s.mc.scrub with
  | none => s
  | some (m, (back, (start, len))) =>
    let width := match memorySpan m with | some x => x.2.2 | none => 8
    let bad := s.ecc.filter fun x => decide (start ≤ x.1) && decide (x.1 < start + len)
    let fix := bad.filter fun x => eccCheck x.2 = .corrected
    let lost := bad.filter fun x => eccCheck x.2 = .uncorrectable
    let s := { s with mc := { s.mc with scrub := none } }
    let s := if back then s.each fix fun s x => s.storeCode m x.1 width else s
    let s := s.each lost fun s x => s.uncorrectable m x.1 7 0 []
    let first := match lost.head? with | some x => x.1 | none => 0xFFFFFFFF
    let out := [len / width, fix.length, lost.length, first]
    let s := (((s.setReg SCRUB_CHECKED (len / width)).setReg SCRUB_CORRECTED fix.length).setReg SCRUB_UNCORR lost.length).setReg SCRUB_FIRST first
    s.complete (fun d => d.op = 0x1102) stOK (words out)

def execMemScrubComplete := lift Hub.scrubDone

/-! ### ECC_FLIP (R395, R408) -/

/-- Width in bits of the code words of memory m. -/
def codeBits (m : Nat) : Nat := if 3 ≤ m ∧ m ≤ 12 then 39 else 72

/-- A flip that R395 and R410 do not refuse: memory, bits, MATCH and ADDR. (Log entry 134: DEDUCED, unsafe) -/
def flipOk (m a b mat addr : Nat) : Bool :=
  decide (m ≤ 13) && decide (a < codeBits m) && (b == 0xFF || decide (b < codeBits m)) && a != b && decide (mat ≤ 1) &&
    match memorySpan m with | some x => decide (x.1 ≤ addr) && decide (addr < x.1 + x.2.1) | none => mat == 0

/-- The refusals of MEM_ECC_FLIP. -/
def Hub.flipStatus (s : Hub) (m a b mat addr : Nat) : Option Nat :=
  checks [(!flipOk m a b mat addr, stBAD_ARG), (!s.modeIn [mIDLE, mTEST], stBAD_MODE), (s.bit ECC_FLIP 31, stBUSY)]

/-- ECC_FLIP_WRITE: a write of ECC_FLIP by a master; ECC_FLIP_ADDR gives ADDR. -/
def Hub.writeFlip (s : Hub) (w : Nat) : Nat × Hub :=
  let w := w &&& 0xC00FFFFF
  let bad := if bitAt w 31 then s.flipStatus (bits w 19 16) (bits w 7 0) (bits w 15 8) (bits w 30 30) (s.reg ECC_FLIP_ADDR)
    else checks [(decide (bits w 19 16 > 13) || decide (bits w 7 0 ≥ codeBits (bits w 19 16)), stBAD_ARG), (!s.modeIn [mIDLE, mTEST], stBAD_MODE)]
  match bad with
  | some st => (st, s)
  | none => (stOK, s.setReg ECC_FLIP w)

def execEccFlipWrite (w : BitVec 32) := lift fun s => (s.writeFlip w.toNat).2

/-- FW_RELEASE_WRITE. Only the lock-up reset releases the Signal Box, so a word that names it is refused as MEM_FREEZE_RELEASE is (R404, R408).
(Log entry 136: DEDUCED, unsafe) -/
def execFwReleaseWrite (w : BitVec 32) := lift fun s => if bitAt w.toNat 0 then s else (s.releaseMasters (w.toNat % 64)).2

/-! ### Counters of sidings written by software (R387) -/

/-- Software may advance HEAD (consumer) or TAIL (producer) of a siding: the Signal Box's side by R28. -/
def softSide (n : Nat) (tail : Bool) : Bool :=
  decide (56 ≤ n) || (if tail then [36, 37, 38, 40, 51].contains n else [32, 33, 34, 35, 41, 50, 51].contains n)

/-- The entry at ring index t of siding n, as software reads it in memory; firmware queues it now. (Log entry 135: DEDUCED, unsafe) -/
def Hub.ringEntry (s : Hub) (n t : Nat) : Item :=
  let a := 0x101F0000 + 0x400 * n + 16 * (t % 64)
  .added (s.memWord a) (s.memWord (a + 4)) (s.memWord (a + 8)) (s.memWord (a + 12)) s.mbx.stamp

/-- Items a producer keeps use the entries that free. -/
def Hub.refill : Nat → Hub → Nat → Hub
  | 0, s, _ => s
  | f + 1, s, n =>
    if s.count n ≥ 64 then s
    else match takeHeld n s.held with
      | some (it, rest) => Hub.refill f ({ s with held := rest }.sidAppend n it) n
      | none => s

/-- SIDING_COUNTER_WRITE: a write of SD_HEAD or SD_TAIL. -/
def Hub.sidingWrite (s : Hub) (master n : Nat) (tail : Bool) (v : Nat) : Hub :=
  let v := v % 2 ^ 16
  let head := s.fld (SD_HEAD n) 15 0
  let top := s.fld (SD_TAIL n) 15 0
  let count := if tail then (v + 2 ^ 16 - head) % 2 ^ 16 else (top + 2 ^ 16 - v) % 2 ^ 16
  if master ≠ 0 ∨ ¬ softSide n tail ∨ count > 64 then s.setBit (SD_STATUS n) 2 true
  else
    let xs := s.items n
    let old := s.count n
    let s := s.setFld (if tail then SD_TAIL n else SD_HEAD n) 15 0 v
    let xs := if tail then
        (if count ≤ old then xs.take count else xs ++ (List.range (count - old)).map fun i => s.ringEntry n (top + i))
      else if count ≤ old then xs.drop (old - count) else (List.range (count - old)).map (fun i => s.ringEntry n (v + i)) ++ xs
    let s := { s with sid := tset (fun _ => []) s.sid n xs, mbx := { s.mbx with stamp := s.mbx.stamp + 1 } }
    let s := if count > s.fld (SD_LEVEL n) 22 16 then s.setFld (SD_LEVEL n) 22 16 count else s
    Hub.refill 64 s n

def execSidingCounterWrite (master : Fin 6) (siding : Fin 64) (tail : Bool) (v : BitVec 32) :=
  lift fun s => if s.canAccess master.val then s.sidingWrite master.val siding.val tail v.toNat else s

/-- EV_LOG_LOST: S40 or S41 has dropped entries and has room again (R388). -/
def Hub.logLost (s : Hub) (n : Nat) : Hub :=
  if ¬ s.fwActs ∨ ¬ s.mbx.lostDue.contains n ∨ s.count n ≥ 64 then s
  else { s with mbx := { s.mbx with lostDue := s.mbx.lostDue.filter (· != n) } }.emit 0x1104 [n, s.reg (SD_LOST n), s.tt.crossing, s.tt.turn]

def execEvLogLost (s41 : Bool) := lift fun s => s.logLost (if s41 then 41 else 40)

/-! ### MEM commands (R409, R410) -/

def memStatusBody (p : List Byte) (s : Hub) : Reply × Hub :=
  guarded [(p.length ≠ 0, stBAD_LEN)] s fun s =>
  okay (words ([s.reg ECC_STATUS] ++ (List.range 16).map (fun m => s.reg (ECC_CNT m)) ++ (List.range 16).map (fun m => s.reg (ECC_BEV m)) ++
    [s.reg TMR_REPAIRS, s.reg FW_STATUS, s.reg FW_VIOLATIONS])) s

/-- The range of MEM_SCRUB is aligned, not empty, at most 1 MiB and inside the memory. Memory 13 has no addresses. (Log entry 131: DEDUCED, unsafe) -/
def scrubOk (m start len : Nat) : Bool :=
  match memorySpan m with
  | none => false
  | some (base, size, width) => start % width == 0 && len % width == 0 && decide (0 < len) && decide (len ≤ 0x100000) &&
      decide (base ≤ start) && decide (start + len ≤ base + size)

def memScrubBody (p : List Byte) (s : Hub) : Reply × Hub :=
  let m := pl p 0 1
  let f := pl p 1 1
  let start := pl p 4 4
  let len := pl p 8 4
  guarded [(p.length ≠ 12, stBAD_LEN), (f > 1 ∨ ¬ scrubOk m start len ∨ ¬ plZero p 2 2, stBAD_ARG),
    (f = 1 ∧ 3 ≤ m ∧ m ≤ 12 ∧ ¬ s.progWritable 0 start, stBAD_MODE), (s.mc.scrub.isSome, stBUSY)] s fun s =>
  (.later 0, { s with mc := { s.mc with scrub := some (m, (f == 1, (start, len))) } })

def memEccFlipBody (p : List Byte) (s : Hub) : Reply × Hub :=
  let b := fun i => pl p i 1
  guarded [(p.length ≠ 8, stBAD_LEN)] s fun s =>
  match s.flipStatus (b 0) (b 1) (b 2) (b 3) (pl p 4 4) with
  | some st => fail st s
  | none => okay [] ((s.setReg ECC_FLIP_ADDR (pl p 4 4)).setReg ECC_FLIP (2 ^ 31 + b 3 * 2 ^ 30 + b 0 * 2 ^ 16 + b 2 * 2 ^ 8 + b 1))

def memFreezeReleaseBody (p : List Byte) (s : Hub) : Reply × Hub :=
  let m := pl p 0 1
  guarded [(p.length ≠ 4, stBAD_LEN), (m = 0 ∨ m % 2 = 1 ∨ m > 63 ∨ ¬ plZero p 1 3, stBAD_ARG)] s fun s =>
  let (out, s) := s.releaseMasters m
  okay [BitVec.ofNat 8 out] s

def memSetWindowBody (p : List Byte) (s : Hub) : Reply × Hub :=
  let k := pl p 0 1
  let w := pl p 1 1
  let base := pl p 4 4
  let limit := pl p 8 4
  let attr := pl p 12 4
  guarded [(p.length ≠ 16, stBAD_LEN), (w > 7 ∨ limit < base ∨ attr &&& 0xFFF0F ≠ attr ∨ ¬ plZero p 2 2, stBAD_ARG),
    (k ≠ 3 ∧ k ≠ 5, stDENIED), (¬ s.modeIn [mIDLE, mTEST], stBAD_MODE)] s fun s => okay [] (s.setWindow k w base limit attr)

/-- SD_LEVEL as it reads. -/
def Hub.sdLevel (s : Hub) (n : Nat) : Nat := s.fld (SD_LEVEL n) 22 16 * 2 ^ 16 + s.count n % 128

def memReadSidingBody (p : List Byte) (s : Hub) : Reply × Hub :=
  let n := pl p 0 1
  guarded [(p.length ≠ 4, stBAD_LEN), (n > 63 ∨ ¬ plZero p 1 3, stBAD_ARG)] s fun s =>
  okay (words [s.reg (SD_BASE n), s.reg (SD_HEAD n), s.reg (SD_TAIL n), s.sdLevel n, s.reg (SD_LOST n), s.reg (SD_STATUS n)]) s

def execMemStatus (h : Hdr) (p : List Byte) := lift fun s => s.command 0x1101 h p (memStatusBody p)
def execMemScrub (h : Hdr) (p : List Byte) := lift fun s => s.command 0x1102 h p (memScrubBody p)
def execMemEccFlip (h : Hdr) (p : List Byte) := lift fun s => s.command 0x1103 h p (memEccFlipBody p)
def execMemFreezeRelease (h : Hdr) (p : List Byte) := lift fun s => s.command 0x1104 h p (memFreezeReleaseBody p)
def execMemSetWindow (h : Hdr) (p : List Byte) := lift fun s => s.command 0x1105 h p (memSetWindowBody p)
def execMemReadSiding (h : Hdr) (p : List Byte) := lift fun s => s.command 0x1106 h p (memReadSidingBody p)

end Sys2Proof.Machine
end

