-- ==== Sys2Proof/Machine/Power.lean ====
section
/-! DEFINITION. Supply warning, reset sources and their scopes, release of domains, option loading and the watchdog
(18_power_reset_bringup.md). -/

namespace Sys2Proof.Machine

/-! ### What a domain loses (R10, R446, R447) -/

/-- Put the registers that satisfy `p` back to their reset values. -/
def Hub.dropRegs (s : Hub) (p : Nat → Bool) : Hub :=
  { s with
    regs := s.regs.filter fun x => !p x.1
    act := s.act.filter fun x => !p x.1
    shadow := s.shadow.filter fun x => !p x.1 }

/-- BIAS_DEFAULT of the fuse map in use (R454). -/
def Hub.biasDefault (s : Hub) : Nat := s.fld (RP_FUSE 3) 7 0

/-- BIAS_TRIM and TRIM_NOW of a channel take the value of the fuse map (R68, R89). -/
def Hub.biasReset (s : Hub) (n : Nat) : Hub :=
  (s.setFld (AFE_CH_CFG n) 15 8 s.biasDefault).setFld (AFE_CH_STAT n) 31 24 s.biasDefault

/-- The Assay partition as a reset of PD4 or a new Assay section leaves it: the serial memory, the OTP bits and the level of SEAL_EN stay.
(Log entry 132: DESIGN CHOICE, unsafe) -/
def Hub.clearAssay (s : Hub) : Hub :=
  { s.dropRegs (fun a => regDomain a == 4) with asy := { nor := s.asy.nor, otp := s.asy.otp, sealEn := s.asy.sealEn }, calQ := [] }

/-- A quadrant that is switched off (R445): its filters' delay lines stand still (R147), the range of the last sample that was no marker
stays (R74), and its ADCs keep their trims. The count of failed handovers starts again. (Log entry 217: DESIGN CHOICE, unsafe) -/
def Hub.quadOff (s : Hub) (q : Nat) : Hub :=
  let s := s.each (s.chans.filter fun x => x.1 / 64 == q) fun s x => s.setChan x.1 { line := x.2.line, last := x.2.last }
  s.setQuad q { trims := (s.quad q).trims }

/-- Every lane drops what it was to send and what it has received in part. -/
def Hub.clearLanes (s : Hub) : Hub :=
  s.each s.lanes fun s x => s.setLane x.1 { x.2 with
    part := none, began := none, ctlPart := none, ctlBegan := none, stream := [], record := [], service := [], kept := [], asm := [] }

/-- The contents of PD1 to PD9 that a reset of the domain takes. (Log entry 147: DEDUCED, unsafe) -/
def Hub.resetDomain (s : Hub) (d : Nat) : Hub :=
  let s := if d = 4 then s.clearAssay else s.dropRegs fun a => regDomain a == d
  match d with
  | 1 =>
    { (s.resetTime false) with
      sid := [], held := [], mbx := {}, staging := [], flushes := [], pr := {}, tt := {}, hist := [], mc := { leaks := s.mc.leaks }
      recs := { s.recs with tin1 := true, tin2 := true } }.clearLanes
  | 2 =>
    { s.each s.chans (fun s x => s.setChan x.1 { x.2 with line := [] }) with
      codecs := [], engines := [], flts := [], filtFrom := s.frame + 1, jct := {}, tx6 := none, recs := {}, msh := {} }
  | 3 => { s with lanes := [], tx7 := none }
  | 5 | 6 | 7 | 8 =>
    let s := (s.quadOff (d - 5)).setQuad (d - 5) {}
    let s := s.each (s.chans.filter fun x => x.1 / 64 == d - 5) fun s x => s.setChan x.1 { x.2 with last := none }
    (List.range 64).foldl (fun s i => s.biasReset (64 * (d - 5) + i)) s
  | 9 => { s with mon := {}, led := {} }
  | _ => s

/-- PD0 as a power-on reset or a RESET_N reset leaves it: the latter keeps the time counter, RATE, I and RP_RST_CAUSE, and until the
fuse shadow is loaded again each pin group keeps its value (R447, R453). -/
def Hub.resetAon (s : Hub) (powerOn : Bool) : Hub :=
  let keep := fun (a : Nat) => !powerOn && (a == TM_RATE || a == TM_INTEG || a == RP_RST_CAUSE || (decide (RP_FUSE 0 ≤ a) && decide (a ≤ RP_FUSE 7)))
  let s := s.dropRegs fun a => regDomain a == 0 && !keep a
  if powerOn then { s.resetTime true with mem := [], ecc := [] } else s

/-! ### Assertion (R447, R448) -/

/-- Domains that source v resets, PD0 aside; PD5 to PD9 take their fuse states and reset values under every source. -/
def resetScope (v : Nat) : List Nat :=
  [9, 8, 7, 6, 5] ++ (if v = 5 then [1] else if v = 3 ∨ v = 4 ∨ v = 6 ∨ v = 7 then [3, 2, 1] else [4, 3, 2, 1])

/-- Sources whose trigger is a level (power-on, brown-out, RESET_N). -/
def levelSource (v : Nat) : Bool := decide (v ≤ 2)

/-- The lowest source in a mask. -/
def lowestSource (m : Nat) : Nat := ((List.range 9).find? (bitAt m)).getD 0

/-- Put a domain in reset: it counts as off and its clock as not qualified. -/
def Hub.holdDomain (s : Hub) (d : Nat) : Hub := (s.setBit RP_PD_STATUS d false).setBit RP_PD_STATUS (16 + d) false

/-- Record a source; LAST is the lowest of those of this reset. (Log entry 142: DEDUCED, unsafe) -/
def Hub.noteSource (s : Hub) (v wake : Nat) : Hub :=
  let srcs := s.pw.srcs ||| 2 ^ v
  let s := s.setBit RP_RST_CAUSE (16 + v) true
  let s := (s.setFld RP_RST_CAUSE 3 0 (lowestSource srcs)).setFld RP_RST_CAUSE 9 8 (if v = 8 then wake else s.fld RP_RST_CAUSE 9 8)
  { s with pw := { s.pw with srcs := srcs } }

/-- Source v leaves PD4 in retention, and forces PD5 to PD9 to fuse states (R446, R447). -/
def retainsAssay (v : Nat) : Bool := v != 0 && v != 1 && v != 2 && v != 8

/-- No source of a mask covers PD4 to PD9: the union of their scopes leaves PD4 in retention (R448). -/
def retainedBy (srcs : Nat) : Bool := (List.range 9).all fun v => !bitAt srcs v || retainsAssay v

/-- Option loading begins as soon as no source is held and PD0 has been released (R451). -/
def Hub.beginLoad (s : Hub) : Hub :=
  { s with pw := { s.pw with loadAt := if s.pw.held = 0 ∧ s.bit RP_PD_STATUS 0 then some s.xo else none } }

/-- What PD4 does as retention begins: runs in progress end and are judged, nothing waits to start (R129), and a pending store is
discarded (R101). -/
def Hub.retainAssay (s : Hub) : Hub :=
  let s := s.each (List.range 4) fun s q =>
    let s := (s.calEnd q 5 true).calRunEnd q
    s.setCalq q { s.calq q with asked := none, entry := false }
  { s with asy := { s.asy with pending := false, pendImg := [] } }

/-- Assert the reset of source v. The union of the scopes of sources in progress applies, since each holds its own; option loading
begins, or restarts, once no source is held and PD0 is on. The switches of PD5 to PD9 stay closed under a reset that forces them to fuse states,
until LOADING opens them (R491). Of PD2, which a debug request does not reset, LOADING powers only the decoder and the elastic
buffer (R22). (Log entry 141: DEDUCED, unsafe) -/
def Hub.assertReset (s : Hub) (v wake : Nat) : Hub :=
  let held := if levelSource v then s.pw.held ||| 2 ^ v else s.pw.held
  let s := if retainsAssay v then s.retainAssay else s
  let s := if v = 5 then s.resetDomain 2 else s
  let s := (resetScope v).foldl (fun s d => (s.resetDomain d).holdDomain d) s
  let s := if v = 0 then (s.resetAon true).holdDomain 0 else if v = 2 then (s.resetAon false).holdDomain 0 else s
  let s := (if v = 0 then { s with pw := {} } else s).setBit RP_FUSE_STATUS 0 false
  let s := s.noteSource v wake
  let s := s.setBit RP_PD_STATUS 26 (retainedBy s.pw.srcs)
  { s with pw := {
      srcs := s.pw.srcs, held := held, powered := if retainedBy s.pw.srcs then 31 + s.pw.powered / 32 * 32 else 31
      warnAt := s.pw.warnAt, belowAt := s.pw.belowAt, relAt := s.pw.relAt.filter fun x => x.1 == 0 } }.beginLoad

/-- POWER_ON_RESET and BROWN_OUT_RESET. -/
def execPowerOnReset := lift fun s => s.assertReset 0 0
def execBrownOutReset := lift fun s => s.assertReset 1 0

/-- WATCHDOG_TIMEOUT: PERIOD × 10 ms without a kick (R449). -/
def Hub.watchdog (s : Hub) : Hub :=
  if s.bit RP_WDOG 31 ∧ s.pw.kickAt + s.fld RP_WDOG 7 0 * 10 * xoMs ≤ s.xo then s.assertReset 3 0 else s

def execWatchdogTimeout := lift Hub.watchdog

/-- SOFTWARE_RESET_REQUEST: after SYS_RESET, or on firmware's request under R393. -/
def execSoftwareResetRequest := lift fun s => if s.pw.soft then s.assertReset 4 0 else s

/-- DEBUG_RESET_REQUEST: ignored with DEBUG_DIS = 1 (R454), and in DORMANT. -/
def execDebugResetRequest := lift fun s => if s.bit (RP_FUSE 3) 9 ∨ s.mode = mDORMANT then s else s.assertReset 5 0

/-- CLOCK_FAILURE_RESET: f_F out of range, or the PLL's loss of lock, for 1024 XO cycles (R34). (Log entry 168: DEDUCED, unsafe) -/
def execClockFailureReset (pllLost : Bool) := lift fun s =>
  if s.mode ≠ mDORMANT ∧ s.bit RP_PD_STATUS 1 ∧ (pllLost ∨ s.tt.badClk ≥ 1024) then s.assertReset 6 0 else s

/-- LOCKUP_RESET: 1024 core cycles, that is 32 frames, after a lock-up: one that the state shows, or that of the Signal Box by an exception which it
took while it was still saving state for an earlier one (R450). (Log entry 219: DESIGN CHOICE, safe) -/
def Hub.lockup (s : Hub) : Hub :=
  let nested := Config.nestedException s.frame && s.mode != mDORMANT && s.bit RP_PD_STATUS 1
  if nested ∨ s.pw.lockAt.any fun f => decide (f + 32 ≤ s.frame) then s.assertReset 7 0 else s

def execLockupReset := lift Hub.lockup

/-- A servo that was disciplined as the hub went DORMANT is in holdover, since then or since an earlier entry (R309). -/
def Hub.wakeServo (s : Hub) (slept : Bool) (since : Nat) : Hub :=
  if slept then
    { ((s.setServo 4).setFld TM_STATUS 6 5 3) with tm := { s.tm with holdXo := since } }.showHoldover
  else s

/-- DORMANT_WAKE: cause 0 an AONC trip with WAKE, 1 CSPI_CS_N, 2 RESET_N; `elapsed` XO cycles have passed since the last tick, over
which the time counter ran at I (R295, R435). (Log entry 146: DEDUCED, unsafe) -/
def Hub.wake (s : Hub) (cause elapsed : Nat) : Hub :=
  if s.mode ≠ mDORMANT ∨ (cause = 0 ∧ s.fld AONC_STATUS 11 8 = 0) then s
  else
    let s := ({ s.setReg TM_RATE (s.reg TM_INTEG) with xo := s.xo + elapsed }).timeAdvance elapsed 0
    ({ s with mem := [], ecc := [] }.assertReset 8 cause).wakeServo s.tm.slept s.tm.holdXo

def execDormantWake (cause : Fin 3) (elapsed : Nat) := lift fun s => s.wake cause.val elapsed

/-- RESET_N_ASSERT: in DORMANT it is a wake (R447). -/
def execResetNAssert := lift fun s => if s.mode = mDORMANT then s.wake 2 0 else s.assertReset 2 0

/-! ### Release and option loading (R444, R451-R457, R460) -/

/-- A held source is released; option loading begins once none is and PD0 is on. -/
def Hub.releaseSource (s : Hub) (v : Nat) : Hub :=
  if ¬ bitAt s.pw.held v then s
  else
    { s with pw := { s.pw with held := s.pw.held - 2 ^ v } }.beginLoad

def execPowerOnResetRelease := lift fun s => s.releaseSource 0
def execBrownOutResetRelease := lift fun s => s.releaseSource 1
def execResetNRelease := lift fun s => s.releaseSource 2

/-- The fuse map as one number. -/
def fuseBits : Nat := (List.range 8).foldl (fun a i => a + (Config.fuseMap (Fin.ofNat 8 i)).toNat * 2 ^ (32 * i)) 0

/-- A programmed map fails its CRC (R454, R456). -/
def fuseBad (map : Nat) : Bool := map != 0 && bits map 255 240 != crc16 (leBytes 30 (map % 2 ^ 240))

/-- The map as it is used: a bad one with every pin group and BIAS_DEFAULT at 0, DEBUG_DIS at 1 and SIG_REQ as R456 says. -/
def fuseUsed (map : Nat) : Nat :=
  if fuseBad map then bits map 255 106 * 2 ^ 106 + 2 ^ 105 + b2n Config.imageKeyHash.isSome * 2 ^ 104 else map

/-- OPTION_LOAD_COMPLETE: 1600 XO cycles after it began (R453). Channels take BIAS_DEFAULT. -/
def Hub.optionsLoaded (s : Hub) : Hub :=
  match s.pw.loadAt with
  | none => s
  | some t =>
    if s.xo < t + 1600 then s
    else
      let map := fuseBits
      let used := fuseUsed map
      let s := s.each (List.range 8) fun s i => s.setReg (RP_FUSE i) (used / 2 ^ (32 * i))
      let s := s.setReg RP_FUSE_STATUS (1 + 2 * b2n (map != 0) + 4 * b2n (fuseBad map))
      let s := { s with pw := { s.pw with loadAt := none } }
      s.each (List.range 256) Hub.biasReset

def execOptionLoadComplete := lift Hub.optionsLoaded

/-- The state of pin group g (R455): 1 only where the table gives a state for it. -/
def Hub.pinGroup (s : Hub) (g : Nat) : Nat :=
  let v := s.fld (RP_FUSE (3 * g / 32)) (3 * g % 32 + 2) (3 * g % 32) % 8
  let v := if 3 * g % 32 > 29 then ((s.reg (RP_FUSE (3 * g / 32)) / 2 ^ (3 * g % 32)) + s.reg (RP_FUSE (3 * g / 32 + 1)) * 2 ^ (32 - 3 * g % 32)) % 8 else v
  if v = 1 ∧ (g ≤ 8 ∨ g = 10 ∨ (18 ≤ g ∧ g ≤ 21) ∨ g = 24) then 1 else 0

/-- The domain that owns the pins of group g (R492, R494, R496). -/
def pinOwner (g : Nat) : Nat := if g ≤ 8 then 3 else if g ≤ 21 then 9 else if g = 22 ∨ g = 25 then 4 else 1

/-- The domain that owns pin i of group g governs it: it is on, not in retention, and of a lane that LOADING powers (R22, R23, R446); of group
8, pin i is RXi. Of the debug port, group 26, only DBG_TDO, pin 3, is ever driven, while the port, which DEBUG_DIS disables, drives it (R454,
R496). (Log entry 220: DESIGN CHOICE, safe) -/
def Hub.pinDriven (s : Hub) (g i : Nat) : Bool :=
  let lane := fun n => s.mode != mLOADING || s.trainingLanes.contains n
  s.bit RP_PD_STATUS (pinOwner g) &&
    (if g ≤ 7 then lane g || g == 0
     else if g = 8 then lane (8 + i)
     else if g = 26 then i == 3 && !s.bit (RP_FUSE 3) 9 && Config.debugDrives s.xo
     else !(pinOwner g == 4 && s.mode == mLOADING && s.bit RP_PD_STATUS 26))

/-- The reset state that pin i of a group holds while its domain is powered down: the value of R455; none while it is driven (R23). -/
def Hub.pinHeld (s : Hub) (g i : Nat) : Option Nat := if s.pinDriven g i then none else some (s.pinGroup g)

/-- The code of the level at CH_P[n] and CH_N[n] (R66); none while they are tied to AGND: the quadrant is not powered, or in a reset that covers it.
A powered quadrant forced to fuse states holds BIAS_DEFAULT (R491). -/
def Hub.chLevel (s : Hub) (n : Nat) : Option Nat :=
  if ¬ bitAt s.pw.powered (5 + n / 64) then none
  else if s.bit RP_PD_STATUS (5 + n / 64) then some (s.fld (AFE_CH_STAT n) 31 24)
  else if s.pw.srcs ≠ 0 ∧ retainedBy s.pw.srcs then some s.biasDefault
  else none

/-- The boot ROM starts in LOADING as PD1 is released: straps, clock source and the windows of master 0 (R31, R404, R457). PD5 to PD9 are
switched off, and lanes that R22 does not power go OFF. (Log entry 144: DEDUCED, safe) -/
def Hub.boot (s : Hub) (straps : Nat) : Hub :=
  let s := s.setReg SYS_STRAPS straps
  let src := if bitAt straps 2 then 2 else 0
  let s := (s.setFld TT_CLOCK 1 0 src).setFld TT_STATUS 5 4 src
  let s := { (s.setWindows 0 bootWindows).setBit FW_STATUS 8 true with pw := { s.pw with powered := s.pw.powered % 32 } }
  s.each (List.range 11) fun s n => if s.laneState n ≠ lsOFF ∧ ¬ s.trainingLanes.contains n then s.enterLane n lsOFF else s

/-- DOMAIN_RESET_RELEASE: 256 qualified cycles have passed in the domain's clock. PD0 is released once RESET_N is high, and option loading
follows it; the others are released in ascending number, once no source is held and the options are loaded (R444, R445, R451, R452). `straps`
are the levels of CLKMODE, BOOT1 and BOOT0. (Log entry 142: DEDUCED, unsafe) -/
def Hub.domainRelease (s : Hub) (d straps : Nat) : Hub :=
  let first := (List.range d).all fun k => !bitAt s.pw.powered k || s.bit RP_PD_STATUS k
  let wait := if d = 0 then bitAt s.pw.held 2 else s.pw.held != 0 || !s.bit RP_FUSE_STATUS 0
  if s.bit RP_PD_STATUS d ∨ ¬ bitAt s.pw.powered d ∨ ¬ first ∨ wait then s
  else
    let s := (s.setBit RP_PD_STATUS d true).setBit RP_PD_STATUS (16 + d) true
    let rel := tset (fun _ => (0, 0)) s.pw.relAt d (s.frame, s.xo)
    let done := (List.range 5).all fun k => s.bit RP_PD_STATUS k
    let s := { s with pw := { s.pw with relAt := rel, srcs := if done then 0 else s.pw.srcs } }
    if d = 0 then s.beginLoad
    else if d = 1 then s.boot straps
    else if 5 ≤ d ∧ d ≤ 8 then
      let q := d - 5
      let s := s.setQuad q { on := true, calStart := if s.retired q then none else some s.calFrom, period := s.fld CAL_ROT 15 0, trims := (s.quad q).trims }
      s.each ((List.range 64).map (64 * q + ·)) fun s n =>
        let s := s.setFld (AFE_CH_STAT n) 31 24 s.biasDefault
        if s.fld (AFE_CH_CFG n) 15 8 = s.biasDefault then s else s.setChan n { s.chan n with rampNext := some (s.frame + 1) }
    else s

def execDomainResetRelease (d : Fin 10) (straps : BitVec 3) := lift fun s => s.domainRelease d.val straps.toNat

/-- PD0 is held in reset again: its contents are reset as the reset in progress does, but for RP_RST_CAUSE, and the options load once more
(R451, R452). (Log entry 143: DEDUCED, unsafe) -/
def Hub.holdAon (s : Hub) : Hub :=
  let cause := s.reg RP_RST_CAUSE
  (((s.resetAon (bitAt s.pw.srcs 0)).setReg RP_RST_CAUSE cause).holdDomain 0).setBit RP_FUSE_STATUS 0 false |>.beginLoad

/-- CLK_QUAL_LOSS: a domain's clock leaves its limit during release or within the first 256 cycles after it: 256 XO cycles of PD0, 8
frames of the others (R452). (Log entry 143: DEDUCED, unsafe) -/
def Hub.qualLoss (s : Hub) (d : Nat) : Hub :=
  let r := tget (fun _ => (0, 0)) s.pw.relAt d
  if ¬ s.bit RP_PD_STATUS d then s.setBit RP_PD_STATUS (16 + d) false
  else if d = 0 then (if s.xo ≤ r.2 + 256 then s.holdAon else s)
  else if s.frame ≤ r.1 + 8 then (s.resetDomain d).holdDomain d else s

def execClkQualLoss (d : Fin 10) := lift fun s => s.qualLoss d.val

/-! ### Supply warning (R459) -/

/-- The warning levels of VDD_CORE, VDD_AFE, VDD_LINK and VDD_IO in mV (R443). -/
def warnLevels : List Nat := [760, 1710, 855, 1710]

/-- The monitored rails below their warning level when the four have stayed at `mv` (mV) for 1 us: a rail that was below stays so until it is
at least 20 mV above the level (R443). -/
def Hub.railsBelow (s : Hub) (mv : List Nat) : Nat :=
  (List.range 4).foldl (fun a k =>
    let level := warnLevels.getD k 0
    a + b2n (decide (mv.getD k 0 < level) || (s.bit RP_SUPPLY (20 + k) && decide (mv.getD k 0 < level + 20))) * 2 ^ k) 0

/-- SUPPLY_WARN_LATCH: the monitored rails have stayed at the levels `mv` (mV) for 1 us. The warning latches when one is below its warning
level; while it is latched the row also tells of a rail that falls later, or rises again: the last that was below rose 1 us before the row
that finds none. (Log entry 118: DEDUCED, safe) -/
def Hub.warnLatch (s : Hub) (mv : List Nat) : Hub :=
  let now := s.railsBelow mv
  if now = 0 ∧ s.fld RP_SUPPLY 23 20 = 0 then s
  else
    let s := (s.setFld RP_SUPPLY 23 20 now).setFld RP_SUPPLY 19 16 (s.fld RP_SUPPLY 19 16 ||| now)
    let s := { s with pw := { s.pw with belowAt := if now = 0 then s.xo - xoUs else s.xo } }
    if now = 0 ∨ s.bit RP_SUPPLY 8 then s
    else
      let s := (s.setBit RP_SUPPLY 8 true).incSat RP_SUPPLY 7 0
      let s := { s with pw := { s.pw with warnAt := s.xo } }
      let s := match s.mon.run with | some r => s.setRun (some { r with warn := true }) | none => s
      s.emit 0x0102 [1, s.fld RP_SUPPLY 19 16]

def execSupplyWarnLatch (i : RailLevels) := lift fun s => s.warnLatch [i.core.toNat, i.afe.toNat, i.link.toNat, i.io.toNat]

/-- SUPPLY_WARN_CLEAR: every monitored rail has been above its warning level for 1 ms, since the last that was below it.
(Log entry 118: DEDUCED, safe) -/
def Hub.warnClear (s : Hub) : Hub :=
  if ¬ s.bit RP_SUPPLY 8 ∨ s.fld RP_SUPPLY 23 20 ≠ 0 ∨ s.xo < s.pw.belowAt + xoMs then s
  else
    let s := s.setBit RP_SUPPLY 8 false
    s.emit 0x0102 [0, s.fld RP_SUPPLY 19 16, min (2 ^ 32 - 1) ((s.xo - s.pw.warnAt) / xoUs)]

def execSupplyWarnClear := lift Hub.warnClear

/-! ### The watchdog (R449) -/

/-- RP_WDOG_KICK_WRITE: a write of 0xA5C3 by master 0 kicks; other writes complete and change nothing. -/
def Hub.kick (s : Hub) (master v : Nat) : Hub :=
  if master = 0 ∧ v % 2 ^ 16 = 0xA5C3 then { s with pw := { s.pw with kickAt := s.xo } } else s

def execRpWdogKickWrite (master : Fin 6) (v : BitVec 32) := lift fun s => s.kick master.val v.toNat

/-- A write of RP_WDOG by master 0: EN cannot be cleared, and setting it starts a period; PERIOD 0 is reserved. -/
def Hub.setWdog (s : Hub) (w : Nat) : Hub :=
  if bits w 7 0 = 0 then s
  else
    let on := s.bit RP_WDOG 31
    let s := s.setReg RP_WDOG (b2n (on || bitAt w 31) * 2 ^ 31 + bits w 7 0)
    if on ∨ ¬ bitAt w 31 then s else { s with pw := { s.pw with kickAt := s.xo } }

end Sys2Proof.Machine
end

