-- ==== Sys2Proof/Machine/Modes.lean ====
section
/-! DEFINITION. The operating modes: transitions, SYS_PREP, entry to a mode, and MODE_SET, MODE_GET and SYS_RESET
(17_control_protocol.md, R431-R437, R501). -/

namespace Sys2Proof.Machine

/-! ### SYS_PREP (R433) -/

/-- WAIT bits 0 to 4: what entry to RUN or PULSE still waits for. -/
def Hub.waitBits (s : Hub) : Nat :=
  let entry := (List.range 4).any fun q => (s.calq q).entry || (match (s.calq q).run with | some r => r.entry | none => false)
  b2n (s.afeStatus % 16 != 15) + 2 * b2n entry + 4 * b2n (s.laneState 6 != lsACTIVE) +
    8 * b2n (s.dropSet (s.lanesIn [lsACTIVE] &&& s.streamLanes) != 0) + 16 * b2n (s.clockLane.isSome && !s.tt.marked)

/-- ADVISE bits 8 to 12. -/
def Hub.adviseBits (s : Hub) : Nat :=
  b2n (s.servo != 3) * 2 ^ 8 + b2n (!s.jctImage) * 2 ^ 9 + b2n ((List.range 8).any fun g => s.feLoaded g && !s.feBusy g) * 2 ^ 10 +
    b2n (s.asy.sealSt != 0) * 2 ^ 11 + b2n (s.bit RP_SUPPLY 8) * 2 ^ 12

/-- SYS_PREP at a tick; `partner` is the partner's WAIT bits [4:0], which the tick brings. (Log entry 103: DESIGN CHOICE, safe) -/
def Hub.prepTick (s : Hub) (partner : Nat) : Hub := s.setReg SYS_PREP (s.adviseBits + b2n (s.joined && partner != 0) * 32 + s.waitBits)

/-! ### When a change takes effect (R432-R434) -/

/-- PENDING and TARGET of SYS_MODE. -/
def Hub.showTarget (s : Hub) (pending : Bool) (target : Nat) : Hub := (s.setBit SYS_MODE 12 pending).setFld SYS_MODE 10 8 target

/-! ### Entry to a mode (R432, R445, R501) -/

/-- EV_TIME_EPOCH of an entry to IDLE. -/
def Hub.idleEpoch (s : Hub) : Hub := s.epochMarker s.tm.epochAt.1 s.tm.epochAt.2

/-- The conditions that hold as IDLE is entered from LOADING, one event each (R501). (Log entry 17: DEDUCED, unsafe) -/
def Hub.idleConditions (s : Hub) : Hub :=
  let s := if s.bit RP_SUPPLY 8 then s.emit 0x0102 [1, s.fld RP_SUPPLY 19 16] else s
  let s := if s.servo = 4 then s.emit 0x0B04 [1, s.fld TM_STATUS 6 5] else s
  if s.fld AONC_STATUS 3 0 ≠ 0 then s.emit 0x0D03 [s.fld AONC_STATUS 3 0, s.fld AONC_STATUS 11 8] else s

/-- What firmware sets on entry to IDLE: the watchdog and the host bridge's windows (R406, R449). -/
def Hub.idleSettings (s : Hub) : Hub := (s.setWdog (2 ^ 31 + 10)).setWindows 3 hostWindows

/-- PD5 to PD8 are switched off, highest first, and PD9 stays on; AFE runs in progress end (R21, R445). (Log entry 32: DESIGN CHOICE, unsafe) -/
def Hub.quadsOff (s : Hub) : Hub :=
  let s := s.each [8, 7, 6, 5] fun s d => ((s.calEnd (d - 5) 5 false).quadOff (d - 5)).holdDomain d
  { s with pw := { s.pw with powered := s.pw.powered % 32 + s.pw.powered / 512 * 512 } }

/-- Switch PD9 on: with the entry to IDLE, or after PD8 where the mode needs the quadrants too. (Log entry 251: DEDUCED, unsafe) -/
def Hub.auxPower (s : Hub) : Hub := { s with pw := { s.pw with powered := s.pw.powered ||| 0x200 } }

/-- Modes in which the quadrants are powered (R21). -/
def quadModes : List Nat := [mPREPARE, mRUN, mPULSE, mHOLD, mTEST]

/-- The hub enters a mode: SYS_MODE and its first crossing, what the entry starts, and EV_MODE. -/
def Hub.enterMode (s : Hub) (goal cause : Nat) : Hub :=
  let old := s.mode
  let boot2 := decide (old = mLOADING) && s.fld SYS_STRAPS 1 0 == 2
  let pending := goal = mPREPARE ∧ s.bit SYS_MODE 12 ∧ s.fld SYS_MODE 10 8 ≠ mPREPARE
  let target := if pending then s.fld SYS_MODE 10 8 else goal
  let s := (s.setFld SYS_MODE 2 0 goal).showTarget (decide pending) target
  let s := (s.setReg SYS_MODE_CROSSING s.tt.crossing).setShadow SYS_MODE_TURN s.tt.turn
  let s := { s with
    pw := { s.pw with
      chg := if pending then some { goal := target, kind := 4, cause := 2 } else none
      quadAt := if quadModes.contains old then s.pw.quadAt else s.xo }
    tt := { s.tt with exitAt := none, marked := if goal = mPREPARE then false else s.tt.marked } }
  let s := if goal = mIDLE ∧ quadModes.contains old then s.quadsOff else s
  let s := if goal = mIDLE then s.auxPower else s
  let s := if old = mLOADING then { s.holdSec with tm := { s.tm with epochDue := false } } else s
  let s := if goal = mPREPARE then s.each (List.range 4) fun s q => s.setCalq q { s.calq q with entry := true } else s
  let s := if goal = mIDLE ∧ old = mLOADING then s.emit 0x0101 [s.reg RP_RST_CAUSE, s.reg SYS_FW, s.reg SYS_STRAPS] else s
  let s := s.emit 0x0201 [goal, old, cause, s.tt.crossing, s.tt.turn]
  let s := if goal = mIDLE then s.idleSettings.idleEpoch else s
  let s := if goal = mIDLE ∧ old = mLOADING then s.idleConditions else s
  s.trainOnMode goal boot2

/-- Answer the MODE_SET that waits. -/
def Hub.answerMode (s : Hub) (status : Nat) : Hub :=
  { s with pw := { s.pw with prepFrom := none } }.complete (fun d => d.op = 0x0201) status s.modePayload

/-- The hub goes DORMANT: PD1 to PD9 lose power (R435), and a disciplined servo is to return in holdover (R309). (Log entry 146: DEDUCED, unsafe) -/
def Hub.sleep (s : Hub) : Hub :=
  let slept := decide (2 ≤ s.servo) && decide (s.servo ≤ 4)
  let since := if s.servo = 4 then s.tm.holdXo else s.xo
  let s := (resetScope 8).foldl (fun s d => (s.resetDomain d).holdDomain d) s
  { (s.setReg SYS_MODE 0).setReg TM_RATE (s.reg TM_INTEG) with
    tm := { s.tm with slept := slept, holdXo := since }
    pw := { s.pw with powered := 1, chg := none } }

/-- MODE_CHANGE_APPLY: the change takes effect at the tick that has begun its first crossing; DORMANT follows the response.
(Log entry 150: DEDUCED, unsafe) -/
def Hub.applyChange (s : Hub) : Hub :=
  match s.pw.chg with
  | none => s
  | some c =>
    if c.kind = 3 then s.sleep
    else if c.kind = 4 ∨ s.now.mode ≠ c.goal ∨ s.mode = c.goal then s
    else
      let s := s.enterMode c.goal c.cause
      if s.bit SYS_MODE 12 then s else s.answerMode stOK

def execModeChangeApply := lift Hub.applyChange

/-- PREPARE_TARGET_ENTRY: RUN or PULSE is entered at crossing 0 of the first turn that starts with no WAIT bit set (R433). -/
def Hub.targetEntry (s : Hub) : Hub :=
  match s.pw.chg with
  | none => s
  | some c => if c.kind ≠ 4 ∨ s.now.mode ≠ c.goal ∨ s.mode = c.goal then s else (s.enterMode c.goal c.cause).answerMode stOK

def execPrepareTargetEntry := lift Hub.targetEntry

/-- PREP_LIMIT_TIMEOUT: PREP_LIMIT × 100 ms have passed since the MODE_SET was accepted; the hub stays in PREPARE. -/
def Hub.prepTimeout (s : Hub) : Hub :=
  let limit := s.fld SYS_CTRL 7 0
  match s.pw.chg, s.pw.prepFrom with
  | some c, some t =>
    if c.kind ≠ 4 ∨ limit = 0 ∨ s.xo < t + limit * 100 * xoMs ∨ s.now.mode = c.goal then s
    else ({ s.showTarget false mPREPARE with pw := { s.pw with chg := none } }).answerMode stTIMEOUT
  | _, _ => s

def execPrepLimitTimeout := lift Hub.prepTimeout

/-- QUADRANT_POWER_ON: quadrants are switched on one at a time, Q0 first, each 50 us after the one before; PD9 follows
PD8 where it was still off (R445). (Log entry 145: DEDUCED, safe; log entry 251: DEDUCED, unsafe) -/
def Hub.quadPower (s : Hub) (q : Nat) : Hub :=
  if ¬ s.modeIn quadModes ∨ bitAt s.pw.powered (5 + q) ∨ ¬ (List.range q).all (fun k => bitAt s.pw.powered (5 + k)) ∨
      s.xo < s.pw.quadAt + (if q = 0 then 0 else 50 * xoUs) then s
  else
    let s := { s with pw := { s.pw with powered := s.pw.powered + 2 ^ (5 + q), quadAt := s.xo } }
    if q = 3 then s.auxPower else s

def execQuadrantPowerOn (q : Fin 4) := lift fun s => s.quadPower q.val

/-! ### MODE and SYS_RESET commands (R432, R435, R437, R440, R442) -/

/-- Request a change, which MODE_SET's response awaits. (Log entry 151: DEDUCED, unsafe) -/
def Hub.request4 (s : Hub) (goal kind target : Nat) : Reply × Hub :=
  (.later 0, { s.showTarget true target with
    pw := { s.pw with
      chg := some { goal := goal, kind := kind, cause := if kind = 4 then 2 else 0 }
      prepFrom := if target = mRUN ∨ target = mPULSE then some s.xo else none } })

/-- How a listed transition takes effect; none for one that the table of R432 does not list. -/
def Hub.transition (s : Hub) (goal : Nat) : Option Nat :=
  let m := s.mode
  if m = mIDLE then (if goal = mPREPARE ∨ goal = mTEST ∨ goal = mRUN ∨ goal = mPULSE then some 0 else if goal = mDORMANT then some 3 else none)
  else if m = mPREPARE then (if goal = mRUN ∨ goal = mPULSE then some 4 else if goal = mIDLE then some 0 else none)
  else if m = mTEST then (if goal = mIDLE then some 0 else none)
  else if m = mRUN then (if goal = mPULSE ∨ goal = mHOLD ∨ goal = mIDLE then some 1 else none)
  else if m = mPULSE then (if goal = mRUN ∨ goal = mHOLD ∨ goal = mIDLE then some 1 else none)
  else if m = mHOLD then
    (if goal = mIDLE then some 1 else if goal = mRUN ∨ goal = mPULSE then some (if s.clockLane.isSome then 2 else 1) else none)
  else none

/-- A transition is pending. -/
def Hub.changing (s : Hub) : Bool := s.bit SYS_MODE 12

/-- MODE_SET IDLE in PREPARE cancels what is pending: its MODE_SET is answered DENIED, naming PREPARE (R437). -/
def Hub.cancelTarget (s : Hub) : Hub := ({ s.showTarget false mPREPARE with pw := { s.pw with chg := none } }).answerMode stDENIED

/-- EV_MODE of a change to DORMANT leaves before the response, as no frame follows in which it could (R420, R432, R435).
(Log entry 214: DESIGN CHOICE, unsafe) -/
def Hub.toDormant (s : Hub) : Hub := s.emit 0x0201 [mDORMANT, s.mode, 0, s.nextCross.1, s.nextCross.2]

def modeSetBody (p : List Byte) (s : Hub) : Reply × Hub :=
  let goal := pl p 0 1
  let cancels : Bool := goal = mIDLE && s.mode = mPREPARE && s.changing
  let way := s.transition goal
  guarded [(p.length ≠ 4, stBAD_LEN), (goal > 7 ∨ ¬ plZero p 1 3, stBAD_ARG), (goal ≠ s.mode ∧ way.isNone, stBAD_MODE),
    (s.changing ∧ ¬ cancels, stBUSY), (goal = mDORMANT ∧ (s.asy.storing.isSome ∨ s.asy.pending), stBUSY),
    (s.mode = mIDLE ∧ (goal = mPREPARE ∨ goal = mRUN ∨ goal = mPULSE) ∧ ¬ s.admits, stNOT_ADMITTED)] s fun s =>
  if goal = s.mode then okay s.modePayload s
  else if goal = mDORMANT ∧ s.joinSet then (.now stDENIED s.modePayload, s)
  else if goal = mDORMANT then okay s.modePayload (s.toDormant.request4 goal 3 goal).2
  else if cancels then s.cancelTarget.request4 goal 0 goal
  else if s.mode = mIDLE ∧ (goal = mRUN ∨ goal = mPULSE) then s.request4 mPREPARE 0 goal
  else s.request4 goal (way.getD 0) goal

def modeGetBody (p : List Byte) (s : Hub) : Reply × Hub :=
  guarded [(p.length ≠ 0, stBAD_LEN)] s fun s =>
  okay (words [s.reg SYS_MODE, s.reg SYS_PREP, s.reg SYS_MODE_CROSSING, s.shadowTurn SYS_MODE_TURN]) s

def sysResetBody (p : List Byte) (s : Hub) : Reply × Hub :=
  guarded [(p.length ≠ 4, stBAD_LEN), (pl p 0 2 ≠ 0x5AA5 ∨ ¬ plZero p 2 2, stBAD_ARG)] s fun s =>
  okay [] { s with pw := { s.pw with soft := true } }

def execModeSet (h : Hdr) (p : List Byte) := lift fun s => s.command 0x0201 h p (modeSetBody p)
def execModeGet (h : Hdr) (p : List Byte) := lift fun s => s.command 0x0202 h p (modeGetBody p)
def execSysReset (h : Hdr) (p : List Byte) := lift fun s => s.command 0x0102 h p (sysResetBody p)

end Sys2Proof.Machine
end

