-- ==== Sys2Proof/Machine/Image.lean ====
section
/-! DEFINITION. The Ulipa image: its container, the checks and the load of IMAGE_END, and the IMAGE commands
(18_power_reset_bringup.md, R461-R467; R105, R446). -/

namespace Sys2Proof.Machine

/-! ### The container (R461, R462) -/

/-- Where IMAGE_DATA leaves the image: the start of the stream elastic buffer (R466). -/
def imageBase : Nat := 0x30000000

/-- A section entry (R462). -/
structure Section where
  index : Nat
  kind : Nat
  packed : Bool
  dest : Nat
  offset : Nat
  stored : Nat
  units : Nat
  digest : List Byte
  deriving DecidableEq, Repr

/-- Entry i of the section table of an image. -/
def sectionAt (b : List Byte) (i : Nat) : Section :=
  let o := 0x40 + 64 * i
  { index := i, kind := pl b o 1, packed := bitAt (pl b (o + 1) 1) 0, dest := pl b (o + 4) 4, offset := pl b (o + 8) 4,
    stored := pl b (o + 12) 4, units := pl b (o + 16) 4, digest := (b.drop (o + 0x20)).take 32 }

/-- A field that R462 reserves in entry i is not 0. -/
def sectionReserved (b : List Byte) (i : Nat) : Bool :=
  let o := 0x40 + 64 * i
  decide (pl b (o + 1) 1 > 1) || !plZero b (o + 2) 2 || !plZero b (o + 0x14) 12

/-- The container header and HDR_CRC of an image of `size` bytes (R461). (Log entry 152: DEDUCED, unsafe) -/
def headerOk (b : List Byte) (size : Nat) : Bool :=
  let tableEnd := 0x40 + 64 * pl b 6 2
  pl b 0 4 == 0x41504C55 && pl b 4 2 == 1 && decide (1 ≤ pl b 6 2) && decide (pl b 6 2 ≤ 16) && pl b 8 4 == size &&
    decide (pl b 0xC 4 ≤ 1) && (pl b 0xC 4 == 1 || pl b 0x14 4 == 0) && plZero b 0x18 0x24 && decide (tableEnd ≤ size) &&
    crc32c (b.take 0x3C ++ (b.drop 0x40).take (64 * pl b 6 2)) == pl b 0x3C 4

/-- The signature of a signed image, and SIG_REQ of an unsigned one (R463). -/
def Hub.signatureOk (s : Hub) (b : List Byte) : Bool :=
  if pl b 0xC 4 = 0 then !s.bit (RP_FUSE 3) 8
  else
    let o := pl b 0x14 4
    let field := fun (i : Nat) => (b.drop (o + 32 * i)).take 32
    match Config.imageKeyHash with
    | none => false
    | some key =>
      decide (o + 128 ≤ b.length) && sha256 (field 0 ++ field 1) == leBytes 32 key.toNat &&
        ecdsaVerify (beNat (field 0)) (beNat (field 1)) (beNat (field 2)) (beNat (field 3)) (sha256 (b.take (0x40 + 64 * pl b 6 2)))

/-- The largest unpacked size of a section kind (R462). -/
def maxSize (kind : Nat) : Nat := [0, 0x1F0000, 0x2000, 0x40000, 0x100000].getD kind 0

/-- DEST of a section is one that R462 gives its kind; `fw` is the size of section 1. -/
def destFits (fw : Nat) (x : Section) : Bool :=
  match x.kind with
  | 1 => x.dest == 0x10000000
  | 2 => x.dest == 0x38009000
  | 3 => x.dest == 0
  | 4 => decide (0x10000000 + fw ≤ x.dest) && decide (x.dest + 2 * x.units ≤ 0x101F0000)
  | _ => false

/-- Entry x of the table is as R462 asks, beside the entries before it; `fw` is the size of section 1. -/
def sectionOk (b : List Byte) (size fw : Nat) (earlier : List Section) (x : Section) : Bool :=
  let n := 2 * x.units
  decide (1 ≤ x.kind) && decide (x.kind ≤ 4) && !(earlier.any fun y => y.kind == x.kind) && !sectionReserved b x.index && destFits fw x &&
    decide (n ≤ maxSize x.kind) && x.offset % 4 == 0 && decide (x.offset + x.stored ≤ size) && (x.packed || x.stored == n)

/-- Why an image fails: SECTION, CAUSE and DEC_ERR of the IMAGE_END response (R466). -/
structure ImageError where
  sec : Nat := 0xFF
  cause : Nat
  dec : Nat := 0
  deriving DecidableEq, Repr

/-- Steps 1 to 3 of R464: the checked section table. (Log entry 153: DEDUCED, unsafe) -/
def Hub.checkImage (s : Hub) (b : List Byte) (size : Nat) : Except ImageError (List Section) :=
  if ¬ headerOk b size then .error { cause := 1 }
  else if ¬ s.signatureOk b then .error { cause := 2 }
  else
    let xs := (List.range (pl b 6 2)).map (sectionAt b)
    let fw := 2 * (match xs.find? (·.kind == 1) with | some x => x.units | none => 0)
    match xs.find? fun x => !sectionOk b size fw (xs.take x.index) x with
    | some x => .error { sec := x.index, cause := 3 }
    | none =>
      if ¬ (xs.any (·.kind == 1) ∧ xs.any (·.kind == 2)) then .error { cause := 3 }
      else if ¬ xs.any (·.kind == 3) ∧ ¬ s.bit RP_PD_STATUS 26 then .error { cause := 6 }
      else .ok xs

/-! ### The load (R464, R465, R105) -/

/-- The decoder's windows: the destinations of the checked table (R406, R464). (Log entry 160: DEDUCED, safe) -/
def Hub.decoderWindows (s : Hub) (xs : List Section) : Hub :=
  s.setWindows 4 ((xs.filter fun x => x.kind ≠ 3).map fun x => (x.dest, x.dest + 2 * x.units - 1, 5))

/-- The unpacked bytes of a section, or the decoder's error (R257). (Log entry 154: DEDUCED, unsafe) -/
def unpackSection (b : List Byte) (x : Section) : Except Nat (List Byte) :=
  let body := (b.drop x.offset).take x.stored
  if ¬ x.packed then .ok body
  else if x.stored % 4 ≠ 0 then .error 3
  else match decodeSection x.units body with
    | .error e => .error e
    | .ok us => .ok (us.flatMap (leBytes 2))

/-- The start of the load of an Assay section: it ends retention, and PD4 is cleared (R446). -/
def Hub.startAssayLoad (s : Hub) : Hub := if s.bit RP_PD_STATUS 26 then s.clearAssay.setBit RP_PD_STATUS 26 false else s

/-- The decoder writes a section to its destination: whether its windows allow it and every word was written (R394, R403). -/
def Hub.decoderStore (s : Hub) (a : Nat) (bs : List Byte) : Bool × Hub :=
  match s.reach 4 a bs.length 1 with
  | (true, s) => s.tryStore 4 [] a bs
  | (false, s) => (false, s)

/-- Load one section: unpack it to its destination and compare its SHA-256 (step 4 of R464). -/
def Hub.loadSection (s : Hub) (b : List Byte) (x : Section) : Hub × Option ImageError :=
  let s := if x.kind = 3 then s.startAssayLoad else s
  let (s, bad) := s.eccScan 4 (imageBase + x.offset) x.stored
  match bad with
  | some w => (s.uncorrectable 2 w 4 0 [], some { sec := x.index, cause := 7 })
  | none =>
    match unpackSection b x with
    | .error e => (s, some { sec := x.index, cause := 4, dec := e })
    | .ok bytes =>
      let (ok, s) := if x.kind = 3 then (true, s) else s.decoderStore x.dest bytes
      if ¬ ok then (s, some { sec := x.index, cause := 7 })
      else if sha256 bytes ≠ x.digest then (s, some { sec := x.index, cause := 5 })
      else (if x.kind = 3 then { s with asy := { s.asy with fwDigest := x.digest, engine := 2 } } else s, none)

/-- Load the sections in table order, up to the first failure. -/
def Hub.loadSections (s : Hub) (b : List Byte) : List Section → Hub × Option ImageError
  | [] => (s, none)
  | x :: xs => match s.loadSection b x with
    | (s, some e) => (s, some e)
    | (s, none) => s.loadSections b xs

/-- PD4 after the load: constants by R100 for a new Assay section; out of retention an OPEN seal, its unsealed changes and its renewal
are discarded (R109, R446); then the hallmark is verified (R105). (Log entry 172: DEDUCED, unsafe) -/
def Hub.resumeAssay (s : Hub) (loaded : Bool) : Hub :=
  if loaded then s.chooseBank.verifyHallmark
  else if s.asy.sealSt = 1 then
    let block := fun (o : Nat) => match s.asy.bankInUse with
      | some k => imgGet (s.bankImage k) (0x100 + o) 1
      | none => nominalByte (0x100 + o)
    let img := (List.range 0x400).foldl (fun img o => imgPut img (0x100 + o) 1 (block o)) s.asy.img
    { s with asy := { s.asy with img := img, imgAct := img, storing := s.asy.storing.filter (·.kind == 0) } }.verifyHallmark
  else s.verifyHallmark

/-- Free bytes from an address upward, a word of four at a time. -/
def Hub.scribble : Nat → Hub → Nat → Nat → Hub
  | 0, s, _, _ => s
  | f + 1, s, a, n =>
    if n = 0 then s
    else
      let (w, s) := s.drawWord
      Hub.scribble f { s with mem := memPuts s.mem a ((leBytes 4 w).take n) } (a + 4) (n - 4)

/-- The destinations that the section table of an image names, checked or not: entries whose DEST is one of R462's, cut to the largest
section of the kind. -/
def destinations (b : List Byte) : List Section :=
  ((List.range (min 16 (pl b 6 2))).map (sectionAt b)).filterMap fun x =>
    let x := { x with units := min x.units (maxSize x.kind / 2) }
    if destFits 0 x then some x else none

/-- A failed load: whatever failed, the contents of every destination are undefined, nothing runs, and the hub waits for a new IMAGE_BEGIN. The
Assay partition is a destination from the start of its section's load (R446, R464). (Log entry 155: DEDUCED, safe) -/
def Hub.failImage (s : Hub) (b : List Byte) (e : ImageError) : Reply × Hub :=
  let s := s.each (destinations b) fun s x =>
    if x.kind ≠ 3 then Hub.scribble (x.units + 1) s x.dest (2 * x.units)
    else if e.sec = 0xFF ∨ e.cause = 3 ∨ e.sec < x.index then s
    else
      let ws := (List.range 8).map fun i => (Config.freeWord (s.free + i)).toNat
      { s with free := s.free + 8, asy := { s.asy with fwDigest := words ws, engine := 0 } }
  (.now stINTEGRITY [BitVec.ofNat 8 e.sec, BitVec.ofNat 8 e.cause, BitVec.ofNat 8 e.dec, 0],
    ({ s with pw := { s.pw with img := none } }).setReg RP_IMAGE (4 * 2 ^ 24 + e.sec * 2 ^ 16 + e.cause * 2 ^ 8 + e.dec))

/-- Firmware starts: what S41 holds gives no event (R501), and the Dispatcher and the Junction engine get their windows.
(Log entry 196: DESIGN CHOICE, unsafe) -/
def Hub.startFirmware (s : Hub) : Hub :=
  let s := s.each (List.range (s.items 41).length) fun s _ => s.sidPop 41
  (s.setWindows 1 dispatcherWindows).setWindows 2 junctionWindows

/-- The counters start at crossing 0 of turn 0 as TEST is entered at the end of the load with the XO as source (R37, R432). -/
def Hub.startAtLoad (s : Hub) (goal : Nat) : Hub :=
  if goal = mTEST ∧ s.clockLane.isNone then { s with tt := { s.tt with crossing := 0, turn := 0 } }.zeroAt (s.frame + 1) (s.frame + max 1 s.turnLen)
  else s

/-- The events of the verification, which firmware emits once it runs: of a change of seal state and of a burn that was completed (R110).
(Log entry 195: DEDUCED, unsafe) -/
def Hub.sealEvents (s : Hub) (sealSt otp : Nat) : Hub :=
  let s := if s.asy.sealSt = sealSt then s else s.emit 0x1001 [s.asy.sealSt, s.asy.cause, s.asy.otp]
  if s.asy.otp = otp then s else s.renewed (s.asy.bankInUse.getD 0)

/-- A completed load: firmware starts and enters the mode of BOOT (R432, R458). `sealSt` and `otp` are those before the load.
(Log entry 159: DEDUCED, unsafe) -/
def Hub.runImage (s : Hub) (b : List Byte) (sealSt otp : Nat) : Reply × Hub :=
  let fw := pl b 0x10 1 * 2 ^ 24 + pl b 0x11 1 * 2 ^ 16 + pl b 0x12 2
  let goal := if s.fld SYS_STRAPS 1 0 = 3 then mTEST else mIDLE
  let s := (({ s with pw := { s.pw with img := none } }).setReg RP_IMAGE (3 * 2 ^ 24)).setReg SYS_FW fw
  let s := ((s.startFirmware.startAtLoad goal).enterMode goal 1).sealEvents sealSt otp
  okay ([BitVec.ofNat 8 s.mode, 0, 0, 0] ++ leBytes 4 fw) s

/-- The reads of the container header, the section table and, of a signed image, the signature block (R390, R393). -/
def Hub.imageScan (s : Hub) (b : List Byte) (size : Nat) : Hub × Option Nat :=
  let (s, bad) := s.eccScan 4 imageBase (0x40 + 64 * pl b 6 2)
  if bad.isNone ∧ headerOk b size ∧ pl b 0xC 4 = 1 then s.eccScan 4 (imageBase + pl b 0x14 4) 128 else (s, bad)

/-- Check and load the image received (R464). The first failure ends the load. (Log entry 153: DEDUCED, unsafe) -/
def Hub.endImage (s : Hub) (size : Nat) : Reply × Hub :=
  let b := s.bytes imageBase size
  let (s, bad) := s.imageScan b size
  match bad with
  | some w => (s.uncorrectable 2 w 4 0 []).failImage b { cause := 7 }
  | none =>
    match s.checkImage b size with
    | .error e => s.failImage b e
    | .ok xs =>
      match (s.decoderWindows xs).loadSections b xs with
      | (s, some e) => s.failImage b e
      | (s, none) => (s.resumeAssay (xs.any (·.kind == 3))).runImage b s.asy.sealSt s.asy.otp

/-! ### The IMAGE commands (R466, R467) -/

/-- (Log entry 158: DEDUCED, unsafe) -/
def imageBeginBody (p : List Byte) (s : Hub) : Reply × Hub :=
  let n := pl p 0 4
  guarded [(s.mode ≠ mLOADING, stBAD_MODE), (p.length ≠ 4, stBAD_LEN), (n < 192 ∨ n > 0x200000 ∨ n % 4 ≠ 0, stBAD_ARG)] s fun s =>
  okay [] (({ s with pw := { s.pw with img := some (n, 0) } }).setReg RP_IMAGE (2 ^ 24))

def imageDataBody (p : List Byte) (s : Hub) : Reply × Hub :=
  let data := p.drop 4
  guarded [(s.mode ≠ mLOADING, stBAD_MODE), (p.length < 8 ∨ p.length > 1024 ∨ p.length % 4 ≠ 0, stBAD_LEN)] s fun s =>
  match s.pw.img with
  | none => fail stBAD_ARG s
  | some (total, got) =>
    if pl p 0 4 ≠ got ∨ got + data.length > total then fail stBAD_ARG s
    else okay [] ({ s with pw := { s.pw with img := some (total, got + data.length) } }.storeMem 7 (imageBase + got) data)

def imageEndBody (p : List Byte) (s : Hub) : Reply × Hub :=
  guarded [(s.mode ≠ mLOADING, stBAD_MODE), (p.length ≠ 0, stBAD_LEN)] s fun s =>
  match s.pw.img with
  | some (total, got) => if got = total then s.endImage total else fail stBAD_ARG s
  | none => fail stBAD_ARG s

/-- (Log entry 157: DEDUCED, unsafe) -/
def imageStatusBody (p : List Byte) (s : Hub) : Reply × Hub :=
  guarded [(s.mode ≠ mLOADING, stBAD_MODE), (p.length ≠ 0, stBAD_LEN)] s fun s =>
  let (total, got) := s.pw.img.getD (0, 0)
  okay (words [s.reg RP_IMAGE, got, total]) s

def imageAbortBody (p : List Byte) (s : Hub) : Reply × Hub :=
  guarded [(s.mode ≠ mLOADING, stBAD_MODE), (p.length ≠ 0, stBAD_LEN)] s fun s =>
  okay [] (({ s with pw := { s.pw with img := none } }).setReg RP_IMAGE 0)

def execImageBegin (h : Hdr) (p : List Byte) := lift fun s => s.command 0x1301 h p (imageBeginBody p)
def execImageData (h : Hdr) (p : List Byte) := lift fun s => s.command 0x1302 h p (imageDataBody p)
def execImageEnd (h : Hdr) (p : List Byte) := lift fun s => s.command 0x1303 h p (imageEndBody p)
def execImageStatus (h : Hdr) (p : List Byte) := lift fun s => s.command 0x1304 h p (imageStatusBody p)
def execImageAbort (h : Hdr) (p : List Byte) := lift fun s => s.command 0x1305 h p (imageAbortBody p)

end Sys2Proof.Machine
end

