-- ==== Sys2Proof/Machine/RegisterWrite.lean ====
section
/-! DEFINITION. Writes of registers: the access types, the encodings that are reserved, and what each block's chapter makes of a
write (R6-R9; R48, R89, R133, R134, R158, R186, R191, R232, R258, R290, R291, R314, R337, R365, R366, R382, R387, R408, R439, R449, R468). -/

namespace Sys2Proof.Machine

/-- A write of one register: the master, the row with the element written, the word as written and the content that the access types of R6
give the register. -/
structure RegWrite where
  master : Nat
  row : RegRow
  i : Nat
  j : Nat
  addr : Nat
  raw : Nat
  new : Nat
  deriving DecidableEq, Repr

/-- Field [hi:lo] of the new content. -/
def RegWrite.f (x : RegWrite) (hi lo : Nat) : Nat := bits x.new hi lo

/-- The write is to a register of the array that begins at `base`. -/
def RegWrite.isAt (x : RegWrite) (base : Nat) : Bool := x.row.base == base

/-- Bits of a register that a write sets: fields that do not apply to a lane's direction ignore writes (R290). -/
def rwMask (r : RegRow) (i : Nat) : Nat :=
  let rx := decide (8 ≤ i)
  if r.base = LN_TIMING 0 then (if i = 8 ∨ i = 10 then r.rw else r.rw &&& 0x1FFF)
  else if r.base = LN_TXEQ 0 then (if rx then 0 else r.rw)
  else if [LN_RXEQ 0, LN_CNT1 0, LN_CNT2 0, LN_CNT3 0, LN_TEST 0].contains r.base then (if rx then r.rw else 0)
  else r.rw

/-- Make a write unless a check refuses it: the status, and the hub (R9, R441). The checks stand in the order of the matching command's status
table (R416). (Log entry 161: DEDUCED, unsafe) -/
def Hub.tryWrite (s : Hub) (cs : List (Bool × Nat)) (f : Hub → Hub) : Nat × Hub :=
  match checks cs with
  | some st => (st, s)
  | none => (stOK, f s)

/-- A write with no effect but its fields. -/
def Hub.putReg (s : Hub) (x : RegWrite) : Hub := s.setReg x.addr x.new

/-- A write of the fields with the encodings that are reserved. -/
def Hub.putChecked (s : Hub) (x : RegWrite) (cs : List (Bool × Nat)) : Nat × Hub := s.tryWrite cs fun s => s.putReg x

/-! ### Power, Timetable and channels -/

def Hub.writePower (s : Hub) (x : RegWrite) : Nat × Hub :=
  if x.addr = RP_WDOG then (if x.master ≠ 0 then (stOK, s) else s.tryWrite [(x.f 7 0 = 0, stBAD_ARG)] fun s => s.setWdog x.raw)
  else if x.addr = RP_WDOG_KICK then (stOK, s.kick x.master x.raw)
  else (stOK, s.putReg x)

def Hub.writeTimetable (s : Hub) (x : RegWrite) : Nat × Hub :=
  let bank : Bool × Nat := (!s.modeIn ttBankModes, stBAD_MODE)
  let clock : Bool × Nat := (!s.modeIn ttClockModes, stBAD_MODE)
  if x.addr = TT_CTRL then
    let req := bitAt x.raw 8
    s.tryWrite [(req && s.bit TT_STATUS 1, stBUSY), (req && bank.1, stBAD_MODE)] fun s =>
      let s := s.putReg x
      if req then s.swapReq else s
  else if x.addr = TT_TURN_LEN then
    s.tryWrite [(decide (x.f 15 0 < 64), stBAD_ARG), (!s.modeIn ttTurnModes, stBAD_MODE)] fun s => s.setTurnLen (x.f 15 0)
  else if x.addr = TT_LAT then s.putChecked x [(!s.latOk (x.f 5 0), stBAD_ARG), bank]
  else if x.addr = TT_CLOCK then
    s.tryWrite [(x.f 1 0 == 3, stBAD_ARG), clock] fun s => s.setClock (x.f 1 0) (x.f 4 4) (s.fld TT_XO_RATIO 24 0)
  else if x.addr = TT_XO_RATIO then s.putChecked x [(!ratioOk (x.f 24 0), stBAD_ARG), clock]
  else if x.isAt (TT_SLOT 0) ∨ x.isAt (TT_WIN_ACT 0) then s.putChecked x [(breaksR45 x.new, stBAD_ARG), bank]
  else if x.isAt (TT_WIN_RANGE 0) then s.putChecked x [bank]
  else (stOK, s.putReg x)

/-- A write that the partition takes as a request: the Assay engine does not accept it while it is off, loading or faulted (R94). -/
def Hub.notAccepted (s : Hub) : Bool × Nat := (s.assayBusy, stTIMEOUT)

def Hub.writeChannel (s : Hub) (x : RegWrite) : Hub :=
  let n := x.i
  let s := (s.setFld (AFE_CH_CFG n) 26 24 (x.f 26 24)).setFld (AFE_CH_CFG n) 21 16 (x.f 21 16)
  let s := if s.bit (AFE_CH_CFG n) 0 = bitAt x.new 0 then s else s.setEn n (bitAt x.new 0)
  if s.fld (AFE_CH_CFG n) 15 8 = x.f 15 8 then s else s.setTrim n (x.f 15 8)

def Hub.writeAfe (s : Hub) (x : RegWrite) : Nat × Hub :=
  let late : Bool × Nat := (s.modeIn [mLOADING, mRUN, mPULSE], stBAD_MODE)
  let loading : Bool × Nat := (s.mode == mLOADING, stBAD_MODE)
  if x.addr = AFE_CTRL then
    s.putChecked x [(x.f 19 16 == 0 || x.f 15 8 == 0 || x.f 3 0 == 0, stBAD_ARG), late, s.notAccepted]
  else if x.isAt (AFE_CH_CFG 0) then
    s.tryWrite [(!rangeModeOk (x.f 26 24), stBAD_ARG), late, s.notAccepted] fun s => s.writeChannel x
  else if x.addr = CAL_CTRL then
    s.putChecked x [loading, (!calConfigOk (x.f 15 8) (x.f 20 16) 48, stBAD_ARG), s.notAccepted]
  else if x.addr = CAL_ROT then s.putChecked x [loading, (decide (x.f 15 0 < 48), stBAD_ARG), s.notAccepted]
  else if x.isAt (CAL_REF 0) then
    s.tryWrite [loading, (s.asy.sealSt != 1, stSEALED), s.notAccepted] fun s => s.calRefWrite x.i x.raw
  else (stOK, s.putReg x)

/-! ### Filters, engines, the Junction and records -/

def Hub.writeFilter (s : Hub) (x : RegWrite) : Nat × Hub :=
  if x.addr = FLT_CTRL then
    let mask := bits x.raw 15 8
    s.tryWrite [(mask != 0 && !s.modeIn swapModes, stBAD_MODE), (s.bankBusy mask, stBUSY)] fun s => s.swapGroups mask
  else if x.isAt (FLT_GCFG 0) then
    let g := x.i
    s.tryWrite [(x.f 3 2 == 3 || x.f 5 4 == 3, stBAD_ARG), (s.modeIn [mLOADING, mRUN, mPULSE], stBAD_MODE), (s.cfgPending g, stBUSY),
      (s.rateRises (2 ^ g) (x.f 0 0) && !s.admitsRate (2 ^ g) (x.f 0 0), stNOT_ADMITTED)] fun s => s.reqCfg g x.new
  else if 0x40041000 ≤ x.addr ∧ x.addr < 0x40042000 then
    s.putChecked x [(s.mode == mLOADING, stBAD_MODE), (s.swapPending ((x.addr - 0x40041000) / 0x100), stBUSY)]
  else (stOK, s.putReg x)

/-- (Log entry 163: DEDUCED, unsafe) -/
def Hub.writeFe (s : Hub) (x : RegWrite) : Nat × Hub :=
  if x.addr = FE_CTRL then
    let start := bits x.raw 7 0
    let stop := bits x.raw 15 8
    let any := fun (f : Nat → Bool) => (List.range 8).any fun g => bitAt start g && f g
    s.tryWrite [(s.mode == mLOADING || (stop != 0 && s.modeIn [mRUN, mPULSE]), stBAD_MODE), (any fun g => !s.feLoaded g, stNO_RESOURCE),
      (any s.feBusy, stBUSY)] fun s => (s.feCtrlStop stop).feCtrlStart start
  else if x.isAt (FE_CFG 0) then
    s.tryWrite [(s.mode == mLOADING, stBAD_MODE), (x.f 1 0 == 1, stBAD_ARG)] fun s => s.feSelect x.i x.new
  else (stOK, s.putReg x)

def Hub.writeJunction (s : Hub) (x : RegWrite) : Nat × Hub :=
  let late : Bool × Nat := (!s.modeIn jctModes, stBAD_MODE)
  if x.addr = JCT_CTRL then s.tryWrite [late] fun s => (s.putReg x).jctChanged
  else if x.isAt (JCT_TMAP 0) then
    s.tryWrite [((List.range 4).any fun k => !mapOk (x.f (8 * k + 7) (8 * k)), stBAD_ARG), late] fun s => (s.putReg x).jctChanged
  else (stOK, s.putReg x)

/-- REC_GCFG: a write that changes only EN mirrors REC_ARM, every other REC_CONFIG (R232). (Log entry 167: DEDUCED, unsafe) -/
def Hub.writeGcfg (s : Hub) (x : RegWrite) : Nat × Hub :=
  let config := s.reg x.addr % 2 ^ 31 != x.new % 2 ^ 31
  s.tryWrite [(s.mode == mLOADING, stBAD_MODE),
    (x.f 27 26 == 3 || decide (x.f 21 16 > 32) || x.f 12 8 == 0 || decide (x.f 12 8 > 16), stBAD_ARG),
    (config && !recFits x.new s.segSize, stNO_RESOURCE), (config && (s.recg x.i).cap.isSome, stBUSY)] fun s =>
  (s.putReg x).recChanged x.i

def Hub.writeRecord (s : Hub) (x : RegWrite) : Nat × Hub :=
  if x.addr = REC_CTRL then
    s.tryWrite [(!poolOk (x.f 17 16) (x.f 11 0), stBAD_ARG), (s.mode != mIDLE, stBAD_MODE), (!s.recs.segs.isEmpty, stBUSY),
      (s.poolUnfit (x.f 17 16), stNO_RESOURCE)] fun s => s.setPool (x.f 17 16) (x.f 11 0) (x.f 20 20)
  else if x.isAt (REC_GCFG 0) then s.writeGcfg x
  else if x.isAt (REC_HOLDOFF 0) ∨ x.isAt (REC_LED 0) then (stOK, (s.putReg x).recChanged x.i)
  else if x.isAt (REC_PERIOD 0) then s.tryWrite [(x.f 15 0 == 0, stBAD_ARG)] fun s => (s.putReg x).recChanged x.i
  else (stOK, s.putReg x)

/-! ### Stream, lanes, time and the pair -/

def Hub.writeStream (s : Hub) (x : RegWrite) : Nat × Hub :=
  let late : Bool × Nat := (s.modeIn [mRUN, mPULSE], stBAD_MODE)
  let g := x.i
  if x.addr = STR_CTRL then s.putChecked x [(s.mode == mLOADING, stBAD_MODE)]
  else if x.addr = STR_FLUSH then
    let flush := bits x.raw 7 0
    let cold := bits x.raw 15 8
    s.tryWrite [((flush != 0 || cold != 0) && !s.codecRuns, stBAD_MODE), (s.flushBusy flush, stBUSY)] fun s =>
      (s.strFlush flush).strCold cold
  else if x.isAt (STR_GCFG 0) then s.putChecked x [late, (!s.allowAdmitted (2 ^ g) (x.f 15 8), stNOT_ADMITTED)]
  else if x.isAt (STR_NBR 0 0) then
    s.tryWrite [late] fun s =>
      let old := s.nbrSet g
      let s := s.putReg x
      if s.nbrSet g = old then s else s.setCodec g { s.codec g with coldNext := true, nbrNew := true }
  else if x.addr = MSH_CTRL then
    s.tryWrite [(x.f 5 0 == 0, stBAD_ARG), (!s.modeIn [mIDLE, mPREPARE, mHOLD, mTEST], stBAD_MODE),
      (!admitted s.turnLen (x.f 5 0) s.rateSet s.allowSet, stNOT_ADMITTED)] fun s => s.setStreamLanes (x.f 5 0)
  else (stOK, s.putReg x)

/-- LN_CTRL: PATTERN mirrors LINK_TEST, PRECODE_EN LINK_CONFIG, EN LINK_ENABLE and RETRAIN LINK_RETRAIN. -/
def Hub.writeLaneCtrl (s : Hub) (x : RegWrite) : Nat × Hub :=
  let n := x.i
  let en := bitAt x.new 0
  let turns := en != s.bit x.addr 0
  let again := bitAt x.raw 2
  s.tryWrite [(decide (x.f 11 8 > 3), stBAD_ARG), (x.f 11 8 != s.fld x.addr 11 8 && s.mode != mTEST, stBAD_MODE),
    (bitAt x.new 1 != s.bit x.addr 1 && s.modeIn [mRUN, mPULSE], stBAD_MODE), (again && s.retrainBad (2 ^ n), stBAD_MODE),
    (turns && (s.enableStatus (2 ^ n) en).isSome, (s.enableStatus (2 ^ n) en).getD stOK)] fun s =>
  let s := (s.setFld x.addr 11 8 (x.f 11 8)).setBit x.addr 1 (bitAt x.new 1)
  let s := if turns then s.setLaneEn n en else s
  if again then s.retrain n else s

/-- (Log entry 87: DEDUCED, unsafe) -/
def Hub.writeLane (s : Hub) (x : RegWrite) : Nat × Hub :=
  let n := x.i
  if x.isAt (LN_CTRL 0) then s.writeLaneCtrl x
  else if x.isAt (LN_TIMING 0) then
    s.tryWrite [(decide (x.f 12 0 < 64) || decide (x.f 12 0 > 4096), stBAD_ARG), (s.modeIn [mRUN, mPULSE], stBAD_MODE)] fun s =>
      s.setTiming n (x.f 21 16) (x.f 12 0)
  else if x.isAt (LN_TXEQ 0) ∧ n < 8 then
    s.putChecked x [(decide (x.f 3 0 + x.f 13 8 + x.f 20 16 > 63), stBAD_ARG), (!s.modeIn [mIDLE, mTEST], stBAD_MODE)]
  else if x.isAt (LN_RXEQ 0) ∧ bitAt x.new 31 then (stOK, s.setReg x.addr (putBits x.new 19 16 (s.fld x.addr 19 16)))
  else (stOK, s.putReg x)

/-- (Log entry 164: DEDUCED, unsafe) -/
def Hub.writeTime (s : Hub) (x : RegWrite) : Nat × Hub :=
  let late := s.modeIn [mRUN, mPULSE]
  if x.addr = TM_CTRL then
    s.tryWrite [(decide (x.f 12 8 < 10) || decide (x.f 12 8 > 24), stBAD_ARG), (late && !(bitAt x.new 3 && bitAt x.new 4), stBAD_MODE)] fun s =>
      (s.setServoEn (bitAt x.new 3)).putReg x
  else if x.addr = TM_RATE then (stOK, s.writeRate x.new)
  else if x.addr = TM_RATE_LIMIT then s.putChecked x [(x.new == 0 || decide (x.new ≥ 2 ^ 31), stBAD_ARG)]
  else if x.addr = TM_STEP then s.putChecked x [(x.f 31 16 == 0 || x.f 15 0 == 0, stBAD_ARG)]
  else if x.addr = TM_PHASE then
    let auto := s.bit TM_CTRL 4
    let v := if auto then putBits x.new 9 0 (s.fld TM_PHASE 9 0) else x.new
    s.tryWrite [(decide (x.f 15 12 < 4), stBAD_ARG), (late && bits v 9 0 != s.fld TM_PHASE 9 0, stBAD_MODE)] fun s => (s.setReg TM_PHASE v).showErr
  else if x.isAt (TM_DELAY 0) then s.putChecked x [(late, stBAD_MODE)]
  else (stOK, s.putReg x)

def Hub.writePair (s : Hub) (x : RegWrite) : Nat × Hub :=
  if x.addr = PAIR_TIMING then s.putChecked x [(x.f 31 16 == 0 || x.f 7 0 == 0, stBAD_ARG)]
  else if x.addr = PAIR_SHADOW then (stOK, { s.putReg x with pr := { s.pr with latchFirst := true } })
  else (stOK, s.putReg x)

/-! ### Monitoring, LED pulser and loops -/

def Hub.writeMon (s : Hub) (x : RegWrite) : Nat × Hub :=
  if x.isAt (MON_PIN 0) then
    s.tryWrite [(x.f 14 8 == 0 || decide (x.f 14 8 > 100), stBAD_ARG)] fun s => s.setPin x.i (x.f 1 0) (x.f 14 8)
  else if x.isAt (MON_EXC 0) then
    s.tryWrite [(x.f 23 16 == 0 || decide (x.f 11 0 > 4000), stBAD_ARG)] fun s => s.setExc x.i x.new
  else if x.isAt (MON_SEQ_CTRL 0) then
    s.tryWrite [(x.f 31 16 == 0 || x.f 8 4 == 0 || decide (x.f 8 4 > 16), stBAD_ARG)] fun s => s.setSeqCtrl x.i x.new
  else if x.isAt (MON_ENTRY_A 0 0) then
    let b := s.reg (MON_ENTRY_B x.i x.j)
    s.tryWrite [(!entryOk x.new b, stBAD_ARG)] fun s => s.setEntry x.i x.j x.new b
  else if x.isAt (MON_ENTRY_B 0 0) then
    let a := s.reg (MON_ENTRY_A x.i x.j)
    s.tryWrite [(!entryOk a x.new, stBAD_ARG)] fun s => s.setEntry x.i x.j a x.new
  else if x.addr = AONC_STATUS then
    (stOK, (s.setReg x.addr (putBits x.new 3 0 (s.fld AONC_STATUS 3 0))).clearTripped (bits x.raw 3 0))
  else if x.isAt (AONC_CFG 0) then s.tryWrite [(!aoncOk x.new, stBAD_ARG)] fun s => s.setAonc x.i x.new
  else (stOK, s.putReg x)

def Hub.writeLed (s : Hub) (x : RegWrite) : Nat × Hub :=
  if x.addr = LED_CTRL then s.putChecked x [(decide (x.f 15 8 < 8), stBAD_ARG)]
  else if x.addr = LED_VLED then
    s.putChecked x [(decide (x.f 7 0 < 50) || decide (x.f 23 16 < 50) || decide (x.f 7 0 > x.f 23 16), stBAD_ARG)]
  else if x.addr = LED_PROVE then s.putChecked x [(x.f 15 8 == 0, stBAD_ARG)]
  else if x.isAt (LED_PAT_A 0) then s.tryWrite [(decide (x.f 17 8 > 1020), stBAD_ARG)] fun s => (s.putReg x).patWritten x.i
  else if x.isAt (LED_PAT_D 0) then s.tryWrite [(x.f 15 0 == 0, stBAD_ARG)] fun s => (s.putReg x).patWritten x.i
  else if x.isAt (LED_PAT_B 0) ∨ x.isAt (LED_PAT_C 0) then (stOK, (s.putReg x).patWritten x.i)
  else (stOK, s.putReg x)

/-- LOOP_FW takes writes of firmware only (R366). -/
def Hub.writeLoop (s : Hub) (x : RegWrite) : Nat × Hub :=
  if x.isAt (LOOP_CTRL 0) then s.putChecked x [(x.f 15 8 == 0 || x.f 1 0 == 3, stBAD_ARG)]
  else if x.isAt (LOOP_SCALE 0) then s.putChecked x [(x.f 15 0 == 0, stBAD_ARG)]
  else if x.isAt (LOOP_SET 0) then
    s.putChecked x [(decide (x.f 15 0 < 7200) || decide (x.f 15 0 > 42000), stBAD_ARG), (s.fld (LOOP_CTRL x.i) 1 0 != 0, stDENIED)]
  else if x.isAt (LOOP_FW 0) then
    (stOK, if x.master ≠ 0 then s else (s.putReg x).setLoopst x.i { s.loopst x.i with fwAt := some s.xo })
  else (stOK, s.putReg x)

/-! ### Memory, firewall, mailbox and sidings -/

/-- Windows of master 0 change for no master, those of the others only by firmware (or MEM_SET_WINDOW), in IDLE and TEST (R404, R406).
(Log entry 140: DEDUCED, unsafe) -/
def Hub.writeWindow (s : Hub) (x : RegWrite) (k w : Nat) : Nat × Hub :=
  s.putChecked x [((x.isAt (FW_WIN_LIMIT 0 0) && decide (x.new < s.reg (FW_WIN_BASE k w))) ||
      (x.isAt (FW_WIN_BASE 0 0) && decide (s.reg (FW_WIN_LIMIT k w) < x.new)), stBAD_ARG),
    (x.master != 0 || (k == 0 && s.bit FW_STATUS 8), stDENIED), (k != 0 && !s.modeIn [mIDLE, mTEST], stBAD_MODE)]

def Hub.writeMemory (s : Hub) (x : RegWrite) : Nat × Hub :=
  if x.addr = ECC_CTRL then s.putChecked x [(x.f 7 0 == 0, stBAD_ARG)]
  else if x.addr = ECC_FLIP then s.writeFlip x.raw
  else if x.addr = FW_RELEASE then
    s.tryWrite [(bits x.raw 5 0 == 0 || bitAt x.raw 0, stBAD_ARG)] fun s => (s.releaseMasters (bits x.raw 5 0)).2
  else if x.isAt (FW_WIN_BASE 0 0) ∨ x.isAt (FW_WIN_LIMIT 0 0) ∨ x.isAt (FW_WIN_ATTR 0 0) then s.writeWindow x x.i x.j
  else (stOK, s.putReg x)

def Hub.writeMailbox (s : Hub) (x : RegWrite) : Nat × Hub :=
  if x.addr = MBX_CTRL then s.putChecked x [(x.f 15 8 == 0, stBAD_ARG)] else (stOK, s.putReg x)

def Hub.writeSiding (s : Hub) (x : RegWrite) : Nat × Hub :=
  if x.isAt (SD_HEAD 0) then (stOK, s.sidingWrite x.master x.i false x.raw)
  else if x.isAt (SD_TAIL 0) then (stOK, s.sidingWrite x.master x.i true x.raw)
  else (stOK, s.putReg x)

/-! ### One register write -/

/-- The blocks' writes. -/
def Hub.writeBlock (s : Hub) (x : RegWrite) : Nat × Hub :=
  match x.addr / 0x10000 with
  | 0x4001 => s.writePower x
  | 0x4002 => s.writeTimetable x
  | 0x4003 => s.writeAfe x
  | 0x4004 => s.writeFilter x
  | 0x4005 => s.writeFe x
  | 0x4006 => s.writeJunction x
  | 0x4007 => s.writeRecord x
  | 0x4008 => s.writeStream x
  | 0x4009 => s.writeLane x
  | 0x400A => s.writeTime x
  | 0x400B => s.writePair x
  | 0x400C => s.writeMon x
  | 0x400D => s.writeLed x
  | 0x400E => s.writeLoop x
  | 0x400F => s.writeMemory x
  | 0x4010 => s.writeMailbox x
  | 0x6000 => s.writeSiding x
  | _ => (stOK, s.putReg x)

/-- A 32-bit write of a register by a master: the status that REG_WRITE would return, and the hub. A refused write changes nothing;
reserved offsets ignore writes (R8, R27). -/
def Hub.writeReg (s : Hub) (master a w : Nat) : Nat × Hub :=
  match findReg a with
  | none => (stOK, s)
  | some (r, i, j) =>
    s.writeBlock { master := master, row := r, i := i, j := j, addr := a, raw := w % 2 ^ 32
                   new := written (s.reg a) (w % 2 ^ 32) (rwMask r i) r.w1c }

end Sys2Proof.Machine
end

