-- ==== Sys2Proof/Machine/RegisterAccess.lean ====
section
/-! DEFINITION. Reads of registers, accesses of the interconnect's masters, and REG_READ and REG_WRITE (R6, R24, R27, R297, R400-R402,
R441, R442). -/

namespace Sys2Proof.Machine

/-! ### Reading a register -/

/-- Words of the SYS, Timetable and channel blocks that the hub shows live. -/
def Hub.liveFront (s : Hub) (r : RegRow) (i : Nat) : Option Nat :=
  if r.base = TT_CROSSING then some s.tt.crossing
  else if r.base = AFE_STATUS then some s.afeStatus
  else if r.base = AFE_CH_STAT 0 then some (s.chStat i)
  else if r.base = CAL_STATUS then some s.calStatus
  else if r.base = CAL_TEMP 0 then some (s.calTemp i)
  else if r.base = CAL_REF 0 then some (imgGet s.asy.img (0x100 + 4 * i) 4)
  else if r.base = FE_STATUS then some s.feStatus
  else if r.base = JCT_STATUS then some s.jctStatus
  else if r.base = REC_STATUS then some s.recStatus
  else none

/-- Words of the stream, time, mailbox and siding blocks that the hub shows live; TM_NOW_HI and TM_NOW_FRAC are the reading master's
latches (R297). -/
def Hub.liveBack (s : Hub) (master : Nat) (r : RegRow) (i : Nat) : Option Nat :=
  if r.base = STR_STATUS then some s.strStatus
  else if r.base = MSH_STATUS then some s.mshStatus
  else if r.base = MSH_ADMIT then some s.mshAdmit
  else if r.base = MSH_BUF then some s.mshBuf
  else if r.base = TM_NOW_LO then some s.nowLo
  else if r.base = TM_NOW_HI then some (s.latchOf master).1
  else if r.base = TM_NOW_FRAC then some (s.latchOf master).2
  else if r.base = MBX_STATUS then some s.mbxStatus
  else if r.base = MBX_SRC 0 then some (s.mbxSrc i)
  else if r.base = SD_LEVEL 0 then some (s.sdLevel i)
  else none

/-- What a register reads as: a reserved offset, and every WO field, as 0 (R6, R8, R27). -/
def Hub.regValue (s : Hub) (master a : Nat) : Nat :=
  match findReg a with
  | none => 0
  | some (r, i, _) => ((s.liveFront r i).or (s.liveBack master r i)).getD (s.reg a)

/-- What a read of a register does beside giving its value: the latches of a register's other half. -/
def Hub.readEffect (s : Hub) (master a : Nat) : Hub :=
  if a = TT_CROSSING then s.readCrossing
  else if a = FLT_SWAP_CROSSING then s.latchTurn FLT_SWAP_TURN
  else if a = JCT_FAULT_CROSSING then s.latchTurn JCT_FAULT_TURN
  else if a = SYS_MODE_CROSSING then s.readModeCrossing
  else if a = PAIR_FIRST_MISMATCH then s.readFirstMismatch
  else if a = TM_NOW_LO then s.readNow master
  else match (List.range 8).find? fun g => a == FE_FAULT_CROSSING g || a == REC_LAST_CROSSING g with
    | some g => s.latchTurn (if a = FE_FAULT_CROSSING g then FE_FAULT_TURN g else REC_LAST_TURN g)
    | none => s

/-! ### The address map (R24) -/

/-- Register space: the peripheral blocks and the siding descriptors. -/
def isReg (a : Nat) : Bool := (decide (0x40000000 ≤ a) && decide (a < 0x40110000)) || (decide (0x60000000 ≤ a) && decide (a < 0x60001000))

/-- The Assay window. -/
def isAssay (a : Nat) : Bool := decide (0x50000000 ≤ a) && decide (a < 0x50100000)

/-- Memory that a master reads as bytes: the boot ROM and the on-chip SRAM. -/
def isMem (a : Nat) : Bool := decide (a < 0x10000) || (memoryAt a).isSome

/-- A master's write is performed at this address of memory: not in the boot ROM or the stream elastic buffer, and in a program memory as
R16 allows. -/
def Hub.writable (s : Hub) (k a : Nat) : Bool :=
  match memoryAt a with
  | none => false
  | some (m, _) => m != 2 && (decide (m ≤ 1) || s.progWritable k a)

/-! ### One access of a master -/

/-- The read of every code word that an access touches, as the check of R390 sees it. -/
def Hub.readMem (s : Hub) (k a n : Nat) (fetch : Bool) : Hub :=
  let ws := ((touched a n).map fun w => match memoryAt w with | some (m, width) => (m, w / width * width) | none => (15, w)).eraseDups
  s.each (ws.filter (·.1 ≠ 15)) fun s x => s.memoryRead x.1 x.2 k fetch 0

/-- The bytes of a write to memory: a word whose read found an uncorrectable error is cancelled and reported (R394). -/
def Hub.writeBytes (s : Hub) (k a : Nat) (bs : List Byte) : Hub :=
  let (s, found) := Hub.writeMemFuel (bs.length + 1) s a bs
  (s.countFound k [] found).each (found.filter fun x => x.2 = .uncorrectable) fun s x => match memoryAt x.1 with
    | some (m, _) => s.requesterHit k 3 m
    | none => s

/-- An access that the firewall has passed: performed, or a bus error with no effect, as where the master has no path (R14). Registers take
aligned 32-bit accesses; a write to the Assay window is discarded and logged (R19, R24, R27, R402). (Log entry 138: DEDUCED, safe) -/
def Hub.perform (s : Hub) (k acc a : Nat) (bs : List Byte) : Hub :=
  let n := bs.length
  let wr := acc = 1 ∨ acc = 3
  if wr ∧ (touched a n).all isAssay then s.assayWrite k acc a
  else if ¬ (touched a n).all (hasPath k acc) then s
  else if (touched a n).all isReg then
    if n ≠ 4 ∨ a % 4 ≠ 0 ∨ acc = 2 then s
    else
      let s := if acc = 1 then s else s.readEffect k a
      if wr then (s.writeReg k a (leNat bs)).2 else s
  else if (touched a n).all isMem then
    if wr then (if (touched a n).all (s.writable k) then s.writeBytes k a bs else s)
    else s.readMem k a n (acc == 2)
  else s

/-- A write here is never a violation (R402): the Assay window, and the RWL registers while the seal is not OPEN (R7). -/
def Hub.noViolation (s : Hub) (a : Nat) : Bool :=
  isAssay a || (s.asy.sealSt != 1 && decide (CAL_REF 0 ≤ a) && decide (a < CAL_REF 256))

/-- INTERCONNECT_ACCESS: the firewall first, then the memory map (R24, R400, R401). `bs` are the bytes of a write; of a read or fetch
they give the length. Some writes never violate (R402). (Log entry 137: DEDUCED, unsafe) -/
def Hub.access (s : Hub) (k acc a : Nat) (bs : List Byte) : Hub :=
  let ws := touched a bs.length
  if ¬ s.canAccess k ∨ bs = [] then s
  else if (acc = 1 ∨ acc = 3) ∧ ws.all s.noViolation then s.perform k acc a bs
  else match ws.find? fun w => !s.allowed k w acc with
    | some w => s.violate k (max w a) acc
    | none => s.perform k acc a bs

def execInterconnectAccess (master : Fin 6) (acc : Fin 4) (addr : BitVec 32) (bytes : List Byte) :=
  lift fun s => s.access master.val acc.val addr.toNat bytes

/-- REGISTER_WRITE: a 32-bit write of a register that the firewall has passed. (Log entry 162: DEDUCED, safe) -/
def execRegisterWrite (master : Fin 6) (addr w : BitVec 32) := lift fun s =>
  if s.canAccess master.val ∧ hasPath master.val 1 addr.toNat ∧ isReg addr.toNat ∧ addr.toNat % 4 = 0 then (s.writeReg master.val addr.toNat w.toNat).2 else s

/-! ### REG_READ and REG_WRITE (R441, R442) -/

/-- The host bridge reads one word: the value, or the status that ends the command. -/
def Hub.hostRead (s : Hub) (a : Nat) : Except Nat Nat × Hub :=
  if ¬ s.allowed 3 a 0 then (.error stFROZEN, s.violate 3 a 0)
  else if isReg a then (.ok (s.regValue 3 a), s.readEffect 3 a)
  else if isAssay a then (.ok (s.asyWord (a - 0x50000000)), s)
  else if isMem a then
    let bad : Bool := match memoryAt a with | some (_, width) => eccCheck (s.eccAt (a / width * width)) = .uncorrectable | none => false
    (if bad then .error stINTEGRITY else .ok (s.memWord a), s.readMem 3 a 4 false)
  else (.error stBAD_ARG, s)

/-- Read words upward, up to the first that ends the command. -/
def Hub.hostReads : Nat → Hub → Nat → Except Nat (List Nat) × Hub
  | 0, s, _ => (.ok [], s)
  | n + 1, s, a =>
    match s.hostRead a with
    | (.error e, s) => (.error e, s)
    | (.ok w, s) => match Hub.hostReads n s (a + 4) with
      | (.error e, s) => (.error e, s)
      | (.ok ws, s) => (.ok (w :: ws), s)

/-- The host bridge writes one word: OK, or the status that ends the command. -/
def Hub.hostWrite (s : Hub) (a w : Nat) : Nat × Hub :=
  if isAssay a then (stOK, s.assayWrite 3 1 a)
  else if ¬ (s.noViolation a ∨ s.allowed 3 a 1) then (stFROZEN, s.violate 3 a 1)
  else if isReg a then s.writeReg 3 a w
  else if s.writable 3 a then
    let bad : Bool := match memoryAt a with
      | some (_, width) => width ≠ 4 && eccCheck (s.eccAt (a / width * width)) = .uncorrectable
      | none => false
    (if bad then stINTEGRITY else stOK, s.writeBytes 3 a (leBytes 4 w))
  else (stBAD_ARG, s)

/-- Write words upward, up to the first that ends the command: its status, the words before it, and the hub. -/
def Hub.hostWrites : Hub → Nat → List Nat → Nat → Nat × (Nat × Hub)
  | s, _, [], k => (stOK, (k, s))
  | s, a, w :: ws, k => match s.hostWrite a w with
    | (0, s) => Hub.hostWrites s (a + 4) ws (k + 1)
    | (st, s) => (st, (k, s))

/-- ADDR and COUNT that R442 refuses. -/
def rangeBad (a n top : Nat) : Bool := a % 4 != 0 || n == 0 || decide (n > top) || decide (a + 4 * n > 2 ^ 32)

def regReadBody (p : List Byte) (s : Hub) : Reply × Hub :=
  let a := pl p 0 4
  let n := pl p 4 2
  guarded [(p.length ≠ 8, stBAD_LEN), (rangeBad a n 256 || !plZero p 6 2, stBAD_ARG)] s fun s =>
  match Hub.hostReads n s a with
  | (.ok ws, s) => okay (words ws) s.drainLog
  | (.error st, s) => fail st s.drainLog

/-- No data and no further word follows a freeze; every other refusal carries WRITTEN. (Log entry 166: DEDUCED, unsafe) -/
def regWriteBody (p : List Byte) (s : Hub) : Reply × Hub :=
  let a := pl p 0 4
  let n := pl p 4 2
  let ws := (List.range n).map fun i => pl p (8 + 4 * i) 4
  guarded [(p.length ≠ 8 + 4 * n, stBAD_LEN), (rangeBad a n 254 || !plZero p 6 2, stBAD_ARG)] s fun s =>
  let (st, k, s) := Hub.hostWrites s a ws 0
  (.now st (if st = stFROZEN then [] else leBytes 2 k ++ [0, 0]), s.drainLog)

def execRegRead (h : Hdr) (p : List Byte) := lift fun s => s.command 0x0106 h p (regReadBody p)
def execRegWrite (h : Hdr) (p : List Byte) := lift fun s => s.command 0x0107 h p (regWriteBody p)

end Sys2Proof.Machine
end

