-- ==== Sys2Proof/Machine/Tick.lean ====
section
/-! DEFINITION. The frame tick: the order in which the blocks advance one frame (02_frame_and_timetable.md, R36; R35, R49, R432). -/

namespace Sys2Proof.Machine

/-- The Timetable at a tick that begins the crossing of `coming`: the counters, the frame's actions and their record are those of the mode
in which the crossing is formed (R432); SYS_MODE itself changes as the change is applied. (Log entry 19: DEDUCED, safe) -/
def Hub.crossingTick (s : Hub) (coming : Nat) (i : TickIn) : Hub :=
  let old := s.mode
  (((s.startCounters coming).setFld SYS_MODE 2 0 coming).ttTick i).setFld SYS_MODE 2 0 old

/-- The meanings of the commands that a joined leader carries out on both hubs (R320). -/
def bothBody (op : Nat) : List Byte → Hub → Reply × Hub :=
  if op = 0x0201 then modeSetBody else if op = 0x0303 then ttSwapBody else if op = 0x0305 then ttSetTurnBody else ttSetLatencyBody

/-- The leader's own part of a command that both hubs carry out starts in its frame (R320). -/
def Hub.bothTick (s : Hub) : Hub :=
  s.each (s.mbx.both.filter fun b => b.due.any (· ≤ s.frame)) fun s b =>
    let s := { s with mbx := { s.mbx with both := s.mbx.both.map fun (x : Both) => if x = b then { x with due := none } else x } }
    match bothBody b.op b.payload s with
    | (.now st pl, s) => s.respond b.hdr b.op st pl
    | (.later arg, s) => s.defer b.hdr b.op arg b.payload

/-- Every block advances one frame. -/
def Hub.blocksTick (s : Hub) (i : TickIn) : Hub :=
  let s := ((s.asyTick i.sealEn).afeTick).calTick
  let s := (s.fltTick.feTick.recTick i.trigIn).jctTick
  let s := s.strTick.commitTick.laneTick.pairTick.linkTick.timeTick
  ((s.mbxTick i.xo).memTick).ledTick.loopTick.bothTick

/-- Time passes and nothing else: PD1 is held in reset. -/
def Hub.idleTick (s : Hub) (i : TickIn) : Hub :=
  { s with frame := s.frame + 1, xo := s.xo + i.xo, act := s.regs }.timeAdvance i.xo i.sub

/-- FRAME_TICK. In DORMANT there is no frame clock. (Log entry 149: DEDUCED, safe) -/
def Hub.frameTick (s : Hub) (i : TickIn) : Hub :=
  if s.mode = mDORMANT then s
  else if ¬ s.bit RP_PD_STATUS 1 then s.idleTick i
  else
    let s := (s.gapTick.leaveNow.prepTick i.partner.toNat).calCollect
    (s.crossingTick s.comingMode i).blocksTick i

def execFrameTick (i : TickIn) := lift fun s => s.frameTick i

end Sys2Proof.Machine
end

