-- ==== Sys2Proof/Machine/Dispatch.lean ====
section
/-! DEFINITION. The meaning of every command and event: one arm per constructor of Instr, each a direct call. -/

namespace Sys2Proof.Machine

def exec (i : Instr) (s : State) : Host.Outcome State Fault Refusal :=
  match i with
  | .frameTick x => Sys2Proof.Machine.execFrameTick x s
  | .sampleConversion k xs => Sys2Proof.Machine.execSampleConversion k xs s
  | .rangeStepDown ch => Sys2Proof.Machine.execRangeStepDown ch s
  | .resetSwitchOpen ch => Sys2Proof.Machine.execResetSwitchOpen ch s
  | .chanRecoveryEnd ch => Sys2Proof.Machine.execChanRecoveryEnd ch s
  | .trimRampStep ch => Sys2Proof.Machine.execTrimRampStep ch s
  | .handoverAttempt q => Sys2Proof.Machine.execHandoverAttempt q s
  | .handoverTakeover q => Sys2Proof.Machine.execHandoverTakeover q s
  | .handoverWithdraw q => Sys2Proof.Machine.execHandoverWithdraw q s
  | .adcCalComplete q r => Sys2Proof.Machine.execAdcCalComplete q r s
  | .tnowUpdate t0 t1 t2 t3 => Sys2Proof.Machine.execTnowUpdate t0 t1 t2 t3 s
  | .calRunStart => Sys2Proof.Machine.execCalRunStart s
  | .calRunEnd q => Sys2Proof.Machine.execCalRunEnd q s
  | .calRunTimeout q => Sys2Proof.Machine.execCalRunTimeout q s
  | .feNop g gd => Sys2Proof.Machine.execFeNop g gd s
  | .feMov g gd d a => Sys2Proof.Machine.execFeMov g gd d a s
  | .feMovi g gd d imm => Sys2Proof.Machine.execFeMovi g gd d imm s
  | .feLdk g gd d k => Sys2Proof.Machine.execFeLdk g gd d k s
  | .feLdl g gd d j => Sys2Proof.Machine.execFeLdl g gd d j s
  | .feLdw g gd d a => Sys2Proof.Machine.execFeLdw g gd d a s
  | .feLdwi g gd d x => Sys2Proof.Machine.execFeLdwi g gd d x s
  | .feAdd g gd d a b => Sys2Proof.Machine.execFeAdd g gd d a b s
  | .feSub g gd d a b => Sys2Proof.Machine.execFeSub g gd d a b s
  | .feAddi g gd d a imm => Sys2Proof.Machine.execFeAddi g gd d a imm s
  | .feMul g gd d a b => Sys2Proof.Machine.execFeMul g gd d a b s
  | .feMulsh g gd d a b sh => Sys2Proof.Machine.execFeMulsh g gd d a b sh s
  | .feMax g gd d a b => Sys2Proof.Machine.execFeMax g gd d a b s
  | .feMin g gd d a b => Sys2Proof.Machine.execFeMin g gd d a b s
  | .feAbs g gd d a => Sys2Proof.Machine.execFeAbs g gd d a s
  | .feShl g gd d a sh => Sys2Proof.Machine.execFeShl g gd d a sh s
  | .feShr g gd d a sh => Sys2Proof.Machine.execFeShr g gd d a sh s
  | .feAnd g gd d a b => Sys2Proof.Machine.execFeAnd g gd d a b s
  | .feOr g gd d a b => Sys2Proof.Machine.execFeOr g gd d a b s
  | .feXor g gd d a b => Sys2Proof.Machine.execFeXor g gd d a b s
  | .feWsum g gd d first cnt => Sys2Proof.Machine.execFeWsum g gd d first cnt s
  | .feWpeak g gd d first cnt => Sys2Proof.Machine.execFeWpeak g gd d first cnt s
  | .feWmin g gd d first cnt => Sys2Proof.Machine.execFeWmin g gd d first cnt s
  | .feInterp g gd d a first edge cnt => Sys2Proof.Machine.execFeInterp g gd d a first edge cnt s
  | .feCmpgt g gd pd a b => Sys2Proof.Machine.execFeCmpgt g gd pd a b s
  | .feCmpge g gd pd a b => Sys2Proof.Machine.execFeCmpge g gd pd a b s
  | .feCmpeq g gd pd a b => Sys2Proof.Machine.execFeCmpeq g gd pd a b s
  | .fePtst g gd pd a mask => Sys2Proof.Machine.execFePtst g gd pd a mask s
  | .fePlog g gd pd pa pb fn => Sys2Proof.Machine.execFePlog g gd pd pa pb fn s
  | .feFeat g gd slot a => Sys2Proof.Machine.execFeFeat g gd slot a s
  | .feTower g gd a uq => Sys2Proof.Machine.execFeTower g gd a uq s
  | .feTrig g gd tvalid tslot => Sys2Proof.Machine.execFeTrig g gd tvalid tslot s
  | .feSkipz g gd pc n => Sys2Proof.Machine.execFeSkipz g gd pc n s
  | .feEnd g gd => Sys2Proof.Machine.execFeEnd g gd s
  | .feOverrun g => Sys2Proof.Machine.execFeOverrun g s
  | .junctionImageApply => Sys2Proof.Machine.execJunctionImageApply s
  | .boundaryBlockMissing => Sys2Proof.Machine.execBoundaryBlockMissing s
  | .recTriggerEvaluate g => Sys2Proof.Machine.execRecTriggerEvaluate g s
  | .recCaptureClose g => Sys2Proof.Machine.execRecCaptureClose g s
  | .recRearm g => Sys2Proof.Machine.execRecRearm g s
  | .recHoldoffEnd g => Sys2Proof.Machine.execRecHoldoffEnd g s
  | .recHeldMarkerWrite g => Sys2Proof.Machine.execRecHeldMarkerWrite g s
  | .dispatcherSendItem lane => Sys2Proof.Machine.execDispatcherSendItem lane s
  | .ingotClose g => Sys2Proof.Machine.execIngotClose g s
  | .ingotCommit g => Sys2Proof.Machine.execIngotCommit g s
  | .ingotSelfcheck g damage => Sys2Proof.Machine.execIngotSelfcheck g damage s
  | .selfcheckAbandon g => Sys2Proof.Machine.execSelfcheckAbandon g s
  | .ingotRetentionExpire => Sys2Proof.Machine.execIngotRetentionExpire s
  | .carriageReceive lane levels after margin => Sys2Proof.Machine.execCarriageReceive lane levels after margin s
  | .turnMarkerReceive lane turn => Sys2Proof.Machine.execTurnMarkerReceive lane turn s
  | .commandReceive port m => Sys2Proof.Machine.execCommandReceive port m s
  | .heldCommandTimeout src seq => Sys2Proof.Machine.execHeldCommandTimeout src seq s
  | .deferredCommandTimeout src seq => Sys2Proof.Machine.execDeferredCommandTimeout src seq s
  | .laneStateReceive rx lane state flags control status => Sys2Proof.Machine.execLaneStateReceive rx lane state flags control status s
  | .trainingFrameReceive lane control status => Sys2Proof.Machine.execTrainingFrameReceive lane control status s
  | .txeqStep lane => Sys2Proof.Machine.execTxeqStep lane s
  | .capsReceive lane role laneNo hubId flags deviceId => Sys2Proof.Machine.execCapsReceive lane role laneNo hubId flags deviceId s
  | .laneDetectPass lane => Sys2Proof.Machine.execLaneDetectPass lane s
  | .rxAdaptDone lane ctle dfe eye => Sys2Proof.Machine.execRxAdaptDone lane ctle dfe eye s
  | .cdrLock x => Sys2Proof.Machine.execCdrLock x s
  | .laneStateTimeout lane => Sys2Proof.Machine.execLaneStateTimeout lane s
  | .laneSignalLoss lane => Sys2Proof.Machine.execLaneSignalLoss lane s
  | .laneBackoffEnd lane => Sys2Proof.Machine.execLaneBackoffEnd lane s
  | .laneBlindLimit lane => Sys2Proof.Machine.execLaneBlindLimit lane s
  | .clockSourceSwitch => Sys2Proof.Machine.execClockSourceSwitch s
  | .clockFailureReset pllLost => Sys2Proof.Machine.execClockFailureReset pllLost s
  | .syncReceive lane domain version seq after => Sys2Proof.Machine.execSyncReceive lane domain version seq after s
  | .followUpReceive lane domain version seq lo hi frac correction => Sys2Proof.Machine.execFollowUpReceive lane domain version seq lo hi frac correction s
  | .delayRespReceive lane domain version seq lo hi frac correction => Sys2Proof.Machine.execDelayRespReceive lane domain version seq lo hi frac correction s
  | .delayReqSend => Sys2Proof.Machine.execDelayReqSend s
  | .delayStale => Sys2Proof.Machine.execDelayStale s
  | .timeStepApply => Sys2Proof.Machine.execTimeStepApply s
  | .syncTimeout => Sys2Proof.Machine.execSyncTimeout s
  | .timeNsWrap => Sys2Proof.Machine.execTimeNsWrap s
  | .evTimeEpoch => Sys2Proof.Machine.execEvTimeEpoch s
  | .phaseTargetUpdate => Sys2Proof.Machine.execPhaseTargetUpdate s
  | .phaseSlewStep => Sys2Proof.Machine.execPhaseSlewStep s
  | .pairCarriageReceive payload after margin => Sys2Proof.Machine.execPairCarriageReceive payload after margin s
  | .shadowHashTimeout => Sys2Proof.Machine.execShadowHashTimeout s
  | .switchoverGapEnd => Sys2Proof.Machine.execSwitchoverGapEnd s
  | .pairHeartbeat => Sys2Proof.Machine.execPairHeartbeat s
  | .revertHoldoffExpire => Sys2Proof.Machine.execRevertHoldoffExpire s
  | .roleRevert => Sys2Proof.Machine.execRoleRevert s
  | .pairModeMismatch partner => Sys2Proof.Machine.execPairModeMismatch partner s
  | .sealEnFall => Sys2Proof.Machine.execSealEnFall s
  | .nonceExpire => Sys2Proof.Machine.execNonceExpire s
  | .assayRequestTimeout => Sys2Proof.Machine.execAssayRequestTimeout s
  | .storePendingStart => Sys2Proof.Machine.execStorePendingStart s
  | .assayStoreComplete good => Sys2Proof.Machine.execAssayStoreComplete good s
  | .hkSeqPassStart q => Sys2Proof.Machine.execHkSeqPassStart q s
  | .hkEntryStart => Sys2Proof.Machine.execHkEntryStart s
  | .hkConversion value clip => Sys2Proof.Machine.execHkConversion value clip s
  | .hkEntryEnd => Sys2Proof.Machine.execHkEntryEnd s
  | .crosspointSettleEnd => Sys2Proof.Machine.execCrosspointSettleEnd s
  | .excSettleEnd x => Sys2Proof.Machine.execExcSettleEnd x s
  | .excFaultOnset x sense => Sys2Proof.Machine.execExcFaultOnset x sense s
  | .monPinLimit n => Sys2Proof.Machine.execMonPinLimit n s
  | .aoncTrip k => Sys2Proof.Machine.execAoncTrip k s
  | .aoncRelease k => Sys2Proof.Machine.execAoncRelease k s
  | .loopUpdate n => Sys2Proof.Machine.execLoopUpdate n s
  | .loopReadback n current => Sys2Proof.Machine.execLoopReadback n current s
  | .loopFwWrite n => Sys2Proof.Machine.execLoopFwWrite n s
  | .ledBurstEnd q xs => Sys2Proof.Machine.execLedBurstEnd q xs s
  | .vledReadySet => Sys2Proof.Machine.execVledReadySet s
  | .vledOutOfRange => Sys2Proof.Machine.execVledOutOfRange s
  | .memoryRead memory addr requester fetch errors => Sys2Proof.Machine.execMemoryRead memory addr requester fetch errors s
  | .eccBucketLeak => Sys2Proof.Machine.execEccBucketLeak s
  | .tmrRepair x => Sys2Proof.Machine.execTmrRepair x s
  | .interconnectAccess master acc addr bytes => Sys2Proof.Machine.execInterconnectAccess master acc addr bytes s
  | .assayWindowWrite master addr => Sys2Proof.Machine.execAssayWindowWrite master addr s
  | .evLogLost s41 => Sys2Proof.Machine.execEvLogLost s41 s
  | .memScrubComplete => Sys2Proof.Machine.execMemScrubComplete s
  | .supplyWarnLatch x => Sys2Proof.Machine.execSupplyWarnLatch x s
  | .supplyWarnClear => Sys2Proof.Machine.execSupplyWarnClear s
  | .powerOnReset => Sys2Proof.Machine.execPowerOnReset s
  | .brownOutReset => Sys2Proof.Machine.execBrownOutReset s
  | .resetNAssert => Sys2Proof.Machine.execResetNAssert s
  | .watchdogTimeout => Sys2Proof.Machine.execWatchdogTimeout s
  | .debugResetRequest => Sys2Proof.Machine.execDebugResetRequest s
  | .lockupReset => Sys2Proof.Machine.execLockupReset s
  | .domainResetRelease d straps => Sys2Proof.Machine.execDomainResetRelease d straps s
  | .optionLoadComplete => Sys2Proof.Machine.execOptionLoadComplete s
  | .quadrantPowerOn q => Sys2Proof.Machine.execQuadrantPowerOn q s
  | .modeChangeApply => Sys2Proof.Machine.execModeChangeApply s
  | .prepareTargetEntry => Sys2Proof.Machine.execPrepareTargetEntry s
  | .prepLimitTimeout => Sys2Proof.Machine.execPrepLimitTimeout s
  | .dormantWake cause elapsed => Sys2Proof.Machine.execDormantWake cause elapsed s
  | .ttBankSwapApply => Sys2Proof.Machine.execTtBankSwapApply s
  | .filterSwapApply => Sys2Proof.Machine.execFilterSwapApply s
  | .filterConfigApply => Sys2Proof.Machine.execFilterConfigApply s
  | .ttWrite h p => Sys2Proof.Machine.execTtWrite h p s
  | .ttWinWrite h p => Sys2Proof.Machine.execTtWinWrite h p s
  | .ttSwap h p => Sys2Proof.Machine.execTtSwap h p s
  | .ttRead h p => Sys2Proof.Machine.execTtRead h p s
  | .ttSetTurn h p => Sys2Proof.Machine.execTtSetTurn h p s
  | .ttSetLatency h p => Sys2Proof.Machine.execTtSetLatency h p s
  | .ttSetClock h p => Sys2Proof.Machine.execTtSetClock h p s
  | .ttGetTimebase h p => Sys2Proof.Machine.execTtGetTimebase h p s
  | .ttCtrlSwapReq => Sys2Proof.Machine.execTtCtrlSwapReq s
  | .ttCrossingRead => Sys2Proof.Machine.execTtCrossingRead s
  | .chanEnable h p => Sys2Proof.Machine.execChanEnable h p s
  | .chanSetTrim h p => Sys2Proof.Machine.execChanSetTrim h p s
  | .chanSetSkew h p => Sys2Proof.Machine.execChanSetSkew h p s
  | .chanSetRange h p => Sys2Proof.Machine.execChanSetRange h p s
  | .chanReset h p => Sys2Proof.Machine.execChanReset h p s
  | .chanSetAfe h p => Sys2Proof.Machine.execChanSetAfe h p s
  | .chanGetStatus h p => Sys2Proof.Machine.execChanGetStatus h p s
  | .chanGetAdcMap h p => Sys2Proof.Machine.execChanGetAdcMap h p s
  | .assayStatus h p => Sys2Proof.Machine.execAssayStatus h p s
  | .assayChallenge h p => Sys2Proof.Machine.execAssayChallenge h p s
  | .assayOpen h p => Sys2Proof.Machine.execAssayOpen h p s
  | .assaySeal h p => Sys2Proof.Machine.execAssaySeal h p s
  | .assayWriteRef h p => Sys2Proof.Machine.execAssayWriteRef h p s
  | .assayStore h p => Sys2Proof.Machine.execAssayStore h p s
  | .assayReadBank h p => Sys2Proof.Machine.execAssayReadBank h p s
  | .assayGetHallmark h p => Sys2Proof.Machine.execAssayGetHallmark h p s
  | .calRefWrite x w => Sys2Proof.Machine.execCalRefWrite x w s
  | .calRun h p => Sys2Proof.Machine.execCalRun h p s
  | .calAbort h p => Sys2Proof.Machine.execCalAbort h p s
  | .calConfig h p => Sys2Proof.Machine.execCalConfig h p s
  | .calGetStatus h p => Sys2Proof.Machine.execCalGetStatus h p s
  | .filtSetConfig h p => Sys2Proof.Machine.execFiltSetConfig h p s
  | .filtWriteHb h p => Sys2Proof.Machine.execFiltWriteHb h p s
  | .filtWriteFir h p => Sys2Proof.Machine.execFiltWriteFir h p s
  | .filtSwap h p => Sys2Proof.Machine.execFiltSwap h p s
  | .filtRead h p => Sys2Proof.Machine.execFiltRead h p s
  | .filtGetStatus h p => Sys2Proof.Machine.execFiltGetStatus h p s
  | .fltCtrlSwapGroups mask => Sys2Proof.Machine.execFltCtrlSwapGroups mask s
  | .fltSwapCrossingRead => Sys2Proof.Machine.execFltSwapCrossingRead s
  | .engineLoad h p => Sys2Proof.Machine.execEngineLoad h p s
  | .engineStart h p => Sys2Proof.Machine.execEngineStart h p s
  | .engineStop h p => Sys2Proof.Machine.execEngineStop h p s
  | .engineSelect h p => Sys2Proof.Machine.execEngineSelect h p s
  | .engineStatus h p => Sys2Proof.Machine.execEngineStatus h p s
  | .engineReadLanes h p => Sys2Proof.Machine.execEngineReadLanes h p s
  | .feCtrlStart mask => Sys2Proof.Machine.execFeCtrlStart mask s
  | .feCtrlStop mask => Sys2Proof.Machine.execFeCtrlStop mask s
  | .feFaultCrossingRead g => Sys2Proof.Machine.execFeFaultCrossingRead g s
  | .trigSetMap h p => Sys2Proof.Machine.execTrigSetMap h p s
  | .trigSetScale h p => Sys2Proof.Machine.execTrigSetScale h p s
  | .trigGetStatus h p => Sys2Proof.Machine.execTrigGetStatus h p s
  | .trigCapture h p => Sys2Proof.Machine.execTrigCapture h p s
  | .jctFaultCrossingRead => Sys2Proof.Machine.execJctFaultCrossingRead s
  | .recSetPool h p => Sys2Proof.Machine.execRecSetPool h p s
  | .recConfig h p => Sys2Proof.Machine.execRecConfig h p s
  | .recArm h p => Sys2Proof.Machine.execRecArm h p s
  | .recTrigger h p => Sys2Proof.Machine.execRecTrigger h p s
  | .recGetStatus h p => Sys2Proof.Machine.execRecGetStatus h p s
  | .recLastCrossingRead g => Sys2Proof.Machine.execRecLastCrossingRead g s
  | .streamConfig h p => Sys2Proof.Machine.execStreamConfig h p s
  | .streamSetNbr h p => Sys2Proof.Machine.execStreamSetNbr h p s
  | .streamFlush h p => Sys2Proof.Machine.execStreamFlush h p s
  | .streamSelfcheck h p => Sys2Proof.Machine.execStreamSelfcheck h p s
  | .streamGetStatus h p => Sys2Proof.Machine.execStreamGetStatus h p s
  | .strFlushFlush mask => Sys2Proof.Machine.execStrFlushFlush mask s
  | .strFlushColdReq mask => Sys2Proof.Machine.execStrFlushColdReq mask s
  | .linkStatus h p => Sys2Proof.Machine.execLinkStatus h p s
  | .linkEnable h p => Sys2Proof.Machine.execLinkEnable h p s
  | .linkRetrain h p => Sys2Proof.Machine.execLinkRetrain h p s
  | .linkConfig h p => Sys2Proof.Machine.execLinkConfig h p s
  | .linkSetTxeq h p => Sys2Proof.Machine.execLinkSetTxeq h p s
  | .linkSetStream h p => Sys2Proof.Machine.execLinkSetStream h p s
  | .linkTest h p => Sys2Proof.Machine.execLinkTest h p s
  | .linkGetCounters h p => Sys2Proof.Machine.execLinkGetCounters h p s
  | .lnCtrlRetrain lane => Sys2Proof.Machine.execLnCtrlRetrain lane s
  | .timeStatus h p => Sys2Proof.Machine.execTimeStatus h p s
  | .timeConfig h p => Sys2Proof.Machine.execTimeConfig h p s
  | .timeSetDelay h p => Sys2Proof.Machine.execTimeSetDelay h p s
  | .timeSet h p => Sys2Proof.Machine.execTimeSet h p s
  | .timePhase h p => Sys2Proof.Machine.execTimePhase h p s
  | .timeGet h p => Sys2Proof.Machine.execTimeGet h p s
  | .tmNowLoRead master => Sys2Proof.Machine.execTmNowLoRead master s
  | .pairJoin h p => Sys2Proof.Machine.execPairJoin h p s
  | .pairLeave h p => Sys2Proof.Machine.execPairLeave h p s
  | .roleAssign h p => Sys2Proof.Machine.execRoleAssign h p s
  | .pairConfig h p => Sys2Proof.Machine.execPairConfig h p s
  | .pairStatus h p => Sys2Proof.Machine.execPairStatus h p s
  | .pairFirstMismatchRead => Sys2Proof.Machine.execPairFirstMismatchRead s
  | .monPinSet h p => Sys2Proof.Machine.execMonPinSet h p s
  | .monExcSet h p => Sys2Proof.Machine.execMonExcSet h p s
  | .monSeqWrite h p => Sys2Proof.Machine.execMonSeqWrite h p s
  | .monSeqCtrl h p => Sys2Proof.Machine.execMonSeqCtrl h p s
  | .monSeqRun h p => Sys2Proof.Machine.execMonSeqRun h p s
  | .monRead h p => Sys2Proof.Machine.execMonRead h p s
  | .monAoncSet h p => Sys2Proof.Machine.execMonAoncSet h p s
  | .monStatus h p => Sys2Proof.Machine.execMonStatus h p s
  | .loopConfig h p => Sys2Proof.Machine.execLoopConfig h p s
  | .loopSet h p => Sys2Proof.Machine.execLoopSet h p s
  | .loopStatus h p => Sys2Proof.Machine.execLoopStatus h p s
  | .ledConfig h p => Sys2Proof.Machine.execLedConfig h p s
  | .ledSetPattern h p => Sys2Proof.Machine.execLedSetPattern h p s
  | .ledSetBin h p => Sys2Proof.Machine.execLedSetBin h p s
  | .ledStatus h p => Sys2Proof.Machine.execLedStatus h p s
  | .ledClearFault h p => Sys2Proof.Machine.execLedClearFault h p s
  | .memStatus h p => Sys2Proof.Machine.execMemStatus h p s
  | .memScrub h p => Sys2Proof.Machine.execMemScrub h p s
  | .memEccFlip h p => Sys2Proof.Machine.execMemEccFlip h p s
  | .memFreezeRelease h p => Sys2Proof.Machine.execMemFreezeRelease h p s
  | .memSetWindow h p => Sys2Proof.Machine.execMemSetWindow h p s
  | .memReadSiding h p => Sys2Proof.Machine.execMemReadSiding h p s
  | .fwReleaseWrite w => Sys2Proof.Machine.execFwReleaseWrite w s
  | .eccFlipWrite w => Sys2Proof.Machine.execEccFlipWrite w s
  | .sidingCounterWrite master siding tail v => Sys2Proof.Machine.execSidingCounterWrite master siding tail v s
  | .rpWdogKickWrite master v => Sys2Proof.Machine.execRpWdogKickWrite master v s
  | .registerWrite master addr w => Sys2Proof.Machine.execRegisterWrite master addr w s
  | .cspiWriteMsg m => Sys2Proof.Machine.execCspiWriteMsg m s
  | .cspiReadMsg n => Sys2Proof.Machine.execCspiReadMsg n s
  | .cspiReadStatus => Sys2Proof.Machine.execCspiReadStatus s
  | .sysInfo h p => Sys2Proof.Machine.execSysInfo h p s
  | .sysReset h p => Sys2Proof.Machine.execSysReset h p s
  | .sysEcho h p => Sys2Proof.Machine.execSysEcho h p s
  | .sysEvents h p => Sys2Proof.Machine.execSysEvents h p s
  | .sysCounters h p => Sys2Proof.Machine.execSysCounters h p s
  | .regRead h p => Sys2Proof.Machine.execRegRead h p s
  | .regWrite h p => Sys2Proof.Machine.execRegWrite h p s
  | .modeSet h p => Sys2Proof.Machine.execModeSet h p s
  | .modeGet h p => Sys2Proof.Machine.execModeGet h p s
  | .sysModeCrossingRead => Sys2Proof.Machine.execSysModeCrossingRead s
  | .imageBegin h p => Sys2Proof.Machine.execImageBegin h p s
  | .imageData h p => Sys2Proof.Machine.execImageData h p s
  | .imageEnd h p => Sys2Proof.Machine.execImageEnd h p s
  | .imageStatus h p => Sys2Proof.Machine.execImageStatus h p s
  | .imageAbort h p => Sys2Proof.Machine.execImageAbort h p s
  | .softwareResetRequest => Sys2Proof.Machine.execSoftwareResetRequest s
  | .powerOnResetRelease => Sys2Proof.Machine.execPowerOnResetRelease s
  | .brownOutResetRelease => Sys2Proof.Machine.execBrownOutResetRelease s
  | .resetNRelease => Sys2Proof.Machine.execResetNRelease s
  | .clkQualLoss d => Sys2Proof.Machine.execClkQualLoss d s
  | .excFaultClear x sense => Sys2Proof.Machine.execExcFaultClear x sense s
  | .holdoffExpClear => Sys2Proof.Machine.execHoldoffExpClear s

end Sys2Proof.Machine
end

