-- ==== Sys2Proof/WellFormed.lean ====
section
/-! DEFINITION. Well-formed commands: what the types of their operands do not say. -/

namespace Sys2Proof

open Sys2Proof.Machine

/-- A command's payload holds 0 to 1024 bytes (R413). (Log entry 15: DESIGN CHOICE, safe) -/
def payloadOk (p : List Byte) : Bool := decide (p.length ≤ 1024)

/-- No element occurs twice. -/
def distinct : List Nat → Bool
  | [] => true
  | x :: xs => !xs.contains x && distinct xs

/-- A well-formed command: payloads fit a message, engine instructions are not reserved (R168, R172), a conversion names each channel
once, and an access has a size and an address that a master can make. -/
def Instr.wf : Instr → Bool
  | .frameTick _ => true
  | .sampleConversion _ xs => distinct (xs.map fun (x : SampleIn) => x.ch.val)
  | .rangeStepDown _ => true
  | .resetSwitchOpen _ => true
  | .chanRecoveryEnd _ => true
  | .trimRampStep _ => true
  | .handoverAttempt _ => true
  | .handoverTakeover _ => true
  | .handoverWithdraw _ => true
  | .adcCalComplete _ _ => true
  | .tnowUpdate _ _ _ _ => true
  | .calRunStart => true
  | .calRunEnd _ => true
  | .calRunTimeout _ => true
  | .feNop _ gd => feWf (.nop gd)
  | .feMov _ gd d a => feWf (.mov gd d a)
  | .feMovi _ gd d imm => feWf (.movi gd d imm)
  | .feLdk _ gd d k => feWf (.ldk gd d k)
  | .feLdl _ gd d j => feWf (.ldl gd d j)
  | .feLdw _ gd d a => feWf (.ldw gd d a)
  | .feLdwi _ gd d i => feWf (.ldwi gd d i)
  | .feAdd _ gd d a b => feWf (.add gd d a b)
  | .feSub _ gd d a b => feWf (.sub gd d a b)
  | .feAddi _ gd d a imm => feWf (.addi gd d a imm)
  | .feMul _ gd d a b => feWf (.mul gd d a b)
  | .feMulsh _ gd d a b sh => feWf (.mulsh gd d a b sh)
  | .feMax _ gd d a b => feWf (.max gd d a b)
  | .feMin _ gd d a b => feWf (.min gd d a b)
  | .feAbs _ gd d a => feWf (.abs gd d a)
  | .feShl _ gd d a sh => feWf (.shl gd d a sh)
  | .feShr _ gd d a sh => feWf (.shr gd d a sh)
  | .feAnd _ gd d a b => feWf (.and gd d a b)
  | .feOr _ gd d a b => feWf (.or gd d a b)
  | .feXor _ gd d a b => feWf (.xor gd d a b)
  | .feWsum _ gd d first cnt => feWf (.wsum gd d first cnt)
  | .feWpeak _ gd d first cnt => feWf (.wpeak gd d first cnt)
  | .feWmin _ gd d first cnt => feWf (.wmin gd d first cnt)
  | .feInterp _ gd d a first edge cnt => feWf (.interp gd d a first edge cnt)
  | .feCmpgt _ gd pd a b => feWf (.cmpgt gd pd a b)
  | .feCmpge _ gd pd a b => feWf (.cmpge gd pd a b)
  | .feCmpeq _ gd pd a b => feWf (.cmpeq gd pd a b)
  | .fePtst _ gd pd a mask => feWf (.ptst gd pd a mask)
  | .fePlog _ gd pd pa pb fn => feWf (.plog gd pd pa pb fn)
  | .feFeat _ gd slot a => feWf (.feat gd slot a)
  | .feTower _ gd a uq => feWf (.tower gd a uq)
  | .feTrig _ gd tvalid tslot => feWf (.trig gd tvalid tslot)
  | .feSkipz _ gd pc n => feWf (.skipz gd pc n)
  | .feEnd _ gd => feWf (.endRun gd)
  | .feOverrun _ => true
  | .junctionImageApply => true
  | .boundaryBlockMissing => true
  | .recTriggerEvaluate _ => true
  | .recCaptureClose _ => true
  | .recRearm _ => true
  | .recHoldoffEnd _ => true
  | .recHeldMarkerWrite _ => true
  | .dispatcherSendItem _ => true
  | .ingotClose _ => true
  | .ingotCommit _ => true
  | .ingotSelfcheck _ _ => true
  | .selfcheckAbandon _ => true
  | .ingotRetentionExpire => true
  | .carriageReceive _ _ _ _ => true
  | .turnMarkerReceive _ _ => true
  | .commandReceive _ _ => true
  | .heldCommandTimeout _ _ => true
  | .deferredCommandTimeout _ _ => true
  | .laneStateReceive _ _ _ _ _ _ => true
  | .trainingFrameReceive _ _ _ => true
  | .txeqStep _ => true
  | .capsReceive _ _ _ _ _ _ => true
  | .laneDetectPass _ => true
  | .rxAdaptDone _ _ _ _ => true
  | .cdrLock _ => true
  | .laneStateTimeout _ => true
  | .laneSignalLoss _ => true
  | .laneBackoffEnd _ => true
  | .laneBlindLimit _ => true
  | .clockSourceSwitch => true
  | .clockFailureReset _ => true
  | .syncReceive _ _ _ _ _ => true
  | .followUpReceive _ _ _ _ _ _ _ _ => true
  | .delayRespReceive _ _ _ _ _ _ _ _ => true
  | .delayReqSend => true
  | .delayStale => true
  | .timeStepApply => true
  | .syncTimeout => true
  | .timeNsWrap => true
  | .evTimeEpoch => true
  | .phaseTargetUpdate => true
  | .phaseSlewStep => true
  | .pairCarriageReceive _ _ _ => true
  | .shadowHashTimeout => true
  | .switchoverGapEnd => true
  | .pairHeartbeat => true
  | .revertHoldoffExpire => true
  | .roleRevert => true
  | .pairModeMismatch _ => true
  | .sealEnFall => true
  | .nonceExpire => true
  | .assayRequestTimeout => true
  | .storePendingStart => true
  | .assayStoreComplete _ => true
  | .hkSeqPassStart _ => true
  | .hkEntryStart => true
  | .hkConversion _ _ => true
  | .hkEntryEnd => true
  | .crosspointSettleEnd => true
  | .excSettleEnd _ => true
  | .excFaultOnset _ _ => true
  | .monPinLimit _ => true
  | .aoncTrip _ => true
  | .aoncRelease _ => true
  | .loopUpdate _ => true
  | .loopReadback _ _ => true
  | .loopFwWrite _ => true
  | .ledBurstEnd _ _ => true
  | .vledReadySet => true
  | .vledOutOfRange => true
  | .memoryRead _ _ _ _ _ => true
  | .eccBucketLeak => true
  | .tmrRepair _ => true
  | .interconnectAccess _ _ _ bytes => [1, 2, 4, 8].contains bytes.length
  | .assayWindowWrite _ addr => decide (0x50000000 ≤ addr.toNat) && decide (addr.toNat < 0x50100000)
  | .evLogLost _ => true
  | .memScrubComplete => true
  | .supplyWarnLatch _ => true
  | .supplyWarnClear => true
  | .powerOnReset => true
  | .brownOutReset => true
  | .resetNAssert => true
  | .watchdogTimeout => true
  | .debugResetRequest => true
  | .lockupReset => true
  | .domainResetRelease _ _ => true
  | .optionLoadComplete => true
  | .quadrantPowerOn _ => true
  | .modeChangeApply => true
  | .prepareTargetEntry => true
  | .prepLimitTimeout => true
  | .dormantWake _ _ => true
  | .ttBankSwapApply => true
  | .filterSwapApply => true
  | .filterConfigApply => true
  | .ttWrite _ p => payloadOk p
  | .ttWinWrite _ p => payloadOk p
  | .ttSwap _ p => payloadOk p
  | .ttRead _ p => payloadOk p
  | .ttSetTurn _ p => payloadOk p
  | .ttSetLatency _ p => payloadOk p
  | .ttSetClock _ p => payloadOk p
  | .ttGetTimebase _ p => payloadOk p
  | .ttCtrlSwapReq => true
  | .ttCrossingRead => true
  | .chanEnable _ p => payloadOk p
  | .chanSetTrim _ p => payloadOk p
  | .chanSetSkew _ p => payloadOk p
  | .chanSetRange _ p => payloadOk p
  | .chanReset _ p => payloadOk p
  | .chanSetAfe _ p => payloadOk p
  | .chanGetStatus _ p => payloadOk p
  | .chanGetAdcMap _ p => payloadOk p
  | .assayStatus _ p => payloadOk p
  | .assayChallenge _ p => payloadOk p
  | .assayOpen _ p => payloadOk p
  | .assaySeal _ p => payloadOk p
  | .assayWriteRef _ p => payloadOk p
  | .assayStore _ p => payloadOk p
  | .assayReadBank _ p => payloadOk p
  | .assayGetHallmark _ p => payloadOk p
  | .calRefWrite _ _ => true
  | .calRun _ p => payloadOk p
  | .calAbort _ p => payloadOk p
  | .calConfig _ p => payloadOk p
  | .calGetStatus _ p => payloadOk p
  | .filtSetConfig _ p => payloadOk p
  | .filtWriteHb _ p => payloadOk p
  | .filtWriteFir _ p => payloadOk p
  | .filtSwap _ p => payloadOk p
  | .filtRead _ p => payloadOk p
  | .filtGetStatus _ p => payloadOk p
  | .fltCtrlSwapGroups _ => true
  | .fltSwapCrossingRead => true
  | .engineLoad _ p => payloadOk p
  | .engineStart _ p => payloadOk p
  | .engineStop _ p => payloadOk p
  | .engineSelect _ p => payloadOk p
  | .engineStatus _ p => payloadOk p
  | .engineReadLanes _ p => payloadOk p
  | .feCtrlStart _ => true
  | .feCtrlStop _ => true
  | .feFaultCrossingRead _ => true
  | .trigSetMap _ p => payloadOk p
  | .trigSetScale _ p => payloadOk p
  | .trigGetStatus _ p => payloadOk p
  | .trigCapture _ p => payloadOk p
  | .jctFaultCrossingRead => true
  | .recSetPool _ p => payloadOk p
  | .recConfig _ p => payloadOk p
  | .recArm _ p => payloadOk p
  | .recTrigger _ p => payloadOk p
  | .recGetStatus _ p => payloadOk p
  | .recLastCrossingRead _ => true
  | .streamConfig _ p => payloadOk p
  | .streamSetNbr _ p => payloadOk p
  | .streamFlush _ p => payloadOk p
  | .streamSelfcheck _ p => payloadOk p
  | .streamGetStatus _ p => payloadOk p
  | .strFlushFlush _ => true
  | .strFlushColdReq _ => true
  | .linkStatus _ p => payloadOk p
  | .linkEnable _ p => payloadOk p
  | .linkRetrain _ p => payloadOk p
  | .linkConfig _ p => payloadOk p
  | .linkSetTxeq _ p => payloadOk p
  | .linkSetStream _ p => payloadOk p
  | .linkTest _ p => payloadOk p
  | .linkGetCounters _ p => payloadOk p
  | .lnCtrlRetrain _ => true
  | .timeStatus _ p => payloadOk p
  | .timeConfig _ p => payloadOk p
  | .timeSetDelay _ p => payloadOk p
  | .timeSet _ p => payloadOk p
  | .timePhase _ p => payloadOk p
  | .timeGet _ p => payloadOk p
  | .tmNowLoRead _ => true
  | .pairJoin _ p => payloadOk p
  | .pairLeave _ p => payloadOk p
  | .roleAssign _ p => payloadOk p
  | .pairConfig _ p => payloadOk p
  | .pairStatus _ p => payloadOk p
  | .pairFirstMismatchRead => true
  | .monPinSet _ p => payloadOk p
  | .monExcSet _ p => payloadOk p
  | .monSeqWrite _ p => payloadOk p
  | .monSeqCtrl _ p => payloadOk p
  | .monSeqRun _ p => payloadOk p
  | .monRead _ p => payloadOk p
  | .monAoncSet _ p => payloadOk p
  | .monStatus _ p => payloadOk p
  | .loopConfig _ p => payloadOk p
  | .loopSet _ p => payloadOk p
  | .loopStatus _ p => payloadOk p
  | .ledConfig _ p => payloadOk p
  | .ledSetPattern _ p => payloadOk p
  | .ledSetBin _ p => payloadOk p
  | .ledStatus _ p => payloadOk p
  | .ledClearFault _ p => payloadOk p
  | .memStatus _ p => payloadOk p
  | .memScrub _ p => payloadOk p
  | .memEccFlip _ p => payloadOk p
  | .memFreezeRelease _ p => payloadOk p
  | .memSetWindow _ p => payloadOk p
  | .memReadSiding _ p => payloadOk p
  | .fwReleaseWrite _ => true
  | .eccFlipWrite _ => true
  | .sidingCounterWrite _ _ _ _ => true
  | .rpWdogKickWrite _ _ => true
  | .registerWrite _ addr _ => addr.toNat % 4 == 0
  | .cspiWriteMsg _ => true
  | .cspiReadMsg _ => true
  | .cspiReadStatus => true
  | .sysInfo _ p => payloadOk p
  | .sysReset _ p => payloadOk p
  | .sysEcho _ p => payloadOk p
  | .sysEvents _ p => payloadOk p
  | .sysCounters _ p => payloadOk p
  | .regRead _ p => payloadOk p
  | .regWrite _ p => payloadOk p
  | .modeSet _ p => payloadOk p
  | .modeGet _ p => payloadOk p
  | .sysModeCrossingRead => true
  | .imageBegin _ p => payloadOk p
  | .imageData _ p => payloadOk p
  | .imageEnd _ p => payloadOk p
  | .imageStatus _ p => payloadOk p
  | .imageAbort _ p => payloadOk p
  | .softwareResetRequest => true
  | .powerOnResetRelease => true
  | .brownOutResetRelease => true
  | .resetNRelease => true
  | .clkQualLoss _ => true
  | .excFaultClear _ _ => true
  | .holdoffExpClear => true

end Sys2Proof
end

