-- ==== Sys2Proof/Safety.lean ====
section
/-! DEFINITION. What counts as a safe run of the block, and the terms that claims about a command use: when it is accepted, what its
answer is, and what it leaves alone. -/

namespace Sys2Proof

open Sys2Proof.Machine

namespace Machine

/-- The register file and the memories are in canonical form. -/
def tablesWf (s : Hub) : Bool := twf regReset s.regs && memWf s.mem

/-- A host command reaches its own checks: it can start, the generic checks of R416 and R422 let it through, it is meant for this hub,
and no earlier command of the same name still waits for the partner (R320). -/
abbrev Accepts (s : Hub) (h : Hdr) (op : Nat) : Prop :=
  s.mayStart h op = true ∧ (s.takeCmd h op).generic op h = none ∧ h.target ≠ 1 ∧
    ∀ b ∈ (s.takeCmd h op).mbx.both, ¬ (b.hdr = h ∧ b.op = op)

/-- The command reaches its own checks, and fewer than 16 deferred commands are outstanding, so its response may wait (R419, R422). -/
abbrev Defers (s : Hub) (h : Hdr) (op : Nat) : Prop := Accepts s h op ∧ (s.takeCmd h op).outstanding < 16

/-- The command is answered by this hub alone: it is not a joined leader, which carries some commands out on both hubs (R320). -/
abbrev Alone (s : Hub) : Prop := (s.joined && s.leader) = false

/-- The last response kept is the command's, with this status and payload (R415, R418). -/
def Answered (t : Hub) (h : Hdr) (op st : Nat) (payload : List Byte) : Prop :=
  t.mbx.stored.getLast? = some { src := h.src.val, seq := h.seq.toNat, op := op, status := st, target := h.target.toNat, crc := h.crc.toNat, disp := 0, payload := payload }

/-- The command's response waits for a later happening (R419). -/
def Waits (t : Hub) (h : Hdr) (op arg : Nat) (payload : List Byte) : Prop :=
  ∃ d ∈ t.mbx.deferred, d.hdr = h ∧ d.op = op ∧ d.arg = arg ∧ d.payload = payload

/-- The ring of siding n can be read: no word of it carries an inverted bit, and no flip is armed for the next write (R389, R395). -/
def RingClean (s : Hub) (n : Nat) : Prop :=
  s.bit ECC_FLIP 31 = false ∧ ∀ t, eccCheck (s.eccAt (ringAddr n t)) = .clean ∧ eccCheck (s.eccAt (ringAddr n t + 8)) = .clean

/-- S41 holds an entry whose event is this one (R393, R407). -/
def Logs (t : Hub) (code : Nat) (ws extra : List Nat) : Prop := ∃ it ∈ t.items 41, ∃ bs, it = .log bs code ws (some extra)

/-- The registers of the address map that answering, reporting and logging change beside those of the sidings. -/
def reportRegs : List Nat := [ECC_FLIP, MBX_ESEQ, MBX_CNT2]

/-- Every register outside the sidings' region, but those of reporting and `rs`, is as before. -/
def KeepsRegs (rs : List Nat) (s t : Hub) : Prop :=
  ∀ a, a < 0x60000000 → a ∉ reportRegs → a ∉ rs → t.reg a = s.reg a

/-- Every byte of memory outside the sidings' rings (R385) is as before. -/
def KeepsBytes (s t : Hub) : Prop := ∀ a, a < 0x101F0000 ∨ 0x10200000 ≤ a → t.byte a = s.byte a

/-- Every part of the hub but its registers, memory, sidings and mailbox is as before. -/
def KeepsRest (s t : Hub) : Prop :=
  { t with regs := s.regs, mem := s.mem, ecc := s.ecc, sid := s.sid, held := s.held, mbx := s.mbx } = s

/-- From `s` to `t` nothing changes but the registers `rs` and what answering, reporting and logging change. -/
def Touches (rs : List Nat) (s t : Hub) : Prop := KeepsRegs rs s t ∧ KeepsBytes s t ∧ KeepsRest s t

/-- The command or event completes: exec answers a next state that satisfies `post`, with the queue as it was. -/
def Runs (i : Instr) (s : State) (post : Hub → Prop) : Prop := ∃ t, exec i s = .next t ∧ t.pending = s.pending ∧ post t.toHub

/-- The host command completes with status OK and this payload, in a hub that satisfies `post`. -/
def Replies (i : Instr) (s : State) (h : Hdr) (op : Nat) (payload : List Byte) (post : Hub → Prop) : Prop :=
  Runs i s fun t => Answered t h op stOK payload ∧ post t

/-- The host command completes with this refusal and changes nothing but what answering changes. -/
def Refuses (i : Instr) (s : State) (h : Hdr) (op st : Nat) : Prop :=
  Runs i s fun t => Answered t h op st [] ∧ Touches [] s.toHub t

/-- The instruction is the next one of the run in progress of engine g, and is issued now (R162). -/
abbrev Issues (s : Hub) (g : Nat) (r : FeRun) (ins : FeIns) : Prop := (s.eng g).run = some r ∧ s.feIssues g r ins = true

/-- The word that the engine fetches next decodes and carries no inverted bit. -/
abbrev FetchesNext (s : Hub) (g : Nat) (r : FeRun) : Prop :=
  (s.feAt g (r.pc + 1)).isSome = true ∧ eccCheck (s.eccAt (feBase g + 4 * (r.pc + 1))) = .clean

/-- What an engine may change beside its own state: a fault's registers and the counters of a fetch's errors (R183, R390). -/
def engineRegs (g : Nat) : List Nat := [FE_STATE g, FE_FAULT_CROSSING g, ECC_CNT (3 + g), ECC_BEV (3 + g), ECC_STATUS]

/-- The instruction writes `v l` to register `d` of every lane whose guard is true, and no other lane register of any engine. -/
def LaneWrites (i : Instr) (s : State) (g : Fin 8) (r : FeRun) (gd : Guard) (d : Nat) (v : Nat → Int) : Prop :=
  Runs i s fun t => (∀ l < 32, (t.eng g.val).vOf l d = (if r.guarded l gd then v l else (s.eng g.val).vOf l d) ∧
      ∀ j < 16, j ≠ d → (t.eng g.val).vOf l j = (s.eng g.val).vOf l j) ∧
    (∀ k, k ≠ g.val → t.eng k = s.eng k) ∧ Touches (engineRegs g.val) s.toHub { t with engines := s.engines, shadow := s.shadow }

/-- The instruction writes `b l` to predicate `p` of every lane whose guard is true, and goes on to the next word; P0 takes no write. -/
def LaneTests (i : Instr) (s : State) (g : Fin 8) (r : FeRun) (gd : Guard) (p : Nat) (b : Nat → Bool) : Prop :=
  Runs i s fun t => ∃ r', (t.eng g.val).run = some r' ∧ r'.pc = r.pc + 1 ∧
    (∀ l < 32, (p ≠ 0 → r'.predOf l p = if r.guarded l gd then b l else r.predOf l p) ∧ (∀ k < 8, k ≠ p ∨ p = 0 → r'.predOf l k = r.predOf l k)) ∧
    (t.eng g.val).v = (s.eng g.val).v

/-- Z, N and SATF of a lane in a run (R166, R167). -/
def flagsOf (r : FeRun) (l : Nat) : Bool × Bool × Bool := (tget (fun _ => false) r.z l, tget (fun _ => false) r.neg l, tget (fun _ => false) r.satf l)

/-- The instruction leaves Z and N as `z` and `neg` say in every lane whose guard is true, sets SATF there where `sat` says so, and leaves the flags of every
other lane alone (R168). -/
def SetsFlags (i : Instr) (s : State) (g : Fin 8) (r : FeRun) (gd : Guard) (z neg : Hub → Nat → Bool) (sat : Nat → Bool) : Prop :=
  Runs i s fun t => ∃ r', (t.eng g.val).run = some r' ∧
    ∀ l < 32, flagsOf r' l = if r.guarded l gd then (z t l, neg t l, (flagsOf r l).2.2 || sat l) else flagsOf r l

/-- The instruction sets Z and N from the value it has written to `d` (R171). -/
def FlagsOfD (i : Instr) (s : State) (g : Fin 8) (r : FeRun) (gd : Guard) (d : Nat) (sat : Nat → Bool) : Prop :=
  SetsFlags i s g r gd (fun t l => decide ((t.eng g.val).vOf l d = 0)) (fun t l => decide ((t.eng g.val).vOf l d < 0)) sat

/-- The instruction leaves every flag of the run alone. -/
def KeepsFlags (i : Instr) (s : State) (g : Fin 8) (r : FeRun) : Prop :=
  Runs i s fun t => ∀ r', (t.eng g.val).run = some r' → ∀ l < 32, flagsOf r' l = flagsOf r l

/-- The payload is a chunk with LAST of an image load for one of the nine ENGINE numbers, in sequence and within the image (R503). -/
abbrev LastChunk (s : Hub) (p : List Byte) : Prop :=
  4 ≤ p.length ∧ p.length ≤ 1024 ∧ p.length % 4 = 0 ∧ pl p 0 1 ≤ 8 ∧ pl p 1 1 = 1 ∧ pl p 2 2 % 4 = 0 ∧
    (pl p 2 2 = 0 ∨ pl p 2 2 = (s.stage (pl p 0 1)).next) ∧ pl p 2 2 + (p.length - 4) ≤ 4096

/-- The image that a chunk completes. -/
def wholeImage (s : Hub) (p : List Byte) : List (Nat × Nat) :=
  stagePuts (if pl p 2 2 = 0 then [] else (s.stage (pl p 0 1)).bytes) (pl p 2 2) (p.drop 4)

/-- INSTR_COUNT of an image, and its instruction i. -/
abbrev imgCount (img : List (Nat × Nat)) : Nat := bits (imgWord img 0x408) 15 0
abbrev imgIns (img : List (Nat × Nat)) (i : Nat) : Option FeIns := feDecode (imgWord img (4 * i))

/-- Word e of an image is the first END at or after word i, within INSTR_COUNT. -/
abbrev EndsAt (img : List (Nat × Nat)) (i e : Nat) : Prop :=
  i ≤ e ∧ e < imgCount img ∧ (imgIns img e).any feIsEnd = true ∧ ∀ j < e, i ≤ j → (imgIns img j).any feIsEnd = false

/-- FEAT names a slot below NFEAT, and SKIPZ does not go beyond the first END that follows it (R177, R180). -/
def insLegal (img : List (Nat × Nat)) (i : Nat) : FeIns → Bool
  | .feat _ slot _ => decide (slot.val < bits (imgWord img 0x400) 31 24)
  | .skipz _ _ n => decide (∃ e ∈ List.range 256, EndsAt img (i + 1) e ∧ i + n.toNat < e)
  | _ => true

/-- The image passes every check of R180. -/
abbrev ProgramLegal (img : List (Nat × Nat)) : Prop :=
  bits (imgWord img 0x400) 15 0 = 0x4645 ∧ bits (imgWord img 0x400) 23 16 = 1 ∧ bits (imgWord img 0x400) 31 24 ≤ 8 ∧ 1 ≤ imgCount img ∧ imgCount img ≤ 256 ∧
    (∀ k < 4, ∃ e ∈ List.range 256, EndsAt img (entryOf (imgWord img 0x404) k) e) ∧
    ∀ i < imgCount img, (imgIns img i).any (insLegal img i) = true

/-- The static issue count of entry k is c (R179). -/
abbrev EntryCosts (img : List (Nat × Nat)) (k c : Nat) : Prop :=
  let i := entryOf (imgWord img 0x404) k
  ∃ e ∈ List.range 256, EndsAt img i e ∧ c = (((List.range (e + 1 - i)).filterMap fun j => imgIns img (i + j)).map feCost).sum

/-- The Junction image passes every check of R198. -/
abbrev JunctionLegal (img : List (Nat × Nat)) : Prop :=
  imgWord img 0 = 0x00014A43 ∧ 1 ≤ imgWord img 4 ∧ imgWord img 4 ≤ 262140 ∧ bits (imgWord img 8) 3 0 ≤ 10 ∧ bits (imgWord img 8) 7 4 = 0 ∧
    bits (imgWord img 8) 31 9 = 0 ∧ ∀ i < 4096, 12 ≤ i → tget (fun _ => 0) img i = 0

/-- The bytes of memory from `a` on are the image's, and no other byte outside the rings of the sidings has changed. -/
abbrev Holds (a : Nat) (img : List (Nat × Nat)) (s t : Hub) : Prop :=
  (∀ i < 4096, (t.byte (a + i)).toNat = tget (fun _ => 0) img i % 256) ∧
    ∀ b, (b < a ∨ a + 4096 ≤ b) → (b < 0x101F0000 ∨ 0x10200000 ≤ b) → t.byte b = s.byte b

/-- From `s` to `t` the reset of source `v` has been asserted: the domains of its scope are off with their clocks not qualified, the source is recorded, LAST names
the lowest of this reset, the options are to be loaded, firmware's world is empty and the mode is LOADING. The OTP bits stay, and with no calibration run to
judge the serial memory does. -/
def ResetBy (v : Nat) (s t : Hub) : Prop :=
  (∀ d ∈ resetScope v, t.bit RP_PD_STATUS d = false ∧ t.bit RP_PD_STATUS (16 + d) = false) ∧ t.bit RP_RST_CAUSE (16 + v) = true ∧
    t.fld RP_RST_CAUSE 3 0 = lowestSource (s.pw.srcs ||| 2 ^ v) ∧ t.bit RP_FUSE_STATUS 0 = false ∧ t.sid = [] ∧ t.mbx = {} ∧ t.mode = mLOADING ∧
    t.asy.otp = s.asy.otp ∧ ((∀ q < 4, (s.calq q).run = none) → t.asy.nor = s.asy.nor)

/-- The partition stays in retention, unless a reset in progress covers it (R448), but for its pending store, and no byte outside the rings of
the sidings changes (R101, R446); with no calibration run to judge the partition and the memory are as before. -/
def Retains (s t : Hub) : Prop :=
  t.bit RP_PD_STATUS 26 = ([0, 1, 2, 8].all fun v => !bitAt s.pw.srcs v) ∧ t.asy.pending = false ∧ t.asy.sealSt = s.asy.sealSt ∧ KeepsBytes s t ∧
    ((∀ q < 4, (s.calq q).run = none) → t.asy = { s.asy with pending := false, pendImg := [] } ∧ t.mem = s.mem)

end Machine

end Sys2Proof
end

