-- ==== Sys2Proof/Certificates/Slice0/Obligations.lean ====
section
/-! DEFINITION. The statements about the block. A host command's statements take the premise that the command is accepted: it can start,
the generic checks let it through and it is meant for this hub (Accepts). `Touches rs s t` is the frame: only the registers `rs`, and what
answering, reporting and logging change (the sidings and their rings, ECC_FLIP, MBX_ESEQ, MBX_CNT2 and the mailbox), differ. -/



open Sys2Proof Sys2Proof.Machine

/-! ### The machine -/

/-- A step takes the command at the front of the queue and executes it with the queue's rest. -/
def Obligations.StepRunsFrontCommand : Prop :=
  ∀ (c : Instr) (rest : List Instr) (s : State), step { s with pending := c :: rest } = exec c { s with pending := rest }

/-- The queue of waiting commands: on an empty queue the block idles (the model's choice, log entry 2), and every command and event answers a next
state whose queue is the one it was given (log entry 3). -/
def Obligations.QueueIsServedInOrder : Prop :=
  (∀ s : State, s.pending = [] → step s = .next s) ∧
  (∀ (c : Instr) (s : State), Runs c s fun _ => True)

/-- Reset values that the spec's register tables give: TURN_LEN 3200, LAT_FRAMES 32 with PAD_FRAMES 17, mode LOADING, every channel enabled, no
block of firmware frozen, LINK_EVENTS set, BUCKET_LIMIT 16, every Penor lane enabled, no group armed, every siding empty, no hallmark bit burned. Three clauses are
the model's own and no value of the spec: no command waits (log entry 1), and memory lists nothing and the tables are canonical (log entry 4). -/
def Obligations.ResetLeavesTheSpecsValues : Prop :=
  State.reset.fld TT_TURN_LEN 15 0 = 3200 ∧ State.reset.fld TT_LAT 5 0 = 32 ∧ State.reset.fld TT_LAT 13 8 = 17 ∧ State.reset.mode = mLOADING ∧
  (∀ n < 256, State.reset.bit (AFE_CH_CFG n) 0 = true) ∧ State.reset.fld FW_STATUS 5 0 = 0 ∧ State.reset.bit MBX_CTRL 0 = true ∧
  State.reset.fld ECC_CTRL 7 0 = 16 ∧ (∀ n < 11, State.reset.bit (LN_CTRL n) 0 = true) ∧ (∀ g < 8, State.reset.bit (REC_GCFG g) 31 = false) ∧
  (∀ n < 64, State.reset.count n = 0 ∧ State.reset.items n = []) ∧ State.reset.pending = [] ∧ State.reset.mem = [] ∧ State.reset.asy.otp = 0 ∧ tablesWf State.reset.toHub = true

/-! ### Frame and Timetable (02) -/

/-- R36: TURN_LEN takes 64 to 65 535 and resets to 3200; at a tick without a TURN marker the crossing advances by 1, and at TURN_LEN it
returns to 0 and the turn advances by 1. -/
def Obligations.FrameTickAdvancesCounters : Prop :=
  State.reset.fld TT_TURN_LEN 15 0 = 3200 ∧
  (∀ (s : State) (h : Hdr) (p : List Byte), Accepts s.toHub h 0x0305 → Alone s.toHub → s.modeIn ttTurnModes = true → p.length = 4 → plZero p 2 2 = true →
    (64 ≤ pl p 0 2 → Replies (.ttSetTurn h p) s h 0x0305 [] fun t => t.fld TT_TURN_LEN 15 0 = pl p 0 2) ∧
    (pl p 0 2 < 64 → Refuses (.ttSetTurn h p) s h 0x0305 stBAD_ARG)) ∧
  (∀ (s : Hub) (i : TickIn), (∀ m ∈ s.tt.markers, m.1 ≠ s.frame + 1) →
    (s.tt.crossing + 1 < s.turnLen → (s.ttTick i).tt.crossing = s.tt.crossing + 1 ∧ (s.ttTick i).tt.turn = s.tt.turn) ∧
    (s.turnLen ≤ s.tt.crossing + 1 → (s.ttTick i).tt.crossing = 0 ∧ (s.ttTick i).tt.turn = (s.tt.turn + 1) % 2 ^ 32))

/-- FRAME_TICK while PD1 is held in reset: the frame and the XO count advance, the time counter advances by 25 ns × (1 + RATE × 2^-40)
for each XO cycle, of which 32 fraction bits of a nanosecond stand in the counter and 8 are carried (R294), and nothing else of the hub changes; in
DORMANT there is no frame clock, and a tick changes nothing. Both are the model's reading (log entries 149 and 148). With PD1 up the tick begins the next crossing, which
it records, and then every block advances one frame; with a clock lane, and no marker of the frame, the crossing is the next one of the turn, or crossing 0
of the next turn (R36).
TURN_MARKER_RECEIVE: a marker of the lane in use stands for the frame that begins at the (2 + TURN_ADJ)-th tick from now; a marker of
another lane changes nothing (R271). -/
def Obligations.FrameTicksAndMarkers : Prop :=
  ((∀ (s : State) (i : TickIn), s.mode ≠ mDORMANT → s.bit RP_PD_STATUS 1 = false →
       Runs (.frameTick i) s fun t => t.frame = s.frame + 1 ∧ t.xo = s.xo + i.xo ∧
         256 * t.tm.cnt + t.tm.residue = 256 * s.tm.cnt + s.tm.residue + i.xo * (25 * ((2 : Int) ^ 40 + toS 32 (s.reg TM_RATE))).toNat ∧ t.tm.residue < 256 ∧
         { t with frame := s.frame, xo := s.xo, act := s.act, tm := s.tm } = s.toHub) ∧
     (∀ (s : State) (i : TickIn), s.mode = mDORMANT → Runs (.frameTick i) s fun t => t = s.toHub) ∧
     (∀ (s : State) (i : TickIn), s.mode ≠ mDORMANT → s.bit RP_PD_STATUS 1 = true →
       Runs (.frameTick i) s fun t => ∃ u : Hub, t = u.blocksTick i ∧ u.frame = s.frame + 1 ∧ u.xo = s.xo + i.xo ∧ u.mode = s.mode ∧
         u.now.n = s.frame + 1 ∧ u.now.crossing = u.tt.crossing ∧ u.now.turn = u.tt.turn ∧
         (s.clockLane.isSome = true → (∀ m ∈ s.tt.markers, m.1 ≠ s.frame + 1) →
           (s.tt.crossing + 1 < s.turnLen → u.tt.crossing = s.tt.crossing + 1 ∧ u.tt.turn = s.tt.turn) ∧
           (s.turnLen ≤ s.tt.crossing + 1 → u.tt.crossing = 0 ∧ u.tt.turn = (s.tt.turn + 1) % 2 ^ 32)))) ∧
  (∀ (s : State) (l : Fin 11) (n : BitVec 32),
       (s.clockLane = some l.val → Runs (.turnMarkerReceive l n) s fun t =>
         t.tt.markers = s.tt.markers ++ [(s.frame + 2 + s.fld (LN_TIMING l.val) 21 16, n.toNat)] ∧ { t with tt := s.tt } = s.toHub) ∧
       (s.clockLane ≠ some l.val → Runs (.turnMarkerReceive l n) s fun t => t = s.toHub))

/-- TT_WRITE and TT_WIN_WRITE write slot entries and a window of the inactive bank, and nothing else.
TT_SET_LATENCY and TT_SET_CLOCK set their fields and nothing else of the register map.
TT_READ and TT_GET_TIMEBASE answer what stands in the registers and counters, and change nothing. -/
def Obligations.TimetableCommands : Prop :=
  ((∀ (s : State) (h : Hdr) (p : List Byte), Accepts s.toHub h 0x0301 → s.modeIn ttBankModes = true → p.length = 4 + 4 * pl p 1 1 → 1 ≤ pl p 1 1 →
       pl p 0 1 + pl p 1 1 ≤ 64 → plZero p 2 2 = true → (∀ i < pl p 1 1, pl p (4 + 4 * i) 4 &&& slotMask = pl p (4 + 4 * i) 4 ∧ breaksR45 (pl p (4 + 4 * i) 4) = false) →
       Replies (.ttWrite h p) s h 0x0301 [] fun t => (∀ i < pl p 1 1, t.reg (TT_SLOT (pl p 0 1 + i)) = pl p (4 + 4 * i) 4) ∧
         Touches ((List.range (pl p 1 1)).map fun i => TT_SLOT (pl p 0 1 + i)) s.toHub t) ∧
     (∀ (s : State) (h : Hdr) (p : List Byte), Accepts s.toHub h 0x0302 → s.modeIn ttBankModes = true → p.length = 12 → pl p 0 1 ≤ 15 → plZero p 1 3 = true →
       pl p 4 2 ≤ pl p 6 2 → pl p 8 4 &&& 0x80F7FF1F = pl p 8 4 → breaksR45 (pl p 8 4) = false →
       Replies (.ttWinWrite h p) s h 0x0302 [] fun t => t.reg (TT_WIN_RANGE (pl p 0 1)) = pl p 6 2 * 65536 + pl p 4 2 ∧
         t.reg (TT_WIN_ACT (pl p 0 1)) = pl p 8 4 ∧ Touches [TT_WIN_RANGE (pl p 0 1), TT_WIN_ACT (pl p 0 1)] s.toHub t)) ∧
  ((∀ (s : State) (h : Hdr) (p : List Byte), Accepts s.toHub h 0x0306 → Alone s.toHub → s.modeIn ttBankModes = true → p.length = 4 → plZero p 1 3 = true →
       (if s.joined then 24 else 18) ≤ pl p 0 1 → pl p 0 1 ≤ 48 →
       Replies (.ttSetLatency h p) s h 0x0306 [] fun t => t.fld TT_LAT 5 0 = pl p 0 1 ∧ t.fld TT_LAT 13 8 = s.fld TT_LAT 13 8 ∧ Touches [TT_LAT] s.toHub t) ∧
     (∀ (s : State) (h : Hdr) (p : List Byte), Accepts s.toHub h 0x0307 → s.modeIn ttClockModes = true → p.length = 8 → plZero p 2 2 = true →
       pl p 0 1 ≤ 2 → pl p 1 1 ≤ 1 → 0x99999A ≤ pl p 4 4 → pl p 4 4 ≤ 0x1000000 →
       Replies (.ttSetClock h p) s h 0x0307 [] fun t => t.fld TT_CLOCK 1 0 = pl p 0 1 ∧ t.fld TT_CLOCK 4 4 = pl p 1 1 ∧ t.fld TT_XO_RATIO 24 0 = pl p 4 4 ∧
         t.fld TT_STATUS 5 4 = pl p 0 1 ∧ Touches [TT_CLOCK, TT_XO_RATIO, TT_STATUS] s.toHub { t with tt := s.tt, tm := s.tm, lanes := s.lanes, pr := s.pr })) ∧
  ((∀ (s : State) (h : Hdr) (p : List Byte), Accepts s.toHub h 0x0304 → p.length = 4 → plZero p 3 1 = true → pl p 0 1 ≤ 1 → 1 ≤ pl p 2 1 → pl p 1 1 + pl p 2 1 ≤ 64 →
       Replies (.ttRead h p) s h 0x0304 (words ((List.range (pl p 2 1)).map fun i =>
         s.reg (if pl p 0 1 = 0 then TT_ACT_SLOT (pl p 1 1 + i) else TT_SLOT (pl p 1 1 + i)))) fun t => Touches [] s.toHub t) ∧
     (∀ (s : State) (h : Hdr), Accepts s.toHub h 0x0308 →
       Replies (.ttGetTimebase h []) s h 0x0308 (leBytes 2 s.tt.crossing ++ [0, 0] ++ leBytes 4 s.tt.turn ++ leBytes 4 (s.reg TT_FRATE) ++ leBytes 4 (s.reg TT_STATUS))
         fun t => Touches [] s.toHub t))

/-- R45: a slot entry or window action word that sets both PULSE and PROVE is refused with BAD_ARG, whatever else is well formed. -/
def Obligations.PulseWithProveIsRefused : Prop :=
  (∀ (s : State) (h : Hdr) (p : List Byte), Accepts s.toHub h 0x0301 → p.length = 4 + 4 * pl p 1 1 → (∃ i < pl p 1 1, breaksR45 (pl p (4 + 4 * i) 4) = true) →
    Refuses (.ttWrite h p) s h 0x0301 stBAD_ARG) ∧
  (∀ (s : State) (h : Hdr) (p : List Byte), Accepts s.toHub h 0x0302 → p.length = 12 → breaksR45 (pl p 8 4) = true →
    Refuses (.ttWinWrite h p) s h 0x0302 stBAD_ARG)

/-- A swap is requested by TT_SWAP, whose answer waits, or by TT_CTRL.SWAP_REQ; at crossing 0 of a turn after the request's it exchanges the banks when no
enabled window of the inactive bank fails, and is refused with the active bank left in use when one does (R46, R47). -/
def Obligations.TimetableSwap : Prop :=
  (∀ (s : State) (h : Hdr), Accepts s.toHub h 0x0303 → Alone s.toHub → s.modeIn ttBankModes = true → s.bit TT_STATUS 1 = false →
    Runs (.ttSwap h []) s fun t => Waits t h 0x0303 0 [] ∧ t.bit TT_STATUS 1 = true ∧ t.tt = { s.tt with swapAsk := s.frame } ∧
      Touches [TT_STATUS] s.toHub { t with tt := s.tt }) ∧
  (∀ s : State, s.modeIn ttBankModes = true →
    Runs .ttCtrlSwapReq s fun t => t.bit TT_STATUS 1 = true ∧
      (s.bit TT_STATUS 1 = false → t.tt = { s.tt with swapAsk := s.frame } ∧ Touches [TT_STATUS] s.toHub { t with tt := s.tt }) ∧
      (s.bit TT_STATUS 1 = true → t = s.toHub)) ∧
  (∀ s : State, s.bit TT_STATUS 1 = true → s.tt.crossing = 0 → s.tt.swapAsk < s.frame → s.anyWinBad = false →
    Runs .ttBankSwapApply s fun t => t.bit TT_STATUS 1 = false ∧ t.bit TT_STATUS 0 = !s.bit TT_STATUS 0 ∧
      (∀ i < 64, t.reg (TT_SLOT i) = s.reg (TT_ACT_SLOT i) % 2 ^ 32 ∧ t.reg (TT_ACT_SLOT i) = s.reg (TT_SLOT i) % 2 ^ 32) ∧
      (∀ k < 16, t.reg (TT_WIN_RANGE k) = s.reg (TT_ACT_WIN_RANGE k) % 2 ^ 32 ∧ t.reg (TT_ACT_WIN_RANGE k) = s.reg (TT_WIN_RANGE k) % 2 ^ 32 ∧
        t.reg (TT_WIN_ACT k) = s.reg (TT_ACT_WIN_ACT k) % 2 ^ 32 ∧ t.reg (TT_ACT_WIN_ACT k) = s.reg (TT_WIN_ACT k) % 2 ^ 32)) ∧
  (∀ s : State, s.bit TT_STATUS 1 = true → s.tt.crossing = 0 → s.tt.swapAsk < s.frame → s.anyWinBad = true →
    Runs .ttBankSwapApply s fun t => t.bit TT_STATUS 1 = false ∧ Touches [TT_STATUS] s.toHub t) ∧
  (∀ s : State, s.bit TT_STATUS 1 = false ∨ s.tt.crossing ≠ 0 ∨ s.frame ≤ s.tt.swapAsk → Runs .ttBankSwapApply s fun t => t = s.toHub)

/-- R38: a read of TT_CROSSING gives the crossing of the present frame and latches the turn counter of the same frame into TT_TURN_SNAP; a read of
TT_TURN_SNAP gives the latched value, and a frame tick leaves it as it is, also where it ends a turn. -/
def Obligations.CrossingReadLatchesTurn : Prop :=
  (∀ s : State, Runs .ttCrossingRead s fun t => t.reg TT_TURN_SNAP = s.tt.turn % 2 ^ 32 ∧ t.tt = s.tt ∧ Touches [TT_TURN_SNAP] s.toHub t) ∧
  (∀ (s : Hub) (m : Nat), s.regValue m TT_CROSSING = s.tt.crossing ∧ s.regValue m TT_TURN_SNAP = s.reg TT_TURN_SNAP) ∧
  (∀ (s : Hub) (i : TickIn), (s.ttTick i).reg TT_TURN_SNAP = s.reg TT_TURN_SNAP)

/-- R40, R41, R44: the effective action of a crossing is the bitwise OR of slot entry c mod 64 and of every enabled window that spans the crossing in
a turn its period divides, of the bank in use (the other one's tables where a swap takes effect at this crossing). Of BLANK, CAL, PULSE and PROVE,
each in the modes it acts in (R43), the first in this order is performed and the others are suppressed, each suppressed action adding 1 to its
saturating counter; FLUSH_MASK and HK are never suppressed. `pin` is the BLANK pin, which counts as a BLANK where it is enabled. -/
def Obligations.EffectiveAction : Prop :=
  (∀ (s : Hub) (c t i : Nat), bitAt slotMask i = true →
    let slot := fun k => s.reg (if s.swapsNow then TT_SLOT k else TT_ACT_SLOT k)
    let range := fun k => s.reg (if s.swapsNow then TT_WIN_RANGE k else TT_ACT_WIN_RANGE k)
    let act := fun k => s.reg (if s.swapsNow then TT_WIN_ACT k else TT_ACT_WIN_ACT k)
    (bitAt (s.effective c t) i = true ↔ bitAt (slot (c % 64)) i = true ∨
      ∃ k < 16, bitAt (act k) 31 = true ∧ bits (range k) 15 0 ≤ c ∧ c ≤ bits (range k) 31 16 ∧ t % 2 ^ bits (act k) 23 20 = 0 ∧ bitAt (act k) i = true)) ∧
  (∀ (s : Hub) (pin : Bool),
    let w := s.effective s.tt.crossing s.tt.turn
    let t := s.formAction pin
    let b := s.modeIn [mRUN, mPULSE, mHOLD] && (bitAt w 0 || (pin && s.bit TT_CTRL 4))
    let c := s.modeIn [mPREPARE, mRUN, mPULSE, mHOLD, mTEST] && bitAt w 1
    let u := s.modeIn [mPULSE] && bitAt w 2
    let v := s.modeIn [mPULSE] && bitAt w 3
    t.now.blank = b ∧ t.now.cal = (c && !b) ∧ t.now.pulse = (u && !b && !c) ∧ t.now.prove = (v && !b && !c && !u) ∧
    t.fld TT_SUPP0 15 0 = (if c && b then min (s.fld TT_SUPP0 15 0 + 1) 65535 else s.fld TT_SUPP0 15 0) ∧
    t.fld TT_SUPP0 31 16 = (if u && (b || c) then min (s.fld TT_SUPP0 31 16 + 1) 65535 else s.fld TT_SUPP0 31 16) ∧
    t.fld TT_SUPP1 15 0 = (if v && (b || c || u) then min (s.fld TT_SUPP1 15 0 + 1) 65535 else s.fld TT_SUPP1 15 0) ∧
    t.now.flush = (if s.modeIn [mRUN, mPULSE, mHOLD] then bits w 15 8 else 0) ∧ t.now.hk = bitAt w 4)

/-! ### Charge channels (03) -/

/-- The CHAN setting commands, answered with the first crossing under the setting: EN, the target trim and RANGE_MODE of the channels named,
and the fields of AFE_CTRL. No other register changes.
CHAN_SET_SKEW sets the signed 6-bit skew of each channel named to the byte given, −32 to +31 (R84, R90). -/
def Obligations.ChannelSettings : Prop :=
  ((∀ (s : State) (h : Hdr) (p : List Byte), Accepts s.toHub h 0x0401 → Alone s.toHub → s.asy.engine = 2 → p.length = 68 → maskHigh p = 0 → pl p 64 1 ≤ 1 →
       plZero p 65 3 = true → Replies (.chanEnable h p) s h 0x0401 s.firstCross fun t =>
         (∀ n < 256, bitAt (maskBits p) n = true → t.bit (AFE_CH_CFG n) 0 = (pl p 64 1 == 1)) ∧
         (∀ n < 256, bitAt (maskBits p) n = false → t.reg (AFE_CH_CFG n) = s.reg (AFE_CH_CFG n)) ∧
         Touches ((List.range 256).map AFE_CH_CFG) s.toHub { t with chans := s.chans }) ∧
     (∀ (s : State) (h : Hdr) (p : List Byte), Accepts s.toHub h 0x0402 → Alone s.toHub → s.asy.engine = 2 → p.length = 4 + pl p 2 2 → 1 ≤ pl p 2 2 →
       pl p 0 2 + pl p 2 2 ≤ 256 → Replies (.chanSetTrim h p) s h 0x0402 s.firstCross fun t =>
         (∀ i < pl p 2 2, t.fld (AFE_CH_CFG (pl p 0 2 + i)) 15 8 = pl p (4 + i) 1) ∧
         Touches ((List.range (pl p 2 2)).map fun i => AFE_CH_CFG (pl p 0 2 + i)) s.toHub { t with chans := s.chans }) ∧
     (∀ (s : State) (h : Hdr) (p : List Byte), Accepts s.toHub h 0x0404 → Alone s.toHub → s.asy.engine = 2 → p.length = 68 → maskHigh p = 0 →
       (pl p 64 1 = 0 ∨ pl p 64 1 = 4 ∨ pl p 64 1 = 5 ∨ pl p 64 1 = 6) → plZero p 65 3 = true → s.modeIn [mRUN, mPULSE] = false →
       Replies (.chanSetRange h p) s h 0x0404 s.firstCross fun t =>
         (∀ n < 256, bitAt (maskBits p) n = true → t.fld (AFE_CH_CFG n) 26 24 = pl p 64 1) ∧
         (∀ n < 256, bitAt (maskBits p) n = false → t.reg (AFE_CH_CFG n) = s.reg (AFE_CH_CFG n)) ∧
         Touches ((List.range 256).map AFE_CH_CFG) s.toHub t) ∧
     (∀ (s : State) (h : Hdr) (p : List Byte), Accepts s.toHub h 0x0406 → s.asy.engine = 2 → p.length = 4 → 1 ≤ pl p 0 1 → pl p 0 1 ≤ 15 → 1 ≤ pl p 1 1 →
       pl p 1 1 ≤ 8 → 1 ≤ pl p 2 1 → pl p 2 1 ≤ 15 → 1 ≤ pl p 3 1 → s.modeIn [mRUN, mPULSE] = false →
       Replies (.chanSetAfe h p) s h 0x0406 s.firstCross fun t => t.fld AFE_CTRL 3 0 = pl p 0 1 ∧ t.fld AFE_CTRL 6 4 = pl p 1 1 - 1 ∧
         t.fld AFE_CTRL 19 16 = pl p 2 1 ∧ t.fld AFE_CTRL 15 8 = pl p 3 1 ∧ t.bit AFE_CTRL 20 = s.bit AFE_CTRL 20 ∧ Touches [AFE_CTRL] s.toHub t)) ∧
  (∀ (s : State) (h : Hdr) (p : List Byte), Accepts s.toHub h 0x0403 → Alone s.toHub → s.asy.engine = 2 → p.length = 4 + pl p 2 2 → 1 ≤ pl p 2 2 →
       pl p 0 2 + pl p 2 2 ≤ 256 → (∀ i < pl p 2 2, -32 ≤ toS 8 (pl p (4 + i) 1) ∧ toS 8 (pl p (4 + i) 1) ≤ 31) → s.modeIn [mRUN, mPULSE] = false →
       Replies (.chanSetSkew h p) s h 0x0403 s.firstCross fun t =>
         (∀ i < pl p 2 2, toS 6 (t.fld (AFE_CH_CFG (pl p 0 2 + i)) 21 16) = toS 8 (pl p (4 + i) 1)) ∧
         Touches ((List.range (pl p 2 2)).map fun i => AFE_CH_CFG (pl p 0 2 + i)) s.toHub t)

/-- CHAN_RESET closes the switch of each enabled channel named from the next tick for FRAMES frames, or extends a closure; CHAN_GET_STATUS and
CHAN_GET_ADC_MAP answer from the registers and change nothing. -/
def Obligations.ChannelResetAndReads : Prop :=
  (∀ (s : State) (h : Hdr) (p : List Byte), Accepts s.toHub h 0x0405 → Alone s.toHub → s.asy.engine = 2 → p.length = 68 → maskHigh p = 0 → 1 ≤ pl p 64 1 →
    pl p 64 1 ≤ 8 → plZero p 65 3 = true → s.mode ≠ mIDLE →
    Replies (.chanReset h p) s h 0x0405 s.firstCross fun t =>
      (∀ n < 256, bitAt (maskBits p) n = true → s.bit (AFE_CH_CFG n) 0 = true →
        (t.chan n).closeTo = max (s.chan n).closeTo (s.frame + 1 + pl p 64 1) ∧
        (t.chan n).closeFrom = if s.bit (AFE_CH_STAT n) 18 then (s.chan n).closeFrom else s.frame + 1) ∧
      (∀ n, bitAt (maskBits p) n = false ∨ s.bit (AFE_CH_CFG n) 0 = false → t.chan n = s.chan n) ∧ Touches [] s.toHub { t with chans := s.chans }) ∧
  (∀ (s : State) (h : Hdr) (p : List Byte), Accepts s.toHub h 0x0407 → Alone s.toHub → p.length = 4 → 1 ≤ pl p 2 2 → pl p 0 2 + pl p 2 2 ≤ 256 →
    Replies (.chanGetStatus h p) s h 0x0407 (words ((List.range (pl p 2 2)).map fun i => s.chStat (pl p 0 2 + i))) fun t => Touches [] s.toHub t) ∧
  (∀ (s : State) (h : Hdr), Accepts s.toHub h 0x0408 →
    Replies (.chanGetAdcMap h []) s h 0x0408 (words [s.reg (AFE_ADC_MAP 0), s.reg (AFE_ADC_MAP 1), s.reg (AFE_ADC_MAP 2), s.reg (AFE_ADC_MAP 3),
      s.reg AFE_HO_FAIL, s.afeStatus]) fun t => Touches [] s.toHub t)

/-- RANGE_STEP_DOWN lowers H by 1 and clears the counter once HYST_COUNT is reached (R70); RESET_SWITCH_OPEN opens a switch whose closure has
run (R79); CHAN_RECOVERY_END ends the 4 frames of recovery (R83); TRIM_RAMP_STEP moves the applied trim one step toward its target (R67). -/
def Obligations.ChannelEvents : Prop :=
  (∀ (s : State) (n : Fin 256), 1 ≤ (s.chan n.val).h → 1 ≤ (s.chan n.val).dn → s.afld AFE_CTRL 3 0 ≤ (s.chan n.val).dn →
    Runs (.rangeStepDown n) s fun t => (t.chan n.val).h = (s.chan n.val).h - 1 ∧ (t.chan n.val).dn = 0 ∧ (∀ m, m ≠ n.val → t.chan m = s.chan m) ∧
      { t with chans := s.chans } = s.toHub) ∧
  (∀ (s : State) (n : Fin 256), s.bit (AFE_CH_STAT n.val) 18 = true → (s.chan n.val).closeTo ≤ s.frame →
    Runs (.resetSwitchOpen n) s fun t => t.bit (AFE_CH_STAT n.val) 18 = false ∧ (t.chan n.val).recTo = s.frame + 1 ∧
      Touches [AFE_CH_STAT n.val] s.toHub { t with chans := s.chans }) ∧
  (∀ (s : State) (n : Fin 256), (s.chan n.val).enTo ≠ 0 → (s.chan n.val).enTo ≤ s.frame →
    Runs (.chanRecoveryEnd n) s fun t => (t.chan n.val).enTo = 0 ∧ (∀ m, m ≠ n.val → t.chan m = s.chan m) ∧ { t with chans := s.chans } = s.toHub) ∧
  (∀ (s : State) (n : Fin 256) (f : Nat), (s.chan n.val).rampNext = some f → f ≤ s.frame → s.bit PAIR_STATUS 15 = false →
    s.fld (AFE_CH_STAT n.val) 31 24 ≠ s.fld (AFE_CH_CFG n.val) 15 8 →
    Runs (.trimRampStep n) s fun t =>
      t.fld (AFE_CH_STAT n.val) 31 24 = (if s.fld (AFE_CH_STAT n.val) 31 24 < s.fld (AFE_CH_CFG n.val) 15 8 then s.fld (AFE_CH_STAT n.val) 31 24 + 1
        else s.fld (AFE_CH_STAT n.val) 31 24 - 1) ∧
      (t.chan n.val).rampNext = some (s.frame + s.afld AFE_CTRL 15 8) ∧ Touches [AFE_CH_STAT n.val] s.toHub { t with chans := s.chans })

/-- SAMPLE_CONVERSION: in a powered quadrant every sample of a disabled channel carries marker 0x0003, and in a quadrant that is not powered
every sample carries 0x0000 (R76, R77). An automatic sample that no marker claims is converted in the higher of the held range and the lowest range whose
path is not saturated, which becomes the held range, and linearised by R95 (R70). The counters, the settings in force and the frame are left alone. -/
def Obligations.ConversionMarksEveryChannel : Prop :=
  ∀ (s : State) (k : Fin 4) (xs : List SampleIn), s.hist ≠ [] →
    Runs (.sampleConversion k xs) s fun t =>
      (∀ n < 256, (s.quad (n / 64)).on = true → s.abit (AFE_CH_CFG n) 0 = false →
        (tget (fun _ => ({} : Samp)) t.now.samp (4 * n + k.val)).mark = 3 ∧ (tget (fun _ => ({} : Samp)) t.now.samp (4 * n + k.val)).lin = 0) ∧
      (∀ n < 256, (s.quad (n / 64)).on = false →
        (tget (fun _ => ({} : Samp)) t.now.samp (4 * n + k.val)).mark = 0 ∧ (tget (fun _ => ({} : Samp)) t.now.samp (4 * n + k.val)).lin = 0) ∧
      (∀ (n : Fin 256) (x : SampleIn) (m : Nat), (xs.find? fun y => y.ch == n) = some x → inMinRange x = some m → s.fixedRange n.val = none →
        s.forcedRange n.val = none → s.markOf n.val (s.chan n.val) false (s.calMarked n.val) = 7 →
        let v := tget (fun _ => ({} : Samp)) t.now.samp (4 * n.val + k.val)
        let r := max m (s.chan n.val).h
        v.mark = 7 ∧ v.rng = r ∧ (t.chan n.val).h = r ∧
          (inSat x r = false → v.lin = linearise s.asy.imgAct n.val r
            (deviation s.asy.imgAct (n.val / 64) (servingAdc (s.resting (n.val / 64)) (n.val % 64)) n.val r (inCode x r)))) ∧
      t.frame = s.frame ∧ t.act = s.act ∧ t.tt = s.tt

/-- R70, R72: an unmarked automatic sample is converted in the higher of the held range and the lowest range whose path is not saturated,
which then becomes the held range; after a marker the held range and the counter are 0. -/
def Obligations.RangeSelection : Prop :=
  ∀ (s : Hub) (n k : Nat) (x : SampleIn) (m : Nat), s.fixedRange n = none → s.forcedRange n = none → inMinRange x = some m →
    let v := s.convert n k x
    inSat x m = false ∧ (∀ r < m, inSat x r = true) ∧
    (v.samp.mark = 7 → v.samp.rng = max m (s.chan n).h ∧ v.chan.h = max m (s.chan n).h) ∧
    (v.samp.mark ≠ 7 → v.chan.h = 0 ∧ v.chan.dn = 0 ∧ v.samp.lin = 0)

/-- A handover: the resting ADC is connected once nothing holds the quadrant back (R118); after 64 agreeing samples it takes the channel over
and the rest moves one place, up or down (R86); after 1024 frames without them it is withdrawn (R87); a calibration of the resting ADC that passes gives
its new offset, the mean deviation of 4096 conversions from code 8192 in 1/16 code (R116, R117); a quadrant with a retired ADC calibrates none (R120).
That the timer of the rotation is 0 after an attempt is the model's choice (log entry 187). -/
def Obligations.SpareAdcHandover : Prop :=
  (∀ (s : State) (q : Fin 4), (s.quad q.val).on = true → (s.quad q.val).conn = none → (s.quad q.val).calDone = true → s.bit CAL_CTRL 1 = true →
    s.bit (AFE_ADC_MAP q.val) 15 = false → s.calRunning q.val = false → s.now.warn = false → 1024 * (s.quad q.val).period ≤ (s.quad q.val).timer →
    Runs (.handoverAttempt q) s fun t => (t.quad q.val).conn = some s.frame ∧ (t.quad q.val).agree = 0 ∧ (t.quad q.val).timer = 0 ∧
      t.regs = s.regs ∧ { t with quads := s.quads, asy := s.asy } = s.toHub) ∧
  (∀ (s : State) (q : Fin 4), (s.quad q.val).conn.isSome = true → 64 ≤ (s.quad q.val).agree → s.resting q.val < 64 → s.bit (AFE_ADC_MAP q.val) 7 = false →
    Runs (.handoverTakeover q) s fun t => t.resting q.val = s.resting q.val + 1 ∧ t.bit (AFE_ADC_MAP q.val) 7 = decide (s.resting q.val = 63) ∧
      t.fld (AFE_ADC_MAP q.val) 31 16 = (s.fld (AFE_ADC_MAP q.val) 31 16 + 1) % 65536 ∧ (t.quad q.val).conn = none ∧
      (t.chan (64 * q.val + s.resting q.val)).newAdc = true ∧ Touches [AFE_ADC_MAP q.val] s.toHub { t with quads := s.quads, chans := s.chans }) ∧
  (∀ (s : State) (q : Fin 4), (s.quad q.val).conn.isSome = true → 64 ≤ (s.quad q.val).agree → 1 ≤ s.resting q.val → s.resting q.val ≤ 64 →
    s.bit (AFE_ADC_MAP q.val) 7 = true →
    Runs (.handoverTakeover q) s fun t => t.resting q.val = s.resting q.val - 1 ∧ t.bit (AFE_ADC_MAP q.val) 7 = decide (s.resting q.val ≠ 1) ∧
      t.fld (AFE_ADC_MAP q.val) 31 16 = (s.fld (AFE_ADC_MAP q.val) 31 16 + 1) % 65536 ∧ (t.quad q.val).conn = none ∧
      (t.chan (64 * q.val + s.resting q.val - 1)).newAdc = true ∧ Touches [AFE_ADC_MAP q.val] s.toHub { t with quads := s.quads, chans := s.chans }) ∧
  (∀ (s : State) (q : Fin 4) (f : Nat), (s.quad q.val).conn = some f → (s.quad q.val).agree < 64 → f + 1024 ≤ s.frame →
    Runs (.handoverWithdraw q) s fun t => (t.quad q.val).conn = none ∧ (t.quad q.val).agree = 0 ∧ (t.quad q.val).fails = (s.quad q.val).fails ∧
      { t with quads := s.quads } = s.toHub) ∧
  (∀ (s : State) (q : Fin 4) (r : AdcCalIn) (f : Nat), (s.quad q.val).calStart = some f → (s.quad q.val).on = true → (s.quad q.val).calDone = false →
    f + 40960 ≤ s.frame → s.bit (AFE_ADC_MAP q.val) 15 = false →
    let ofs := rdiv (16 * ((r.codes : Int) - 4096 * 8192)) 4096
    (∃ g ∈ r.gains, g.natAbs ≤ imgGet s.asy.imgAct 0x320 2) → ofsPlausible ofs = true →
    (ofs - ofsOf s.asy.imgAct q.val (s.resting q.val)).natAbs ≤ imgGet s.asy.imgAct 0x31E 2 →
    Runs (.adcCalComplete q r) s fun t => (t.quad q.val).calDone = true ∧ (t.quad q.val).newOfs = ofs ∧ (t.quad q.val).fails = (s.quad q.val).fails ∧
      { t with quads := s.quads } = s.toHub) ∧
  (∀ (s : State) (q : Fin 4) (r : AdcCalIn), s.bit (AFE_ADC_MAP q.val) 15 = true → Runs (.adcCalComplete q r) s fun t => t = s.toHub)

/-! ### The Assay partition (04) -/

/-- The ASSAY commands that only read: each answers from the partition, and each but ASSAY_CHALLENGE, which makes a fresh nonce, ends the
validity of a nonce (R112); that one refused for its length ends it too is the model's reading (log entry 37). -/
def Obligations.AssayReads : Prop :=
  (∀ (s : State) (h : Hdr), Accepts s.toHub h 0x1001 → s.asy.engine = 2 →
    Replies (.assayStatus h []) s h 0x1001 (words [s.asyStatus, s.asySeal, s.asyBank, s.asy.seqA, s.asy.seqB, s.asyStore]) fun t =>
      t.asy.nonce = none ∧ Touches [] s.toHub { t with asy := s.asy }) ∧
  (∀ (s : State) (h : Hdr) (p : List Byte), Accepts s.toHub h 0x1001 → p ≠ [] → Runs (.assayStatus h p) s fun t => Answered t h 0x1001 stBAD_LEN [] ∧
    t.asy = { s.asy with nonce := none } ∧ Touches [] s.toHub { t with asy := s.asy }) ∧
  (∀ (s : State) (h : Hdr), Accepts s.toHub h 0x1002 → s.asy.engine = 2 →
    Replies (.assayChallenge h []) s h 0x1002
      (leBytes 16 (Config.nonce s.free).toNat ++ leBytes 8 Config.deviceId.toNat ++ [BitVec.ofNat 8 s.asy.otp]) fun t =>
      t.asy = { s.asy with nonce := some ((Config.nonce s.free).toNat, (s.xo, s.asy.otp)) } ∧ Touches [] s.toHub { t with asy := s.asy, free := s.free }) ∧
  (∀ (s : State) (h : Hdr) (p : List Byte), Accepts s.toHub h 0x1007 → s.asy.engine = 2 → s.asy.storing = none → p.length = 6 → pl p 0 1 ≤ 1 → plZero p 1 1 = true →
    1 ≤ pl p 4 2 → pl p 4 2 ≤ 1024 → pl p 2 2 + pl p 4 2 ≤ 0x1738 →
    Replies (.assayReadBank h p) s h 0x1007 (s.bankBytes (pl p 0 1) (pl p 2 2) (pl p 4 2)) fun t =>
      t.asy = { s.asy with nonce := none } ∧ Touches [] s.toHub { t with asy := s.asy }) ∧
  (∀ (s : State) (h : Hdr) (b : Nat), Accepts s.toHub h 0x1008 → s.asy.engine = 2 → s.asy.bankInUse = some b →
    Replies (.assayGetHallmark h []) s h 0x1008
      (s.bankBytes b 0x14 32 ++ s.bankBytes b 0x34 32 ++ s.bankBytes b 0x54 32 ++ [BitVec.ofNat 8 (s.nor (0x4000 * b + 0x10)), 0, 0, 0] ++
        leBytes 8 Config.deviceId.toNat) fun t => t.asy = { s.asy with nonce := none } ∧ Touches [] s.toHub { t with asy := s.asy })

/-- The seal: ASSAY_OPEN opens it when SEAL_EN has been high for two ticks and the owner's signature is good, and is DENIED otherwise, also with SEAL_EN low or
high for fewer than two ticks (R107, R112);
ASSAY_SEAL closes it at once when nothing changed, and starts a renewal otherwise (R108); SEAL_EN falling closes it without renewal (R109),
but in LOADING, where the partition is in retention: that it then acts on nothing is the model's reading (log entry 40); a nonce lives 1 s (R112). -/
def Obligations.SealOpensAndCloses : Prop :=
  (∀ (s : State) (h : Hdr) (p : List Byte), Accepts s.toHub h 0x1003 → s.asy.engine = 2 → p.length = 128 → 2 ≤ s.asy.sealEnRun → s.asy.sealSt ≠ 1 →
    s.asy.otp < 32 → s.modeIn [mIDLE, mPREPARE, mHOLD, mTEST] = true →
    Runs (.assayOpen h p) s fun t => t.asy.nonce = none ∧ Touches [] s.toHub { t with asy := s.asy } ∧
      if s.openSigned p then Answered t h 0x1003 stOK [] ∧ t.asy.sealSt = 1 else Answered t h 0x1003 stDENIED [] ∧ t.asy.sealSt = s.asy.sealSt) ∧
  (∀ (s : State) (h : Hdr) (p : List Byte), Accepts s.toHub h 0x1003 → s.asy.engine = 2 → p.length = 128 → s.asy.sealEnRun < 2 →
    Runs (.assayOpen h p) s fun t => Answered t h 0x1003 stDENIED [] ∧ t.asy = { s.asy with nonce := none } ∧ Touches [] s.toHub { t with asy := s.asy }) ∧
  (∀ (s : State) (h : Hdr), Accepts s.toHub h 0x1004 → s.asy.engine = 2 → s.asy.sealSt = 1 → s.asy.storing = none → s.bit RP_SUPPLY 8 = false →
    Runs (.assaySeal h []) s fun t => Touches [] s.toHub { t with asy := s.asy } ∧
      if s.unchanged then (∃ pay, Answered t h 0x1004 stOK pay) ∧ t.asy.sealSt = 0 ∧ t.asy.nor = s.asy.nor ∧ t.asy.otp = s.asy.otp
      else Waits t h 0x1004 2 [] ∧ t.asy.sealSt = 1 ∧ ∃ x, t.asy.storing = some x ∧ x.kind = 1) ∧
  (∀ s : State, s.mode = mLOADING → Runs .sealEnFall s fun t => t = s.toHub) ∧
  (∀ s : State, s.mode ≠ mLOADING → s.asy.sealSt = 1 → s.asy.sealEn = false →
    Runs .sealEnFall s fun t => t.asy.sealSt = (if s.unchanged then 0 else 2) ∧ t.asy.otp = s.asy.otp ∧ t.asy.nor = s.asy.nor ∧
      Touches [] s.toHub { t with asy := s.asy }) ∧
  (∀ (s : State) (n t0 otp : Nat), s.asy.nonce = some (n, (t0, otp)) → t0 + 40000000 ≤ s.xo →
    Runs .nonceExpire s fun t => t.asy = { s.asy with nonce := none } ∧ { t with asy := s.asy } = s.toHub)

/-- The reference block is written by ASSAY_WRITE_REF and by CAL_REF while the seal is OPEN, but for its reserved bytes, which hold 0 (R127); a CAL_REF write
while it is not, or in LOADING, is ignored (R7, R113, R134), and one while the Assay engine is not ready is a request that it does not take (R17, R94); a
command then waits for the engine. -/
def Obligations.ReferenceBlockWrites : Prop :=
  (∀ (s : State) (h : Hdr) (p : List Byte), Accepts s.toHub h 0x1005 → s.asy.engine = 2 → p.length = 4 + pl p 2 2 → 1 ≤ pl p 2 2 → pl p 0 2 + pl p 2 2 ≤ 1024 →
    (s.asy.sealSt = 1 → Replies (.assayWriteRef h p) s h 0x1005 [] fun t =>
      (∀ i < pl p 2 2, tget nominalByte t.asy.img (0x100 + pl p 0 2 + i) = if refReserved (0x100 + pl p 0 2 + i) then 0 else pl p (4 + i) 1) ∧
      (∀ a, a < 0x100 + pl p 0 2 ∨ 0x100 + pl p 0 2 + pl p 2 2 ≤ a → tget nominalByte t.asy.img a = tget nominalByte s.asy.img a) ∧
      Touches [] s.toHub { t with asy := s.asy }) ∧
    (s.asy.sealSt ≠ 1 → Runs (.assayWriteRef h p) s fun t => Answered t h 0x1005 stSEALED [] ∧ t.asy.img = s.asy.img ∧ Touches [] s.toHub { t with asy := s.asy })) ∧
  (∀ (s : State) (h : Hdr) (p : List Byte), Defers s.toHub h 0x1005 → s.asy.engine ≠ 2 → p.length = 4 + pl p 2 2 →
    Runs (.assayWriteRef h p) s fun t => Waits t h 0x1005 1 p ∧ t.asy = { s.asy with nonce := none } ∧ Touches [] s.toHub { t with asy := s.asy }) ∧
  (∀ (s : State) (i : Fin 256) (w : BitVec 32),
    (s.mode ≠ mLOADING → s.asy.engine = 2 → s.asy.sealSt = 1 → Runs (.calRefWrite i w) s fun t =>
      (∀ j < 4, tget nominalByte t.asy.img (0x100 + 4 * i.val + j) = if refReserved (0x100 + 4 * i.val + j) then 0 else w.toNat / 256 ^ j % 256) ∧
      { t with asy := s.asy } = s.toHub) ∧
    (s.asy.sealSt ≠ 1 ∨ s.mode = mLOADING ∨ s.asy.engine ≠ 2 → Runs (.calRefWrite i w) s fun t => t = s.toHub))

/-- Stores: ASSAY_STORE starts one, its answer waiting for the end; a held store starts when nothing defers it; a store that reads back good has programmed its
bank with COMMIT and makes it the one in use; one that does not is retried once, then fails and leaves its bank without COMMIT (R99), with the bytes it was programmed
with, which is the model's reading (log entry 38); a request that waits 1 ms for the engine is answered TIMEOUT. -/
def Obligations.AssayStores : Prop :=
  (∀ (s : State) (h : Hdr), Accepts s.toHub h 0x1006 → s.asy.engine = 2 → s.storeDeferred = false →
    Runs (.assayStore h []) s fun t => Waits t h 0x1006 2 [] ∧ (∃ x, t.asy.storing = some x ∧ x.kind = 0 ∧ x.bank = s.storeTarget.1 ∧ x.retried = false) ∧
      t.asy.img = s.asy.img ∧ Touches [] s.toHub { t with asy := s.asy }) ∧
  (∀ s : State, s.mode ≠ mLOADING → s.asy.pending = true → s.storeDeferred = false →
    Runs .storePendingStart s fun t => t.asy.pending = false ∧
      (∃ x, t.asy.storing = some x ∧ x.kind = 0 ∧ x.image = (s.storeImage 0 s.asy.pendImg).zipIdx.map fun y => (y.2, y.1.toNat)) ∧ { t with asy := s.asy } = s.toHub) ∧
  (∀ (s : State) (x : Store), s.mode ≠ mLOADING → s.asy.storing = some x →
    (Runs (.assayStoreComplete true) s fun t => t.asy.storing = none ∧ t.asy.bankInUse = some x.bank ∧ t.asy.stores = (s.asy.stores + 1) % 65536 ∧
      t.asy.nor = norPuts (eraseBank s.asy.nor x.bank) (0x4000 * x.bank) (x.bytes ++ leBytes 4 0x434F4D54) ∧ t.asy.img = newHeader s.asy.img x ∧
      (x.kind = 1 → t.asy.sealSt = 0 ∧ t.asy.otp = min 32 (s.asy.otp + 1)) ∧ (x.kind ≠ 1 → t.asy.sealSt = s.asy.sealSt ∧ t.asy.otp = s.asy.otp) ∧
      Touches [CAL_STATUS] s.toHub { t with asy := s.asy }) ∧
    (x.retried = false → Runs (.assayStoreComplete false) s fun t => t.asy = { s.asy with storing := some { x with retried := true } } ∧ { t with asy := s.asy } = s.toHub) ∧
    (x.retried = true → Runs (.assayStoreComplete false) s fun t => t.asy.storing = none ∧ t.asy.bankInUse = s.asy.bankInUse ∧
      t.asy.nor = norPuts (eraseBank s.asy.nor x.bank) (0x4000 * x.bank) x.bytes ∧ t.asy.storeFail = min 255 (s.asy.storeFail + 1) ∧ Touches [] s.toHub { t with asy := s.asy })) ∧
  (∀ (s : State) (d : Def), s.mbx.deferred = [d] → waitsAssay d = true → d.since + 40000 ≤ s.xo → s.bit PAIR_STATUS 15 = false → s.mbx.both = [] →
    Runs .assayRequestTimeout s fun t => Answered t d.hdr d.op stTIMEOUT [] ∧ t.mbx.deferred = [] ∧ Touches [] s.toHub t)

/-! ### Calibration (05) -/

/-- The CAL commands: CAL_RUN names the quadrants for a run and waits for its start, CAL_ABORT ends their runs, CAL_CONFIG writes CAL_CTRL and
CAL_ROT, and CAL_GET_STATUS answers from the registers. Calibration runs: the temperatures are renewed every 65 536 frames (R121); quadrants
named or due start together when no run is in progress (R122); a run that has ended is judged, its cause recorded (R129); after 2^20 frames a
run is rejected with cause 6 unless the supply warning or a temperature drift comes first (R123, R129). The judgement of a completed run
(R128-R131, R137): a channel passes a range when it has the cycles and pedestal samples of R126, its S is positive, its noise and spread are
within the limits, and its candidates are plausible and no step too far, unless STEP_FREE lets them; with too many failing channels, the
supply warning or a drift the run is rejected and changes no constant, and otherwise the candidates of the channels that pass in all ranges
come into use with TREF, the mean of TNOW over the run, whose rounding is the model's choice (log entry 221). -/
def Obligations.Calibration : Prop :=
  ((∀ (s : State) (h : Hdr) (p : List Byte), Accepts s.toHub h 0x1201 → s.asy.engine = 2 → p.length = 4 → 1 ≤ pl p 0 1 → pl p 0 1 ≤ 15 → pl p 1 1 ≤ 1 →
       plZero p 2 2 = true → (∀ q < 4, bitAt (pl p 0 1) q = true → (s.calq q).run = none) → s.modeIn calModes = true →
       Runs (.calRun h p) s fun t => Waits t h 0x1201 (16 + pl p 0 1) p ∧
         (∀ q < 4, bitAt (pl p 0 1) q = true → (t.calq q).asked = some (pl p 1 1 == 1) ∧ t.bit CAL_STATUS (8 + q) = false) ∧
         (∀ q < 4, bitAt (pl p 0 1) q = false → t.calq q = s.calq q ∧ t.bit CAL_STATUS (8 + q) = s.bit CAL_STATUS (8 + q)) ∧
         Touches [CAL_STATUS] s.toHub { t with calQ := s.calQ }) ∧
     (∀ (s : State) (h : Hdr) (p : List Byte), Accepts s.toHub h 0x1202 → s.asy.engine = 2 → p.length = 4 → pl p 0 1 ≤ 15 → plZero p 1 3 = true →
       Replies (.calAbort h p) s h 0x1202 [] fun t => (∀ q < 4, bitAt (pl p 0 1) q = true → (t.calq q).run = none) ∧
         (∀ q < 4, bitAt (pl p 0 1) q = false → t.calq q = s.calq q)) ∧
     (∀ (s : State) (h : Hdr) (p : List Byte), Accepts s.toHub h 0x1203 → s.asy.engine = 2 → p.length = 8 → 8 ≤ pl p 0 1 → 1 ≤ pl p 1 1 → pl p 1 1 ≤ 31 →
       48 ≤ pl p 6 2 → pl p 2 1 ≤ 7 →
       Replies (.calConfig h p) s h 0x1203 [] fun t => t.fld CAL_CTRL 15 8 = pl p 0 1 ∧ t.fld CAL_CTRL 20 16 = pl p 1 1 ∧ t.fld CAL_CTRL 2 0 = pl p 2 1 ∧
         t.fld CAL_CTRL 31 24 = pl p 3 1 ∧ t.fld CAL_ROT 31 16 = pl p 4 2 ∧ t.fld CAL_ROT 15 0 = pl p 6 2 ∧ Touches [CAL_CTRL, CAL_ROT] s.toHub t) ∧
     (∀ (s : State) (h : Hdr), Accepts s.toHub h 0x1204 →
       Replies (.calGetStatus h []) s h 0x1204 (words ([s.calStatus] ++ (List.range 4).map s.calTemp ++ (List.range 4).map (fun q => s.reg (CAL_QSTAT q)) ++
         (List.range 8).map (fun i => s.reg (CAL_CHFAIL i)))) fun t => Touches [] s.toHub t)) ∧
  ((∀ (s : State) (t0 t1 t2 t3 : BitVec 16), Runs (.tnowUpdate t0 t1 t2 t3) s fun t =>
       (∀ q < 4, (s.calq q).tnowAt + 65536 ≤ s.frame → (t.calq q).tnow = [t0.toInt, t1.toInt, t2.toInt, t3.toInt].getD q 0 ∧ (t.calq q).tnowAt = s.frame) ∧
       (∀ q < 4, s.frame < (s.calq q).tnowAt + 65536 → t.calq q = s.calq q) ∧ { t with calQ := s.calQ } = s.toHub) ∧
     (∀ s : State, s.modeIn calModes = true → (∀ q < 4, (s.calq q).run = none) → (∃ q < 4, s.calStarts q = true) →
       Runs .calRunStart s fun t =>
         (∀ q < 4, s.calStarts q = true → (t.calq q).asked = none ∧ ∃ r, (t.calq q).run = some r ∧ r.start = s.frame ∧ r.r = 0 ∧ r.phase = 0 ∧ r.ended = none) ∧
         (∀ q < 4, s.calStarts q = false → t.calq q = s.calq q) ∧ Touches [] s.toHub { t with calQ := s.calQ }) ∧
     (∀ (s : State) (q : Fin 4) (r : CalRun), (s.calq q.val).run = some r → 3 ≤ r.phase ∨ r.ended.isSome = true →
       Runs (.calRunEnd q) s fun t => (t.calq q.val).run = none ∧ (t.calq q.val).turns = some (b2n (r.ended.isNone && r.lastTurn != s.tt.turn)) ∧
         (∀ c < 16, r.ended = some c → t.fld (CAL_QSTAT q.val) 7 4 =
           if r.warn then 2 else if 2 * (r.tEnd - r.tStart).natAbs > calDelta r.ctrl then 3 else c) ∧ t.chans = s.chans ∧ t.frame = s.frame) ∧
     (∀ (s : State) (q : Fin 4) (r : CalRun), (s.calq q.val).run = some r → r.phase < 3 → r.ended = none → r.start + 2 ^ 20 ≤ s.frame →
       Runs (.calRunTimeout q) s fun t => (t.calq q.val).run = none ∧ t.fld (CAL_QSTAT q.val) 7 4 =
         (if r.warn || s.now.warn then 2 else if 2 * ((s.calq q.val).tnow - r.tStart).natAbs > calDelta r.ctrl then 3 else 6))) ∧
  ((∀ (s : Hub) (x : CalRun) (n r : Nat),
       let a := x.accOf n r
       let sum := a.cycles.foldl (· + ·) 0
       let S := sum * (a.n : Int) - 16 * a.sv * (a.cycles.length : Int)
       let ped := pedOf s.asy.imgAct n r + rdiv a.sd (a.n : Int)
       let gain := rdiv ((gainOf s.asy.imgAct n r : Int) * (4 * (8 ^ r : Nat) * (qinjOf s.asy.imgAct (n / 64) : Int) * (refGainOf s.asy.imgAct n : Int)) *
         (a.cycles.length : Int) * (a.n : Int)) (256 * 16384 * S)
       s.candidate x n r = none ↔
         2 * a.cycles.length < calInj x.ctrl ∨ a.n < 128 ∨ S ≤ 0 ∨
         (s.lim (0x314 + 2 * r) : Int) ^ 2 * (a.n : Int) ^ 2 < (a.n : Int) * a.sdd - a.sd ^ 2 ∨
         (s.lim 0x31A : Int) ^ 2 * S ^ 2 < 1024 ^ 2 * ((a.cycles.length : Int) * a.cycles.foldl (fun t v => t + v * v) 0 - sum ^ 2) * (a.n : Int) ^ 2 ∨
         ofsPlausible ped = false ∨ gainPlausible gain.toNat = false ∨
         (x.stepFree = false ∧ ((s.lim 0x310 : Int) < (ped - pedOf s.asy.imgAct n r).natAbs ∨
           (s.lim 0x312 : Int) * (gainOf s.asy.imgAct n r : Int) < ((gain - (gainOf s.asy.imgAct n r : Int)).natAbs : Int) * 1024))) ∧
     (∀ (s : State) (q : Fin 4) (x : CalRun), (s.calq q.val).run = some x → 3 ≤ x.phase → x.ended = none →
       let fails := ((s.calChannels q.val).filter fun n => !s.calPasses x n).length
       Runs (.calRunEnd q) s fun t =>
         t.fld (CAL_QSTAT q.val) 7 4 = (if tget nominalByte s.asy.imgAct 0x31C < fails then 1 else if x.warn then 2
           else if 2 * (x.tEnd - x.tStart).natAbs > calDelta x.ctrl then 3 else 0) ∧
         (t.fld (CAL_QSTAT q.val) 7 4 ≠ 0 → t.asy = s.asy ∧ t.fld (CAL_QSTAT q.val) 15 8 = min 255 (s.fld (CAL_QSTAT q.val) 15 8 + 1) ∧
           t.fld (CAL_QSTAT q.val) 3 2 = if x.auto then min 3 (s.fld (CAL_QSTAT q.val) 3 2 + 1) else s.fld (CAL_QSTAT q.val) 3 2) ∧
         (t.fld (CAL_QSTAT q.val) 7 4 = 0 → t.fld (CAL_QSTAT q.val) 3 2 = 0 ∧ imgGet t.asy.img (0x1708 + 2 * q.val) 2 = ofS 16 (rdiv x.tSum x.tCnt) ∧
           ∀ n ∈ s.calChannels q.val, ∀ r < 3,
             (s.calPasses x n = false → imgGet t.asy.img (0x500 + 16 * n + 2 * r) 2 = imgGet s.asy.img (0x500 + 16 * n + 2 * r) 2 ∧
               imgGet t.asy.img (0x508 + 16 * n + 2 * r) 2 = imgGet s.asy.img (0x508 + 16 * n + 2 * r) 2) ∧
             (s.calPasses x n = true → ∃ ped gain, s.candidate x n r = some (ped, gain) ∧ imgGet t.asy.img (0x500 + 16 * n + 2 * r) 2 = ofS 16 ped ∧
               imgGet t.asy.img (0x508 + 16 * n + 2 * r) 2 = gain)) ∧
         Touches [CAL_STATUS, CAL_QSTAT q.val, CAL_CHFAIL (2 * q.val), CAL_CHFAIL (2 * q.val + 1)] s.toHub { t with asy := s.asy, calQ := s.calQ }))

/-! ### Filter chain (06) -/

/-- The FILT commands that write: a configuration change is requested for the groups of the mask, and coefficients go to the inactive banks of
those groups only; a swap is requested by FILT_SWAP, whose answer waits, or by FLT_CTRL.SWAP_GROUPS.
A due swap exchanges the 35 words of the group's banks and clears its request (R154); a due configuration change puts the group's configuration
in effect from label F − 4 on with its delay lines cleared (R156); the reads answer from the registers. -/
def Obligations.FilterCommands : Prop :=
  ((∀ (s : State) (h : Hdr) (p : List Byte), Accepts s.toHub h 0x0501 → p.length = 4 → pl p 0 1 ≠ 0 → pl p 1 1 ≤ 1 → pl p 2 1 ≤ 2 → pl p 3 1 ≤ 2 →
       s.modeIn [mLOADING, mRUN, mPULSE] = false → (∀ g < 8, bitAt (pl p 0 1) g = true → s.bit FLT_STATUS (16 + g) = false) →
       (s.rateRises (pl p 0 1) (pl p 1 1) = false ∨ s.admitsRate (pl p 0 1) (pl p 1 1) = true) →
       Runs (.filtSetConfig h p) s fun t => (∃ pay, Answered t h 0x0501 stOK pay) ∧
         (∀ g < 8, bitAt (pl p 0 1) g = true → t.reg (FLT_GCFG g) = pl p 1 1 + 4 * pl p 2 1 + 16 * pl p 3 1 ∧
           (s.reg (FLT_GCFG_ACT g) ≠ pl p 1 1 + 4 * pl p 2 1 + 16 * pl p 3 1 →
             (t.flt g).cfgAt = some (pl p 1 1 + 4 * pl p 2 1 + 16 * pl p 3 1, s.cfgFrame) ∧ t.bit FLT_STATUS (16 + g) = true)) ∧
         (∀ g < 8, bitAt (pl p 0 1) g = false → t.reg (FLT_GCFG g) = s.reg (FLT_GCFG g) ∧ t.flt g = s.flt g) ∧
         Touches (FLT_STATUS :: (List.range 8).map FLT_GCFG) s.toHub { t with flts := s.flts }) ∧
     (∀ (s : State) (h : Hdr) (p : List Byte), Accepts s.toHub h 0x0502 → pl p 0 1 ≠ 0 → pl p 1 1 ≤ 1 → pl p 2 1 ≤ 1 → plZero p 3 1 = true →
       let n := if pl p 2 1 = 0 then 6 else 3
       let base := (if pl p 1 1 = 0 then 0 else 9) + (if pl p 2 1 = 0 then 0 else 6)
       p.length = 4 + 4 * n → (∀ i < n, -131072 ≤ toS 32 (pl p (4 + 4 * i) 4) ∧ toS 32 (pl p (4 + 4 * i) 4) ≤ 131071) → s.bankBusy (pl p 0 1) = false →
       Replies (.filtWriteHb h p) s h 0x0502 [] fun t =>
         (∀ g < 8, bitAt (pl p 0 1) g = true → ∀ i < n, toS 18 (t.reg (bankWord false g (base + i))) = toS 32 (pl p (4 + 4 * i) 4)) ∧
         Touches (((List.range 8).filter (bitAt (pl p 0 1))).flatMap fun g => (List.range n).map fun i => bankWord false g (base + i)) s.toHub t) ∧
     (∀ (s : State) (h : Hdr) (p : List Byte), Accepts s.toHub h 0x0503 → p.length = 68 → pl p 0 1 ≠ 0 → plZero p 2 2 = true →
       (∀ i < 16, -131072 ≤ toS 32 (pl p (4 + 4 * i) 4) ∧ toS 32 (pl p (4 + 4 * i) 4) ≤ 131071) → s.bankBusy (pl p 0 1) = false →
       Replies (.filtWriteFir h p) s h 0x0503 [] fun t =>
         (∀ g < 8, bitAt (pl p 0 1) g = true → t.reg (bankWord false g 34) = pl p 1 1 ∧ ∀ i < 16, toS 18 (t.reg (bankWord false g (18 + i))) = toS 32 (pl p (4 + 4 * i) 4)) ∧
         Touches (((List.range 8).filter (bitAt (pl p 0 1))).flatMap fun g => (List.range 17).map fun i => bankWord false g (18 + i)) s.toHub t) ∧
     (∀ (s : State) (h : Hdr) (p : List Byte), Accepts s.toHub h 0x0504 → p.length = 4 → pl p 0 1 ≠ 0 → plZero p 1 3 = true → s.modeIn swapModes = true →
       s.bankBusy (pl p 0 1) = false →
       Runs (.filtSwap h p) s fun t => Waits t h 0x0504 (pl p 0 1) p ∧
         (∀ g < 8, bitAt (pl p 0 1) g = true → (t.flt g).swapAt = some (s.frame + 1) ∧ t.bit FLT_STATUS g = true) ∧
         Touches [FLT_STATUS] s.toHub { t with flts := s.flts }) ∧
     (∀ (s : State) (m : BitVec 8), m ≠ 0 → s.modeIn swapModes = true → s.bankBusy m.toNat = false →
       Runs (.fltCtrlSwapGroups m) s fun t =>
         (∀ g < 8, bitAt m.toNat g = true → (t.flt g).swapAt = some (s.frame + 1) ∧ t.bit FLT_STATUS g = true) ∧
         (∀ g < 8, bitAt m.toNat g = false → t.flt g = s.flt g) ∧ Touches [FLT_STATUS] s.toHub { t with flts := s.flts })) ∧
  ((∀ (s : State) (g : Nat), g < 8 → (s.flt g).swapAt = some s.frame → (∀ k < 8, k ≠ g → (s.flt k).swapAt = none) →
       (s.crossAt (s.frame - 4)).1 < 65536 → Runs .filterSwapApply s fun t =>
         (∀ i < 35, t.reg (bankWord false g i) = s.reg (bankWord true g i) % 2 ^ 32 ∧ t.reg (bankWord true g i) = s.reg (bankWord false g i) % 2 ^ 32) ∧
         (t.flt g).swapAt = none ∧ t.bit FLT_STATUS g = false ∧ t.bit FLT_STATUS (8 + g) = !s.bit FLT_STATUS (8 + g) ∧
         t.fld FLT_SWAP_CROSSING 23 16 = 2 ^ g ∧ (∀ k < 8, k ≠ g → t.flt k = s.flt k)) ∧
     (∀ (s : State) (g w f : Nat), g < 8 → (s.flt g).cfgAt = some (w, f) → f ≤ s.frame → (∀ k < 8, k ≠ g → (s.flt k).cfgAt = none) →
       Runs .filterConfigApply s fun t => t.reg (FLT_GCFG_ACT g) = w % 2 ^ 32 ∧ t.bit FLT_STATUS (16 + g) = false ∧ (t.flt g).cfgAt = none ∧
         (t.epochAt g (f - 4)).cfg = w ∧ (t.epochAt g (f - 4)).clear = true ∧ (t.epochAt g (f - 4)).start = f - 4 ∧
         Touches [FLT_STATUS, FLT_GCFG_ACT g] s.toHub { t with flts := s.flts }) ∧
     (∀ (s : State) (h : Hdr) (p : List Byte), Accepts s.toHub h 0x0505 → p.length = 4 → pl p 0 1 ≤ 7 → pl p 1 1 ≤ 1 → plZero p 2 2 = true →
       Replies (.filtRead h p) s h 0x0505 (words ((List.range 35).map (fun i => s.reg (bankWord (pl p 1 1 == 0) (pl p 0 1) i)) ++ [s.reg (FLT_GCFG_ACT (pl p 0 1))]))
         fun t => Touches [] s.toHub t) ∧
     (∀ (s : State) (h : Hdr), Accepts s.toHub h 0x0506 →
       Replies (.filtGetStatus h []) s h 0x0506 (words ([s.reg FLT_STATUS, s.reg FLT_SAT_STICKY] ++ (List.range 8).map (fun g => s.reg (FLT_SAT_COUNT g)) ++
         (List.range 8).map (fun g => s.reg (FLT_GCFG_ACT g)))) fun t => Touches [] s.toHub t) ∧
     (∀ s : State, Runs .fltSwapCrossingRead s fun t => t.reg FLT_SWAP_TURN = s.shadowTurn FLT_SWAP_TURN % 2 ^ 32 ∧ Touches [FLT_SWAP_TURN] s.toHub t))

/-- The demand of a group is 516 × (1 + RATE) + 256 × FLUSH_ALLOW / TURN_LEN bits per frame, and a configuration is admitted when the demands of the eight groups fit
the capacities of the stream lanes less the largest: 1472 for a lane, 1380 for the lowest, the service lane (R254, R286). So the reset configuration of TURN_LEN
3200, six stream lanes, 1× and FLUSH_ALLOW as reset is admitted, and with 1× and no flushes the demands come to 4128. -/
def Obligations.AdmissionRule : Prop :=
  State.reset.admits = true ∧
  (∀ (turnLen lanes : Nat) (rate allow : Nat → Nat), turnLen ≠ 0 →
    (admitted turnLen lanes rate allow = true ↔
      ((List.range 8).map fun g => (516 * (1 + rate g) : Rat) + 256 * (allow g : Rat) / turnLen).sum ≤ (capSum lanes : Rat) - (capMax lanes : Rat))) ∧
  (∀ lanes : Nat, lanes % 64 ≠ 0 → capSum lanes + 92 = 1472 * popCount 6 lanes ∧ capMax lanes = if popCount 6 lanes = 1 then 1380 else 1472) ∧
  (∀ s : Hub, s.admits = admitted s.turnLen s.streamLanes (fun g => s.fld (FLT_GCFG g) 0 0) (fun g => s.fld (STR_GCFG g) 15 8)) ∧
  (∀ (turnLen lanes : Nat) (rate allow : Nat → Nat), (∀ g < 8, rate g = 0 ∧ allow g = 0) → turnLen ≠ 0 →
    (admitted turnLen lanes rate allow = true ↔ 4128 ≤ capSum lanes - capMax lanes)) ∧
  capSum 0x3F = 8740 ∧ capMax 0x3F = 1472

/-! ### Feature engines (07) -/

/-- Saturating results: ADD, SUB, ADDI, MUL, MULSH, ABS and SHL write the exact result clamped to 32 bits, MULSH rounding half away from zero, to D of every
lane whose guard is true, and write no other lane register.
The flags (R166-R168, R171, R173): every instruction marked ZN sets Z and N of each lane whose guard is true from the value that it writes to D, and the saturating
ones set SATF, which is sticky, where the exact result does not fit; INTERP sets Z where no pair qualifies; and NOP, the predicates, the outputs and SKIPZ leave the
flags alone, as every instruction does in a lane whose guard is false. -/
def Obligations.EngineSaturatingResults : Prop :=
  (∀ (s : State) (g : Fin 8) (r : FeRun) (gd : Guard) (d : Fin 16) (a b : FeSrc) (imm : BitVec 13) (sh : Fin 32),
       let x := fun l => s.feSrc g.val l (s.eng g.val) r a
       let y := fun l => s.feSrc g.val l (s.eng g.val) r b
       (Issues s.toHub g.val r (.add gd d a b) → LaneWrites (.feAdd g gd d a b) s g r gd d.val fun l => satS 32 (x l + y l)) ∧
       (Issues s.toHub g.val r (.sub gd d a b) → LaneWrites (.feSub g gd d a b) s g r gd d.val fun l => satS 32 (x l - y l)) ∧
       (Issues s.toHub g.val r (.addi gd d a imm) → LaneWrites (.feAddi g gd d a imm) s g r gd d.val fun l => satS 32 (x l + imm.toInt)) ∧
       (Issues s.toHub g.val r (.mul gd d a b) → LaneWrites (.feMul g gd d a b) s g r gd d.val fun l => satS 32 (x l * y l)) ∧
       (Issues s.toHub g.val r (.mulsh gd d a b sh) → LaneWrites (.feMulsh g gd d a b sh) s g r gd d.val fun l => satS 32 (rdiv (x l * y l) (2 ^ sh.val : Nat))) ∧
       (Issues s.toHub g.val r (.abs gd d a) → LaneWrites (.feAbs g gd d a) s g r gd d.val fun l => satS 32 (x l).natAbs) ∧
       (Issues s.toHub g.val r (.shl gd d a sh) → LaneWrites (.feShl g gd d a sh) s g r gd d.val fun l => satS 32 (x l * (2 ^ sh.val : Nat)))) ∧
  (∀ (s : State) (g : Fin 8) (r : FeRun) (gd : Guard) (d : Fin 16) (a b : FeSrc) (imm m : BitVec 13) (imm18 : BitVec 18) (k : Fin 252) (j slot : Fin 16) (i sh first cnt : Fin 32)
       (edge tv : Bool) (pd pa pb ts : Fin 8) (fn uq : Fin 4) (n : BitVec 8), FetchesNext s.toHub g.val r →
       let x := fun l => s.feSrc g.val l (s.eng g.val) r a
       let y := fun l => s.feSrc g.val l (s.eng g.val) r b
       let w := fun l i => s.window (32 * g.val + l) r.n i
       let never := fun (_ : Nat) => false
       let past := fun (v : Nat → Int) (l : Nat) => decide (v l < -2147483648) || decide (2147483647 < v l)
       let reads := fun ins => ∀ a ∈ feReads g.val r ins, eccCheck (s.eccAt a) ≠ .uncorrectable
       let pair := fun l i => match w l (i + 1), w l i with
         | some p, some q => interpPair (x l) p q edge
         | _, _ => none
       (Issues s.toHub g.val r (.mov gd d a) → FlagsOfD (.feMov g gd d a) s g r gd d.val never) ∧
       (Issues s.toHub g.val r (.movi gd d imm18) → FlagsOfD (.feMovi g gd d imm18) s g r gd d.val never) ∧
       (Issues s.toHub g.val r (.ldk gd d k) → reads (.ldk gd d k) → FlagsOfD (.feLdk g gd d k) s g r gd d.val never) ∧
       (Issues s.toHub g.val r (.ldl gd d j) → reads (.ldl gd d j) → FlagsOfD (.feLdl g gd d j) s g r gd d.val never) ∧
       (Issues s.toHub g.val r (.ldw gd d a) → FlagsOfD (.feLdw g gd d a) s g r gd d.val never) ∧
       (Issues s.toHub g.val r (.ldwi gd d i) → FlagsOfD (.feLdwi g gd d i) s g r gd d.val never) ∧
       (Issues s.toHub g.val r (.add gd d a b) → FlagsOfD (.feAdd g gd d a b) s g r gd d.val (past fun l => x l + y l)) ∧
       (Issues s.toHub g.val r (.sub gd d a b) → FlagsOfD (.feSub g gd d a b) s g r gd d.val (past fun l => x l - y l)) ∧
       (Issues s.toHub g.val r (.addi gd d a imm) → FlagsOfD (.feAddi g gd d a imm) s g r gd d.val (past fun l => x l + imm.toInt)) ∧
       (Issues s.toHub g.val r (.mul gd d a b) → FlagsOfD (.feMul g gd d a b) s g r gd d.val (past fun l => x l * y l)) ∧
       (Issues s.toHub g.val r (.mulsh gd d a b sh) → FlagsOfD (.feMulsh g gd d a b sh) s g r gd d.val (past fun l => rdiv (x l * y l) (2 ^ sh.val : Nat))) ∧
       (Issues s.toHub g.val r (.max gd d a b) → FlagsOfD (.feMax g gd d a b) s g r gd d.val never) ∧
       (Issues s.toHub g.val r (.min gd d a b) → FlagsOfD (.feMin g gd d a b) s g r gd d.val never) ∧
       (Issues s.toHub g.val r (.abs gd d a) → FlagsOfD (.feAbs g gd d a) s g r gd d.val (past fun l => (x l).natAbs)) ∧
       (Issues s.toHub g.val r (.shl gd d a sh) → FlagsOfD (.feShl g gd d a sh) s g r gd d.val (past fun l => x l * (2 ^ sh.val : Nat))) ∧
       (Issues s.toHub g.val r (.shr gd d a sh) → FlagsOfD (.feShr g gd d a sh) s g r gd d.val never) ∧
       (Issues s.toHub g.val r (.and gd d a b) → FlagsOfD (.feAnd g gd d a b) s g r gd d.val never) ∧
       (Issues s.toHub g.val r (.or gd d a b) → FlagsOfD (.feOr g gd d a b) s g r gd d.val never) ∧
       (Issues s.toHub g.val r (.xor gd d a b) → FlagsOfD (.feXor g gd d a b) s g r gd d.val never) ∧
       (Issues s.toHub g.val r (.wsum gd d first cnt) → FlagsOfD (.feWsum g gd d first cnt) s g r gd d.val never) ∧
       (Issues s.toHub g.val r (.wpeak gd d first cnt) → FlagsOfD (.feWpeak g gd d first cnt) s g r gd d.val never) ∧
       (Issues s.toHub g.val r (.wmin gd d first cnt) → FlagsOfD (.feWmin g gd d first cnt) s g r gd d.val never) ∧
       (Issues s.toHub g.val r (.interp gd d a first edge cnt) → SetsFlags (.feInterp g gd d a first edge cnt) s g r gd
         (fun _ l => (List.range cnt.val).all fun i => (pair l (first.val + i)).isNone) (fun t l => decide ((t.eng g.val).vOf l d.val < 0)) never) ∧
       (Issues s.toHub g.val r (.nop gd) → KeepsFlags (.feNop g gd) s g r) ∧
       (Issues s.toHub g.val r (.cmpgt gd pd a b) → KeepsFlags (.feCmpgt g gd pd a b) s g r) ∧
       (Issues s.toHub g.val r (.cmpge gd pd a b) → KeepsFlags (.feCmpge g gd pd a b) s g r) ∧
       (Issues s.toHub g.val r (.cmpeq gd pd a b) → KeepsFlags (.feCmpeq g gd pd a b) s g r) ∧
       (Issues s.toHub g.val r (.ptst gd pd a m) → KeepsFlags (.fePtst g gd pd a m) s g r) ∧
       (Issues s.toHub g.val r (.plog gd pd pa pb fn) → KeepsFlags (.fePlog g gd pd pa pb fn) s g r) ∧
       (Issues s.toHub g.val r (.feat gd slot a) → KeepsFlags (.feFeat g gd slot a) s g r) ∧
       (Issues s.toHub g.val r (.tower gd a uq) → KeepsFlags (.feTower g gd a uq) s g r) ∧
       (Issues s.toHub g.val r (.trig gd tv ts) → KeepsFlags (.feTrig g gd tv ts) s g r) ∧
       (Issues s.toHub g.val r (.skipz gd pd n) → KeepsFlags (.feSkipz g gd pd n) s g r))

/-- Moves, loads and bitwise results: MOV, MOVI, LDK, LDL, LDW, LDWI, MAX, MIN, SHR, AND, OR and XOR write D of every lane whose guard is true, a marked
window entry reading 0, and write no other lane register; an uncorrectable constant that LDK or LDL reads is a fault with cause 2 in place of the write
(R183, R393).
Span instructions: WSUM adds the entries of the span that are not marked; WPEAK and WMIN write the extreme to D and its lowest index to D + 1, and
0x8000_0000 to both where every entry is marked; INTERP writes the position of the crossing of the first qualifying pair in time order,
the pair of the highest index, and 0x8000_0000 where no pair qualifies (R172, R173).
Predicates: CMPGT, CMPGE, CMPEQ, PTST and PLOG write the predicate of every lane whose guard is true; P0 always reads 1 (R167). -/
def Obligations.EngineMovesSpansAndTests : Prop :=
  (∀ (s : State) (g : Fin 8) (r : FeRun) (gd : Guard) (d : Fin 16) (a b : FeSrc) (imm : BitVec 18) (k : Fin 252) (j : Fin 16) (i sh : Fin 32),
       let x := fun l => s.feSrc g.val l (s.eng g.val) r a
       let y := fun l => s.feSrc g.val l (s.eng g.val) r b
       let w := fun l i => (s.window (32 * g.val + l) r.n i).getD 0
       let reads := fun ins => ∀ a ∈ feReads g.val r ins, eccCheck (s.eccAt a) ≠ .uncorrectable
       let faults := fun i => Runs i s fun t => (t.eng g.val).run = none ∧ (t.eng g.val).v = (s.eng g.val).v ∧ t.feState g.val = 3 ∧ t.fld (FE_STATE g.val) 11 8 = 2
       (Issues s.toHub g.val r (.mov gd d a) → LaneWrites (.feMov g gd d a) s g r gd d.val x) ∧
       (Issues s.toHub g.val r (.movi gd d imm) → LaneWrites (.feMovi g gd d imm) s g r gd d.val fun _ => imm.toInt) ∧
       (Issues s.toHub g.val r (.ldk gd d k) → ¬ reads (.ldk gd d k) → faults (.feLdk g gd d k)) ∧
       (Issues s.toHub g.val r (.ldl gd d j) → ¬ reads (.ldl gd d j) → faults (.feLdl g gd d j)) ∧
       (Issues s.toHub g.val r (.ldk gd d k) → reads (.ldk gd d k) → LaneWrites (.feLdk g gd d k) s g r gd d.val fun _ => toS 32 (s.memWord (0x38000000 + 0x1000 * g.val + 0x410 + 4 * k.val))) ∧
       (Issues s.toHub g.val r (.ldl gd d j) → reads (.ldl gd d j) → LaneWrites (.feLdl g gd d j) s g r gd d.val fun l => toS 32 (s.memWord (0x38000000 + 0x1000 * g.val + 0x800 + 64 * l + 4 * j.val))) ∧
       (Issues s.toHub g.val r (.ldw gd d a) → LaneWrites (.feLdw g gd d a) s g r gd d.val fun l => w l (x l % 32).toNat) ∧
       (Issues s.toHub g.val r (.ldwi gd d i) → LaneWrites (.feLdwi g gd d i) s g r gd d.val fun l => w l i.val) ∧
       (Issues s.toHub g.val r (.max gd d a b) → LaneWrites (.feMax g gd d a b) s g r gd d.val fun l => max (x l) (y l)) ∧
       (Issues s.toHub g.val r (.min gd d a b) → LaneWrites (.feMin g gd d a b) s g r gd d.val fun l => min (x l) (y l)) ∧
       (Issues s.toHub g.val r (.shr gd d a sh) → LaneWrites (.feShr g gd d a sh) s g r gd d.val fun l => rdiv (x l) (2 ^ sh.val : Nat)) ∧
       (Issues s.toHub g.val r (.and gd d a b) → LaneWrites (.feAnd g gd d a b) s g r gd d.val fun l => toS 32 (ofS 32 (x l) &&& ofS 32 (y l))) ∧
       (Issues s.toHub g.val r (.or gd d a b) → LaneWrites (.feOr g gd d a b) s g r gd d.val fun l => toS 32 (ofS 32 (x l) ||| ofS 32 (y l))) ∧
       (Issues s.toHub g.val r (.xor gd d a b) → LaneWrites (.feXor g gd d a b) s g r gd d.val fun l => toS 32 (ofS 32 (x l) ^^^ ofS 32 (y l)))) ∧
  (∀ (s : State) (g : Fin 8) (r : FeRun) (gd : Guard) (d : Fin 16) (a : FeSrc) (first cnt : Fin 32) (edge : Bool),
       let w := fun l i => s.window (32 * g.val + l) r.n i
       (Issues s.toHub g.val r (.wsum gd d first cnt) → LaneWrites (.feWsum g gd d first cnt) s g r gd d.val fun l =>
         ((List.range (cnt.val + 1)).map fun i => (w l (first.val + i)).getD 0).sum) ∧
       (Issues s.toHub g.val r (.wpeak gd d first cnt) → Runs (.feWpeak g gd d first cnt) s fun t => ∀ l < 32, r.guarded l gd = true →
         ((∀ i ≤ cnt.val, w l (first.val + i) = none) → (t.eng g.val).vOf l d.val = -2147483648 ∧ (t.eng g.val).vOf l (d.val + 1) = -2147483648) ∧
         ((∃ i ≤ cnt.val, (w l (first.val + i)).isSome = true) → ∃ i ≤ cnt.val, w l (first.val + i) = some ((t.eng g.val).vOf l d.val) ∧
           (t.eng g.val).vOf l (d.val + 1) = (first.val + i : Nat) ∧ ∀ j ≤ cnt.val, ∀ v, w l (first.val + j) = some v → v ≤ (t.eng g.val).vOf l d.val ∧
             (v = (t.eng g.val).vOf l d.val → i ≤ j))) ∧
       (Issues s.toHub g.val r (.wmin gd d first cnt) → Runs (.feWmin g gd d first cnt) s fun t => ∀ l < 32, r.guarded l gd = true →
         ((∀ i ≤ cnt.val, w l (first.val + i) = none) → (t.eng g.val).vOf l d.val = -2147483648 ∧ (t.eng g.val).vOf l (d.val + 1) = -2147483648) ∧
         ((∃ i ≤ cnt.val, (w l (first.val + i)).isSome = true) → ∃ i ≤ cnt.val, w l (first.val + i) = some ((t.eng g.val).vOf l d.val) ∧
           (t.eng g.val).vOf l (d.val + 1) = (first.val + i : Nat) ∧ ∀ j ≤ cnt.val, ∀ v, w l (first.val + j) = some v → (t.eng g.val).vOf l d.val ≤ v ∧
             (v = (t.eng g.val).vOf l d.val → i ≤ j))) ∧
       (Issues s.toHub g.val r (.interp gd d a first edge cnt) → Runs (.feInterp g gd d a first edge cnt) s fun t => ∀ l < 32, r.guarded l gd = true →
         let pair := fun i => match w l (i + 1), w l i with
           | some p, some q => interpPair (s.feSrc g.val l (s.eng g.val) r a) p q edge
           | _, _ => none
         ((∀ i, first.val ≤ i → i < first.val + cnt.val → pair i = none) → (t.eng g.val).vOf l d.val = -2147483648) ∧
         (∀ i f, first.val ≤ i → i < first.val + cnt.val → pair i = some f → (∀ k, i < k → k < first.val + cnt.val → pair k = none) →
           (t.eng g.val).vOf l d.val = 256 * (2 - (i : Int)) + f))) ∧
  (∀ (s : State) (g : Fin 8) (r : FeRun) (gd : Guard) (pd pa pb : Fin 8) (a b : FeSrc) (m : BitVec 13) (fn : Fin 4), FetchesNext s.toHub g.val r →
       let x := fun l => s.feSrc g.val l (s.eng g.val) r a
       let y := fun l => s.feSrc g.val l (s.eng g.val) r b
       (∀ l, r.predOf l 0 = true) ∧
       (Issues s.toHub g.val r (.cmpgt gd pd a b) → LaneTests (.feCmpgt g gd pd a b) s g r gd pd.val fun l => decide (x l > y l)) ∧
       (Issues s.toHub g.val r (.cmpge gd pd a b) → LaneTests (.feCmpge g gd pd a b) s g r gd pd.val fun l => decide (x l ≥ y l)) ∧
       (Issues s.toHub g.val r (.cmpeq gd pd a b) → LaneTests (.feCmpeq g gd pd a b) s g r gd pd.val fun l => decide (x l = y l)) ∧
       (Issues s.toHub g.val r (.ptst gd pd a m) → LaneTests (.fePtst g gd pd a m) s g r gd pd.val fun l => ofS 32 (x l) &&& m.toNat != 0) ∧
       (Issues s.toHub g.val r (.plog gd pd pa pb fn) → LaneTests (.fePlog g gd pd pa pb fn) s g r gd pd.val fun l =>
         if fn = 0 then r.predOf l pa && r.predOf l pb else if fn = 1 then r.predOf l pa || r.predOf l pb
         else if fn = 2 then r.predOf l pa && !r.predOf l pb else xor (r.predOf l pa) (r.predOf l pb)))

/-- FEAT writes a slot, TOWER a contribution with its UQ, TRIG marks the lanes whose guard is true and names the time slot; NOP and SKIPZ only move to the
next word, SKIPZ past N more when its predicate is 0 in every lane. -/
def Obligations.EngineOutputsAndFlow : Prop :=
  ∀ (s : State) (g : Fin 8) (r : FeRun) (gd : Guard) (a : FeSrc) (slot : Fin 16) (uq : Fin 4) (tv : Bool) (ts pc : Fin 8) (n : BitVec 8),
    FetchesNext s.toHub g.val r →
    (Issues s.toHub g.val r (.feat gd slot a) → Runs (.feFeat g gd slot a) s fun t => ∃ r', (t.eng g.val).run = some r' ∧ r'.pc = r.pc + 1 ∧
      ∀ l < 32, r'.slotOf l slot = (if r.guarded l gd then s.feSrc g.val l (s.eng g.val) r a else r.slotOf l slot) ∧
        ∀ k < 16, k ≠ slot.val → r'.slotOf l k = r.slotOf l k) ∧
    (Issues s.toHub g.val r (.tower gd a uq) → Runs (.feTower g gd a uq) s fun t => ∃ r', (t.eng g.val).run = some r' ∧ r'.pc = r.pc + 1 ∧
      ∀ l < 32, r.guarded l gd = true → tget (fun _ => 0) r'.tower l = s.feSrc g.val l (s.eng g.val) r a ∧ tget (fun _ => 0) r'.uq l = uq.val) ∧
    (Issues s.toHub g.val r (.trig gd tv ts) → Runs (.feTrig g gd tv ts) s fun t => ∃ r', (t.eng g.val).run = some r' ∧ r'.pc = r.pc + 1 ∧
      (∀ l < 32, bitAt r'.trigLanes l = (bitAt r.trigLanes l || r.guarded l gd)) ∧
      ((∃ l < 32, r.guarded l gd = true) → r'.tslot = ts.val ∧ r'.tvalid = tv)) ∧
    (Issues s.toHub g.val r (.nop gd) → Runs (.feNop g gd) s fun t => (t.eng g.val).run = some { r with pc := r.pc + 1, cycles := r.cycles + 1 } ∧
      (t.eng g.val).v = (s.eng g.val).v ∧ Touches [] s.toHub { t with engines := s.engines }) ∧
    (Issues s.toHub g.val r (.skipz gd pc n) → (∃ l < 32, r.predOf l pc = true) → Runs (.feSkipz g gd pc n) s fun t =>
      (t.eng g.val).run = some { r with pc := r.pc + 1, cycles := r.cycles + 1 }) ∧
    (Issues s.toHub g.val r (.skipz gd pc n) → (∀ l < 32, r.predOf l pc = false) → FetchesNext s.toHub g.val { r with pc := r.pc + n.toNat } →
      Runs (.feSkipz g gd pc n) s fun t => (t.eng g.val).run = some { r with pc := r.pc + 1 + n.toNat, cycles := r.cycles + 1 })

/-- END passes the run's results to the output stage and counts it (R162, R182); a run that has not ended by core cycle 31 is a fault with cause 1 that
delivers nothing, no part of it included that END may have passed on (R59, R183). -/
def Obligations.EngineEndAndOverrun : Prop :=
  (∀ (s : State) (g : Fin 8) (r : FeRun) (gd : Guard), Issues s.toHub g.val r (.endRun gd) → (s.eng g.val).stopAt = none →
    Runs (.feEnd g gd) s fun t => (∃ r', (t.eng g.val).run = some r' ∧ r'.ended = true) ∧
      (∃ o, (t.eng g.val).outs.head? = some o ∧ o.n = r.n ∧ o.valid = true ∧ o.tower = r.tower ∧ o.uq = r.uq ∧ o.trigLanes = r.trigLanes) ∧
      t.reg (FE_TRIGS g.val) = (if r.trigLanes ≠ 0 then (s.reg (FE_TRIGS g.val) + 1) % 2 ^ 32 else s.reg (FE_TRIGS g.val)) ∧
      t.feState g.val = s.feState g.val ∧ Touches [FE_TRIGS g.val, FE_SATF g.val] s.toHub { t with engines := s.engines }) ∧
  (∀ (s : State) (g : Fin 8) (r : FeRun), (s.eng g.val).run = some r → r.ended = false → r.pc < 256 →
    Runs (.feOverrun g) s fun t => (t.eng g.val).run = none ∧ (t.eng g.val).outs = (s.eng g.val).outs.filter (·.n != r.n) ∧ t.feState g.val = 3 ∧
      t.fld (FE_STATE g.val) 11 8 = 1 ∧ t.fld (FE_STATE g.val) 31 24 = r.pc ∧ t.reg (FE_FAULT_CROSSING g.val) = (s.crossAt r.n).1 % 2 ^ 32 ∧
      Touches [FE_STATE g.val, FE_FAULT_CROSSING g.val] s.toHub { t with engines := s.engines, shadow := s.shadow })

/-- The ENGINE commands that start, stop and select: started engines are start pending with their lane registers kept only by KEEP; a start-pending
engine stops at once; a selection stands for the next turn.
The ENGINE reads answer from the registers and lane registers, and reading FE_FAULT_CROSSING latches FE_FAULT_TURN. -/
def Obligations.EngineControl : Prop :=
  ((∀ (s : State) (h : Hdr) (p : List Byte), Accepts s.toHub h 0x0602 → p.length = 4 → pl p 0 1 ≠ 0 → pl p 1 1 ≤ 1 → plZero p 2 2 = true →
       (∀ g < 8, bitAt (pl p 0 1) g = true → s.reg (FE_COUNT g) ≠ 0 ∧ s.feState g ≠ 1 ∧ s.feState g ≠ 2) →
       Runs (.engineStart h p) s fun t => (∃ pay, Answered t h 0x0602 stOK pay) ∧
         (∀ g < 8, bitAt (pl p 0 1) g = true → t.feState g = 1 ∧ (t.eng g).startAt = s.feFirst ∧ (t.eng g).v = if pl p 1 1 = 1 then (s.eng g).v else []) ∧
         (∀ g < 8, bitAt (pl p 0 1) g = false → t.feState g = s.feState g ∧ t.eng g = s.eng g) ∧
         Touches ((List.range 8).map FE_STATE) s.toHub { t with engines := s.engines }) ∧
     (∀ (s : State) (h : Hdr) (p : List Byte), Accepts s.toHub h 0x0603 → p.length = 4 → pl p 0 1 ≠ 0 → plZero p 1 3 = true → s.modeIn [mRUN, mPULSE] = false →
       Runs (.engineStop h p) s fun t => (∃ pay, Answered t h 0x0603 stOK pay) ∧
         (∀ g < 8, bitAt (pl p 0 1) g = true → s.feState g = 1 → t.feState g = 0) ∧
         (∀ g < 8, bitAt (pl p 0 1) g = true → s.feState g = 2 → s.mode = mHOLD → t.feState g = 2 ∧ (t.eng g).stopAt = some (s.frame + s.toTurn - 1)) ∧
         (∀ g < 8, bitAt (pl p 0 1) g = false → t.feState g = s.feState g ∧ t.eng g = s.eng g)) ∧
     (∀ (s : State) (h : Hdr) (p : List Byte), Accepts s.toHub h 0x0604 → p.length = 4 → pl p 0 1 ≠ 0 → (pl p 1 1 = 0 ∨ pl p 1 1 = 2 ∨ pl p 1 1 = 3) → pl p 2 1 ≤ 1 →
       plZero p 3 1 = true →
       Runs (.engineSelect h p) s fun t => (∃ pay, Answered t h 0x0604 stOK pay) ∧
         (∀ g < 8, bitAt (pl p 0 1) g = true → t.reg (FE_CFG g) = 4 * pl p 2 1 + pl p 1 1 ∧ (t.eng g).cfgAt (s.frame + s.toTurn) = 4 * pl p 2 1 + pl p 1 1 ∧
           (t.eng g).v = (s.eng g).v) ∧ Touches ((List.range 8).map FE_CFG) s.toHub { t with engines := s.engines }) ∧
     (∀ (s : State) (m : BitVec 8), s.mode ≠ mLOADING → (∀ g < 8, bitAt m.toNat g = true → s.reg (FE_COUNT g) ≠ 0 ∧ s.feState g ≠ 1 ∧ s.feState g ≠ 2) →
       Runs (.feCtrlStart m) s fun t => (∀ g < 8, bitAt m.toNat g = true → t.feState g = 1 ∧ (t.eng g).v = []) ∧
         (∀ g < 8, bitAt m.toNat g = false → t.feState g = s.feState g ∧ t.eng g = s.eng g)) ∧
     (∀ (s : State) (m : BitVec 8), s.modeIn [mLOADING, mRUN, mPULSE] = false →
       Runs (.feCtrlStop m) s fun t => (∀ g < 8, bitAt m.toNat g = true → s.feState g = 1 → t.feState g = 0) ∧
         (∀ g < 8, bitAt m.toNat g = false → t.feState g = s.feState g ∧ t.eng g = s.eng g))) ∧
  ((∀ (s : State) (h : Hdr), Accepts s.toHub h 0x0605 →
       Replies (.engineStatus h []) s h 0x0605 (words (s.feStatus :: (List.range 8).flatMap fun g =>
         [s.reg (FE_STATE g), s.reg (FE_COUNT g), s.reg (FE_TRIGS g), s.reg (FE_PROG_CRC g)])) fun t => Touches [] s.toHub t) ∧
     (∀ (s : State) (h : Hdr) (p : List Byte), Accepts s.toHub h 0x0606 → p.length = 4 → pl p 0 1 ≤ 7 → 1 ≤ pl p 2 1 → pl p 2 1 ≤ 16 → pl p 1 1 + pl p 2 1 ≤ 32 →
       plZero p 3 1 = true → s.feState (pl p 0 1) ≠ 1 → s.feState (pl p 0 1) ≠ 2 →
       Replies (.engineReadLanes h p) s h 0x0606 (words ((List.range (pl p 2 1)).flatMap fun i => (List.range 16).map fun j =>
         ofS 32 ((s.eng (pl p 0 1)).vOf (pl p 1 1 + i) j))) fun t => Touches [] s.toHub t) ∧
     (∀ (s : State) (g : Fin 8), Runs (.feFaultCrossingRead g) s fun t =>
       t.reg (FE_FAULT_TURN g.val) = s.shadowTurn (FE_FAULT_TURN g.val) % 2 ^ 32 ∧ Touches [FE_FAULT_TURN g.val] s.toHub t))

/-- Decode and encode agree: every well-formed engine instruction, with every operand at every value, is what its word decodes to.
What decodes is well formed: no reserved guard, span or target passes the decoder (R168, R172, R177). -/
def Obligations.EngineDecodeOfEncode : Prop :=
  (∀ i : FeIns, feWf i = true → feEncode i < 2 ^ 32 ∧ feDecode (feEncode i) = some i) ∧
  (∀ (w : Nat) (i : FeIns), feDecode w = some i → feWf i = true ∧ (feGuard i).ok = true)

/-! ### Trigger primitives (08) -/

/-- The TRIG commands: the map entries and the scale are written and stand from the first tower sum of R191, the status is answered from the
registers, a capture waits for the next carriage; ENGINE_LOAD keeps the bytes of a chunk; reading JCT_FAULT_CROSSING latches JCT_FAULT_TURN.
ENGINE_LOAD with LAST (R503): an image that passes R180 and whose entries have static counts of at most 28 is written to the program memory of
its engine and shown in FE_COUNT, FE_PROG_CRC and NFEAT, in RUN and PULSE only for a faulted engine and the same CRC (R184); one that breaks
R180 is refused with BAD_ARG, one that breaks only R179 with OVER_BUDGET; a Junction image that passes R198 is written at once in IDLE and
kept for crossing 0 of the next turn in the other modes, and one that does not is refused. That an image whose reserved header words are 0 is
wanted is the model's choice (log entry 228), as is that a SKIPZ with no END after it breaks R177 (log entry 227). -/
def Obligations.JunctionCommands : Prop :=
  ((∀ (s : State) (h : Hdr) (p : List Byte), Accepts s.toHub h 0x0701 → Alone s.toHub → p.length = 4 + pl p 2 2 → 1 ≤ pl p 2 2 → pl p 0 2 + pl p 2 2 ≤ 256 →
       (∀ i < pl p 2 2, pl p (4 + i) 1 < 64 ∨ pl p (4 + i) 1 = 255) → s.modeIn jctModes = true →
       Replies (.trigSetMap h p) s h 0x0701 s.jctFirstCross fun t =>
         (∀ i < pl p 2 2, t.fld (JCT_TMAP ((pl p 0 2 + i) / 4)) (8 * ((pl p 0 2 + i) % 4) + 7) (8 * ((pl p 0 2 + i) % 4)) = pl p (4 + i) 1) ∧
         Touches ((List.range 64).map JCT_TMAP) s.toHub { t with jct := s.jct }) ∧
     (∀ (s : State) (h : Hdr) (p : List Byte), Accepts s.toHub h 0x0702 → p.length = 4 → pl p 0 1 ≤ 15 → plZero p 2 2 = true → s.modeIn jctModes = true →
       Replies (.trigSetScale h p) s h 0x0702 s.jctFirstCross fun t => t.fld JCT_CTRL 3 0 = pl p 0 1 ∧ t.fld JCT_CTRL 15 8 = pl p 1 1 ∧
         Touches [JCT_CTRL] s.toHub { t with jct := s.jct }) ∧
     (∀ (s : State) (h : Hdr), Accepts s.toHub h 0x0703 →
       Replies (.trigGetStatus h []) s h 0x0703 (words [s.jctStatus, s.reg JCT_PARAM0, s.reg JCT_PARAM1, s.reg JCT_DEG_COUNT, s.reg JCT_OVF_COUNT, s.reg JCT_PAIR_MISS])
         fun t => Touches [] s.toHub t) ∧
     (∀ (s : State) (h : Hdr), Accepts s.toHub h 0x0704 → s.mode ≠ mIDLE → Runs (.trigCapture h []) s fun t => Waits t h 0x0704 0 [] ∧ Touches [] s.toHub t) ∧
     (∀ (s : State) (h : Hdr) (p : List Byte), Accepts s.toHub h 0x0601 → 4 ≤ p.length → p.length ≤ 1024 → p.length % 4 = 0 → pl p 0 1 ≤ 7 → pl p 1 1 = 0 → pl p 2 2 = 0 →
       s.feBusy (pl p 0 1) = false → s.modeIn [mRUN, mPULSE] = false →
       Replies (.engineLoad h p) s h 0x0601 [] fun t => (t.stage (pl p 0 1)).next = p.length - 4 ∧
         (∀ i < p.length - 4, tget (fun _ => 0) (t.stage (pl p 0 1)).bytes i = pl p (4 + i) 1) ∧ Touches [] s.toHub { t with staging := s.staging }) ∧
     (∀ s : State, Runs .jctFaultCrossingRead s fun t => t.reg JCT_FAULT_TURN = s.shadowTurn JCT_FAULT_TURN % 2 ^ 32 ∧ Touches [JCT_FAULT_TURN] s.toHub t)) ∧
  ((∀ (s : State) (h : Hdr) (p : List Byte) (c0 c1 c2 c3 : Nat), Accepts s.toHub h 0x0601 → LastChunk s.toHub p → pl p 0 1 ≤ 7 →
       let img := wholeImage s.toHub p
       ProgramLegal img → bits (imgWord img 0x408) 31 16 = 0 → imgWord img 0x40C = 0 →
       EntryCosts img 0 c0 → EntryCosts img 1 c1 → EntryCosts img 2 c2 → EntryCosts img 3 c3 → c0 ≤ 28 → c1 ≤ 28 → c2 ≤ 28 → c3 ≤ 28 →
       s.feBusy (pl p 0 1) = false →
       (s.modeIn [mRUN, mPULSE] = true → s.feState (pl p 0 1) = 3 ∧ s.reg (FE_PROG_CRC (pl p 0 1)) = crc32c (stagedBytes img 4096)) →
       let g := pl p 0 1
       let count := c0 + 256 * c1 + 65536 * c2 + 16777216 * c3
       Replies (.engineLoad h p) s h 0x0601 (words [count, crc32c (stagedBytes img 4096)]) fun t =>
         t.reg (FE_COUNT g) = count ∧ t.reg (FE_PROG_CRC g) = crc32c (stagedBytes img 4096) % 2 ^ 32 ∧ t.fld (FE_STATE g) 19 16 = bits (imgWord img 0x400) 27 24 ∧
         t.feState g = s.feState g ∧ t.stage g = {} ∧ Holds (feBase g) img s.toHub t ∧ KeepsRegs [FE_COUNT g, FE_PROG_CRC g, FE_STATE g] s.toHub t ∧
         KeepsRest s.toHub { t with staging := s.staging }) ∧
     (∀ (s : State) (h : Hdr) (p : List Byte), Accepts s.toHub h 0x0601 → LastChunk s.toHub p → pl p 0 1 ≤ 7 → ¬ ProgramLegal (wholeImage s.toHub p) →
       Refuses (.engineLoad h p) s h 0x0601 stBAD_ARG) ∧
     (∀ (s : State) (h : Hdr) (p : List Byte) (k c : Nat), Accepts s.toHub h 0x0601 → LastChunk s.toHub p → pl p 0 1 ≤ 7 →
       let img := wholeImage s.toHub p
       ProgramLegal img → bits (imgWord img 0x408) 31 16 = 0 → imgWord img 0x40C = 0 → k < 4 → EntryCosts img k c → 28 < c →
       Refuses (.engineLoad h p) s h 0x0601 stOVER_BUDGET) ∧
     (∀ (s : State) (h : Hdr) (p : List Byte), Accepts s.toHub h 0x0601 → LastChunk s.toHub p → pl p 0 1 ≤ 7 →
       let img := wholeImage s.toHub p
       ProgramLegal img → bits (imgWord img 0x408) 31 16 = 0 → imgWord img 0x40C = 0 → (∀ k < 4, ∃ c ≤ 28, EntryCosts img k c) →
       (s.feBusy (pl p 0 1) = true → Refuses (.engineLoad h p) s h 0x0601 stDENIED) ∧
       (s.feBusy (pl p 0 1) = false → s.modeIn [mRUN, mPULSE] = true →
         (s.feState (pl p 0 1) ≠ 3 ∨ s.reg (FE_PROG_CRC (pl p 0 1)) ≠ crc32c (stagedBytes img 4096)) → Refuses (.engineLoad h p) s h 0x0601 stBAD_MODE)) ∧
     (∀ (s : State) (h : Hdr) (p : List Byte), Accepts s.toHub h 0x0601 → LastChunk s.toHub p → pl p 0 1 = 8 → s.modeIn [mRUN, mPULSE] = false →
       let img := wholeImage s.toHub p
       let pay := words [40 + 256 * 56, crc32c (stagedBytes img 4096)]
       (JunctionLegal img → s.mode = mIDLE → Replies (.engineLoad h p) s h 0x0601 pay fun t => t.stage 8 = {} ∧ Holds 0x38008000 img s.toHub t ∧
         t.reg JCT_PARAM0 = imgWord img 4 ∧ t.reg JCT_PARAM1 = imgWord img 8 % 2 ^ 32 ∧ t.bit JCT_STATUS 5 = true ∧ t.fld JCT_STATUS 11 8 = 0 ∧
         KeepsRegs [JCT_PARAM0, JCT_PARAM1, JCT_STATUS] s.toHub t ∧ KeepsRest s.toHub { t with staging := s.staging, jct := s.jct }) ∧
       (JunctionLegal img → s.mode ≠ mIDLE → Replies (.engineLoad h p) s h 0x0601 pay fun t => t.stage 8 = {} ∧
         t.jct = { s.jct with image := some (s.frame + s.toTurn, img) } ∧ Touches [] s.toHub { t with staging := s.staging, jct := s.jct }) ∧
       (¬ JunctionLegal img → Refuses (.engineLoad h p) s h 0x0601 stBAD_ARG)) ∧
     (∀ (s : State) (h : Hdr) (p : List Byte), Accepts s.toHub h 0x0601 → 4 ≤ p.length → p.length ≤ 1024 → p.length % 4 = 0 → pl p 0 1 = 8 →
       s.modeIn [mRUN, mPULSE] = true → Refuses (.engineLoad h p) s h 0x0601 stBAD_MODE))

/-- A kept Junction image is put into use at crossing 0 and clears a fault (R199, R200); a crossing whose partner's block has not come is
clustered without it, sent DEGRADED and counted (R205). By the model's reading a kept image waits for a later crossing 0 while the mode of the
crossing is none in which R16 lets the engine's memory be written (log entry 223), and a load clears a fault when it is written (log entry
56). -/
def Obligations.JunctionEvents : Prop :=
  (∀ (s : State) (f : Nat) (img : List (Nat × Nat)), s.jct.image = some (f, img) → f ≤ s.frame → s.tt.crossing = 0 →
    jctModes.contains s.now.mode = true →
    Runs .junctionImageApply s fun t => t.jct.image = none ∧ t.reg JCT_PARAM0 = imgWord img 4 % 2 ^ 32 ∧ t.reg JCT_PARAM1 = imgWord img 8 % 2 ^ 32 ∧
      t.bit JCT_STATUS 5 = true ∧ t.fld JCT_STATUS 11 8 = 0 ∧ t.jct.recs = s.jct.recs) ∧
  (∀ s : State, jctModes.contains s.now.mode = false → Runs .junctionImageApply s fun t => t = s.toHub) ∧
  (∀ (s : State) (r : JRec), s.joined = true → (s.jct.recs.find? fun r => r.n + 16 == s.frame && !r.done && r.hash.isNone) = some r →
    s.pairBlock r.crossing = none →
    Runs .boundaryBlockMissing s fun t => (∃ r' ∈ t.jct.recs, r'.n = r.n ∧ r'.degraded = true ∧ r'.hash = some none) ∧
      t.fld JCT_PAIR_MISS 15 0 = min (s.fld JCT_PAIR_MISS 15 0 + 1) 65535)

/-- R195: of two neighbouring windows at most one is a seed, because an earlier neighbour must be strictly below it and a later one not above it. -/
def Obligations.NoTwoSeedsAdjacent : Prop :=
  ∀ (g : Grid) (seedMin : Nat) (guard : Bool) (x y x' y' : Nat), g.exists x y = true → g.exists x' y' = true → (x, y) ≠ (x', y') →
    x ≤ x' + 1 → x' ≤ x + 1 → y ≤ y' + 1 → y' ≤ y + 1 → ¬ (g.seed seedMin guard x y = true ∧ g.seed seedMin guard x' y' = true)

/-! ### Records (09) -/

/-- The REC commands: the pool in IDLE while every segment is free, a group's configuration without its EN, EN, a command trigger in the next crossing, the
status, and the latch of REC_LAST_TURN. -/
def Obligations.RecordCommands : Prop :=
  (∀ (s : State) (h : Hdr) (p : List Byte), Accepts s.toHub h 0x0801 → p.length = 8 → pl p 0 1 ≤ 3 → 1 ≤ pl p 2 2 → pl p 2 2 < 4096 / 2 ^ pl p 0 1 → pl p 4 1 ≤ 1 →
    plZero p 1 1 = true → plZero p 5 3 = true → s.mode = mIDLE → s.recs.segs = [] → s.poolUnfit (pl p 0 1) = false →
    Replies (.recSetPool h p) s h 0x0801 [] fun t => t.fld REC_CTRL 17 16 = pl p 0 1 ∧ t.fld REC_CTRL 11 0 = pl p 2 2 ∧ t.fld REC_CTRL 20 20 = pl p 4 1 ∧
      t.reg REC_FREE = 4096 / 2 ^ pl p 0 1 ∧ Touches [REC_CTRL, REC_FREE] s.toHub t) ∧
  (∀ (s : State) (h : Hdr) (p : List Byte), Accepts s.toHub h 0x0802 → p.length = 20 → pl p 0 1 ≠ 0 → pl p 1 1 ≤ 31 → pl p 2 1 ≤ 32 → 1 ≤ pl p 3 1 → pl p 3 1 ≤ 16 →
    pl p 4 1 ≤ 1 → pl p 5 1 ≤ 1 → pl p 6 1 ≤ 2 → plZero p 7 1 = true → pl p 10 1 ≤ 1 → pl p 12 2 ≠ 0 → pl p 17 1 ≤ 1 → plZero p 18 2 = true →
    recFits (recConfigBody.gcfgOf p) s.segSize = true → (∀ g < 8, bitAt (pl p 0 1) g = true → (s.recg g).cap = none) →
    Replies (.recConfig h p) s h 0x0802 s.firstCross fun t =>
      (∀ g < 8, bitAt (pl p 0 1) g = true → t.fld (REC_GCFG g) 4 0 = pl p 1 1 ∧ t.fld (REC_GCFG g) 21 16 = pl p 2 1 ∧ t.fld (REC_GCFG g) 12 8 = pl p 3 1 ∧
        t.fld (REC_GCFG g) 24 24 = pl p 4 1 ∧ t.fld (REC_GCFG g) 25 25 = pl p 5 1 ∧ t.fld (REC_GCFG g) 27 26 = pl p 6 1 ∧
        t.bit (REC_GCFG g) 31 = s.bit (REC_GCFG g) 31 ∧ t.fld (REC_HOLDOFF g) 31 16 = pl p 8 2 ∧ t.fld (REC_HOLDOFF g) 7 0 = pl p 11 1 ∧
        t.fld (REC_PERIOD g) 15 0 = pl p 12 2 ∧ t.fld (REC_PERIOD g) 31 16 = pl p 14 2) ∧
      Touches ((List.range 8).flatMap fun g => [REC_GCFG g, REC_HOLDOFF g, REC_PERIOD g, REC_LED g]) s.toHub { t with recs := s.recs }) ∧
  (∀ (s : State) (h : Hdr) (p : List Byte), Accepts s.toHub h 0x0803 → p.length = 4 → pl p 0 1 ≠ 0 → pl p 1 1 ≤ 1 → plZero p 2 2 = true →
    Replies (.recArm h p) s h 0x0803 s.firstCross fun t =>
      (∀ g < 8, bitAt (pl p 0 1) g = true → t.bit (REC_GCFG g) 31 = (pl p 1 1 == 1) ∧ gEn ((t.recCfg g (s.frame + 1)).getD 0 0) = (pl p 1 1 == 1)) ∧
      (∀ g < 8, bitAt (pl p 0 1) g = false → t.reg (REC_GCFG g) = s.reg (REC_GCFG g) ∧ t.recg g = s.recg g) ∧
      Touches ((List.range 8).map REC_GCFG) s.toHub { t with recs := s.recs }) ∧
  (∀ (s : State) (h : Hdr) (p : List Byte), Accepts s.toHub h 0x0804 → p.length = 4 → pl p 0 1 ≠ 0 → plZero p 1 3 = true → s.modeIn [mRUN, mPULSE, mTEST] = true →
    (∀ g < 8, bitAt (pl p 0 1) g = true → s.bit (REC_GCFG g) 2 = true) →
    Runs (.recTrigger h p) s fun t => Waits t h 0x0804 (s.frame + 1) p ∧ t.recs.cmds = s.recs.cmds ++ [(s.frame + 1, pl p 0 1)] ∧
      Touches [] s.toHub { t with recs := s.recs }) ∧
  (∀ (s : State) (h : Hdr), Accepts s.toHub h 0x0805 →
    Replies (.recGetStatus h []) s h 0x0805 (words ([s.reg REC_CTRL, s.reg REC_FREE, s.recStatus] ++ (List.range 8).flatMap fun g =>
      [s.reg (REC_SEQ g), s.reg (REC_COUNT g), s.reg (REC_REFUSED g), s.reg (REC_SKIPPED g), s.reg (REC_LAST_CROSSING g), s.shadowTurn (REC_LAST_TURN g)]))
      fun t => Touches [] s.toHub t) ∧
  (∀ (s : State) (g : Fin 8), Runs (.recLastCrossingRead g) s fun t =>
    t.reg (REC_LAST_TURN g.val) = s.shadowTurn (REC_LAST_TURN g.val) % 2 ^ 32 ∧ Touches [REC_LAST_TURN g.val] s.toHub t)

/-- Trigger evaluation (R212, R215, R217): a trigger that finds a capture open, the hold-off running or the group disarmed is skipped and counted; one that
finds an armed, idle group with segments to spare opens a capture of its crossing.
The record engines' other events (R217, R225): a capture that has run closes and its record enters the group's siding; 8 frames later the group
re-arms and its hold-off begins, by the settings that apply to each trigger: for HO_FRAMES frames, or for the first HO_COUNT triggers evaluated; its end
is forgotten only once no setting can hold a trigger off (the model's form, log entry 218); a held refusal marker is written once a segment is free. -/
def Obligations.RecordEvents : Prop :=
  (∀ (s : State) (g : Fin 8) (r : FrameRec), 9 ≤ s.frame → (s.recg g.val).evaluated ≠ some s.frame → s.frameRec (s.frame - 9) = some r →
       recModes.contains r.mode = true → s.recSources g.val r ≠ 0 → (s.recg g.val).rearmAt = none →
       ((s.recg g.val).cap.isSome = true ∨ s.inHoldoff g.val (s.frame - 9) = true ∨ gEn ((s.recCfg g.val (s.frame - 9)).getD 0 0) = false → Runs (.recTriggerEvaluate g) s fun t =>
         t.fld (REC_SKIPPED g.val) 31 0 = min (s.fld (REC_SKIPPED g.val) 31 0 + 1) (2 ^ 32 - 1) ∧ (t.recg g.val).cap = (s.recg g.val).cap ∧
         (t.recg g.val).evals = (s.recg g.val).evals + 1 ∧ t.recs.segs = s.recs.segs ∧ Touches [REC_SKIPPED g.val] s.toHub { t with recs := s.recs }) ∧
       ((s.recg g.val).cap = none → s.inHoldoff g.val (s.frame - 9) = false → (s.recg g.val).held = none → gEn ((s.recCfg g.val (s.frame - 9)).getD 0 0) = true → s.reserve < s.freeSegs →
         Runs (.recTriggerEvaluate g) s fun t => (∃ c, (t.recg g.val).cap = some c ∧ c.n = s.frame - 9 ∧ c.seq = s.reg (REC_SEQ g.val) ∧ c.sources = s.recSources g.val r) ∧
           t.fld (REC_COUNT g.val) 31 0 = (s.fld (REC_COUNT g.val) 31 0 + 1) % 2 ^ 32 ∧ t.fld (REC_SEQ g.val) 31 0 = (s.fld (REC_SEQ g.val) 31 0 + 1) % 2 ^ 32 ∧
           t.reg (REC_LAST_CROSSING g.val) = r.crossing % 2 ^ 32 ∧ t.recs.segs.length = s.recs.segs.length + 1)) ∧
  ((∀ (s : State) (g : Fin 8) (c : Capture), (s.recg g.val).cap = some c → c.lastFrame + 14 ≤ s.frame →
       Runs (.recCaptureClose g) s fun t => (t.recg g.val).cap = none ∧ (t.recg g.val).rearmAt = some (s.frame + 8) ∧
         (s.count (8 + g.val) < 64 → (t.items (8 + g.val)).getLast? = some (.inMem (s.segAddr c.seg) (s.recordBytes g.val c).length c.seq
           ((s.crossAt c.n).1 * 65536 + g.val * 256))) ∧ KeepsRegs [] s.toHub t) ∧
     (∀ (s : State) (g : Fin 8) (f : Nat), (s.recg g.val).rearmAt = some f → f ≤ s.frame →
       Runs (.recRearm g) s fun t => (t.recg g.val).rearmAt = none ∧ { t with recs := s.recs } = s.toHub ∧
         ∀ n, let w := (s.recCfg g.val n).getD 1 0
           t.inHoldoff g.val n = if bitAt w 8 then decide (0 < bits w 7 0) else decide (s.frame < f + bits w 31 16)) ∧
     (∀ (s : State) (g : Fin 8), Runs (.recHoldoffEnd g) s fun t => { t with recs := s.recs } = s.toHub ∧ (t.recg g.val).cap = (s.recg g.val).cap ∧
       (s.holdoffPast g.val = false → t = s.toHub) ∧ (s.holdoffPast g.val = true → (t.recg g.val).rearmed = none) ∧ ∀ n, t.inHoldoff g.val n = s.inHoldoff g.val n) ∧
     (∀ (s : State) (g : Fin 8) (m : HeldMark), (s.recg g.val).held = some m → 0 < s.freeSegs →
       Runs (.recHeldMarkerWrite g) s fun t => (t.recg g.val).held = none ∧ t.fld (REC_SEQ g.val) 31 0 = (s.fld (REC_SEQ g.val) 31 0 + 1) % 2 ^ 32 ∧
         KeepsRegs [REC_SEQ g.val, REC_FREE] s.toHub t))

/-! ### The codec (10) and the Dispatcher (09) -/

/-- The STREAM commands and STR_FLUSH: settings of the groups named, the neighbour map (R245), a flush of the crossing of the next frame, answered once
it is decided (R236), COLD (R239), and a self-check asked for (R256). -/
def Obligations.StreamCommands : Prop :=
  (∀ (s : State) (h : Hdr) (p : List Byte), Accepts s.toHub h 0x0901 → p.length = 4 → pl p 0 1 ≠ 0 → pl p 1 1 ≤ 3 → plZero p 3 1 = true →
    s.modeIn [mRUN, mPULSE] = false → s.allowAdmitted (pl p 0 1) (pl p 2 1) = true →
    Replies (.streamConfig h p) s h 0x0901 (words ((List.range 8).map fun g => if bitAt (pl p 0 1) g then s.seqAfterOpen g else 0xFFFFFFFF)) fun t =>
      (∀ g < 8, t.reg (STR_GCFG g) = if bitAt (pl p 0 1) g then pl p 2 1 * 256 + pl p 1 1 else s.reg (STR_GCFG g)) ∧
      Touches ((List.range 8).map STR_GCFG) s.toHub t) ∧
  (∀ (s : State) (h : Hdr) (p : List Byte), Accepts s.toHub h 0x0902 → p.length = 36 → pl p 0 1 ≤ 7 → (∀ i < 32, pl p (4 + i) 1 ≤ 31) → plZero p 1 3 = true →
    s.modeIn [mRUN, mPULSE] = false →
    Replies (.streamSetNbr h p) s h 0x0902 (leBytes 4 (s.seqAfterOpen (pl p 0 1))) fun t =>
      t.nbrSet (pl p 0 1) = (List.range 32).map (fun i => pl p (4 + i) 1) ∧
      (t.nbrSet (pl p 0 1) ≠ s.nbrSet (pl p 0 1) → (t.codec (pl p 0 1)).coldNext = true ∧ (t.codec (pl p 0 1)).nbrNew = true) ∧
      (∀ g, g ≠ pl p 0 1 → t.codec g = s.codec g) ∧ Touches ((List.range 8).map (STR_NBR (pl p 0 1))) s.toHub { t with codecs := s.codecs }) ∧
  (∀ (s : State) (h : Hdr) (p : List Byte), Accepts s.toHub h 0x0903 → p.length = 4 → pl p 0 1 ≠ 0 → pl p 1 1 ≤ 1 → plZero p 2 2 = true →
    s.codecRuns = true → s.flushBusy (pl p 0 1) = false →
    Runs (.streamFlush h p) s fun t => Waits t h 0x0903 ((s.frame + 1) * 256 + pl p 0 1) p ∧
      t.flushes = s.flushes ++ [{ n := s.frame + 1, mask := pl p 0 1 }] ∧
      (pl p 1 1 = 1 → ∀ g < 8, bitAt (pl p 0 1) g = true → (t.codec g).coldNext = true) ∧ (pl p 1 1 = 0 → t.codecs = s.codecs) ∧
      Touches [] s.toHub { t with flushes := s.flushes, codecs := s.codecs }) ∧
  (∀ (s : State) (h : Hdr) (p : List Byte), Accepts s.toHub h 0x0904 → p.length = 4 → pl p 0 1 ≤ 7 → plZero p 1 3 = true → s.codecRuns = true →
    (s.codec (pl p 0 1)).asked = false → (∀ x ∈ (s.codec (pl p 0 1)).shuts, x.asked = false) →
    Runs (.streamSelfcheck h p) s fun t => Waits t h 0x0904 (pl p 0 1 + 16) p ∧ t.codec (pl p 0 1) = { s.codec (pl p 0 1) with asked := true, met := false } ∧
      (∀ g, g ≠ pl p 0 1 → t.codec g = s.codec g) ∧ Touches [] s.toHub { t with codecs := s.codecs }) ∧
  (∀ (s : State) (h : Hdr), Accepts s.toHub h 0x0905 →
    Replies (.streamGetStatus h []) s h 0x0905 (words ([s.strStatus, s.reg STR_LOOP, s.reg STR_LOOP_SEQ, s.reg STR_LOOP_ABANDON] ++
      (List.range 8).flatMap fun g => [s.reg (STR_SEQ g), s.reg (STR_CNT g), s.reg (STR_SIZE g), s.reg (STR_GCFG g)])) fun t => Touches [] s.toHub t) ∧
  (∀ (s : State) (m : BitVec 8), s.codecRuns = true →
    (m ≠ 0 → s.flushBusy m.toNat = false → Runs (.strFlushFlush m) s fun t => t.flushes = s.flushes ++ [{ n := s.frame + 1, mask := m.toNat }] ∧
      { t with flushes := s.flushes } = s.toHub) ∧
    Runs (.strFlushColdReq m) s fun t => (∀ g < 8, t.codec g = if bitAt m.toNat g then { s.codec g with coldNext := true } else s.codec g) ∧
      { t with codecs := s.codecs } = s.toHub)

/-- Ingots: the samples up to a closing one form the group's next ingot under its next SEQ (R236, R256); a self-check decodes it, one at a time across all
groups, and on an error it is committed raw (R256); a check that the 20th tick overtakes is abandoned, and, by the model's choice (log entry 199), so is one that a
fourth ingot overtakes; a checked ingot is committed to its group's siding (R252), from which the marshal puts it into the elastic buffer; its space is freed 64
frames after its last carriage (R289). An ACTIVE lane takes the
Dispatcher's next item, which the Dispatcher reads within its windows (R228, R401). -/
def Obligations.IngotEvents : Prop :=
  (∀ (s : State) (g : Fin 8) (xs rest : List OutSamp), firstIngot (s.codec g.val).inbox = some (xs, rest) →
    Runs (.ingotClose g) s fun t => (t.codec g.val).inbox = rest ∧
      (∃ sh, (t.codec g.val).shuts = (s.codec g.val).shuts ++ [sh] ∧ sh.seq = s.reg (STR_SEQ g.val) ∧ sh.samples = xs ∧ xs.getLast?.map (·.took) = some sh.closedAt ∧
        sh.raw = decide (64 * xs.length ≤ sh.coded.length)) ∧
      t.fld (STR_SEQ g.val) 31 0 = (s.fld (STR_SEQ g.val) 31 0 + 1) % 2 ^ 32 ∧ (∀ k, k ≠ g.val → t.codec k = s.codec k) ∧
      Touches [STR_SEQ g.val] s.toHub { t with codecs := s.codecs, free := s.free }) ∧
  (∀ (s : State) (g : Fin 8) (damage : List Nat) (sh : Shut) (rest : List Shut), (s.codec g.val).shuts = sh :: rest →
    s.checkNow = some g.val → s.frame < sh.closedAt + 20 →
    Runs (.ingotSelfcheck g damage) s fun t =>
      (t.codec g.val).shuts = { sh with check := false, asked := false, raw := sh.raw || s.checkIngot g.val sh damage != 0 } :: rest ∧
      t.fld STR_LOOP 31 16 = (s.fld STR_LOOP 31 16 + 1) % 2 ^ 16 ∧
      (s.checkIngot g.val sh damage = 0 → t.fld STR_LOOP 15 0 = s.fld STR_LOOP 15 0 ∧ t.reg STR_LOOP_SEQ = s.reg STR_LOOP_SEQ) ∧
      (s.checkIngot g.val sh damage ≠ 0 → t.fld STR_LOOP 15 8 = min (s.fld STR_LOOP 15 8 + 1) 255 ∧ t.fld STR_LOOP 7 5 = g.val ∧
        t.fld STR_LOOP 3 0 = s.checkIngot g.val sh damage % 16 ∧ t.reg STR_LOOP_SEQ = sh.seq % 2 ^ 32) ∧
      Touches [STR_LOOP, STR_LOOP_SEQ] s.toHub { t with codecs := s.codecs }) ∧
  (∀ (s : State) (g : Fin 8) (damage : List Nat), s.checkNow ≠ some g.val → Runs (.ingotSelfcheck g damage) s fun t => t = s.toHub) ∧
  (∀ (s : State) (g : Fin 8) (sh : Shut) (rest : List Shut), (s.codec g.val).shuts = sh :: rest → sh.check = true →
    sh.closedAt + 20 ≤ s.frame + 1 ∨ 4 ≤ (s.codec g.val).areas →
    Runs (.selfcheckAbandon g) s fun t => (t.codec g.val).shuts = { sh with check := false, asked := false } :: rest ∧
      t.fld STR_LOOP_ABANDON 15 0 = min (s.fld STR_LOOP_ABANDON 15 0 + 1) 65535 ∧ Touches [STR_LOOP_ABANDON] s.toHub { t with codecs := s.codecs }) ∧
  (∀ (s : State) (g : Fin 8) (sh : Shut) (rest : List Shut), (s.codec g.val).shuts = sh :: rest → sh.check = false →
    let bs := s.ingotBytes g.val sh (s.dropped != 0)
    Runs (.ingotCommit g) s fun t => (t.codec g.val).shuts = rest ∧ t.fld (STR_SIZE g.val) 12 0 = (bs.length - 32) % 8192 ∧
      (s.count g.val < 64 → ∃ info, (t.items g.val).getLast? = some (.blob sh.seq info bs)) ∧
      Touches [STR_CNT g.val, STR_SIZE g.val] s.toHub { t with codecs := s.codecs }) ∧
  (∀ (s : Hub) (g seq : Nat) (cold : Bool) (bs : List Byte), s.msh.place < 0x200000 →
    let t := s.takeIngot g seq cold bs
    (∃ x, t.msh.store = s.msh.store ++ [x] ∧ x.freeAt = none ∧ x.key = s.msh.key) ∧ KeepsRegs [MSH_BUF, ECC_CNT 2, ECC_BEV 2, ECC_STATUS] s t ∧
      (∀ a, a < 0x101F0000 ∨ (0x10200000 ≤ a ∧ a < 0x30000000) ∨ 0x30200000 ≤ a → t.byte a = s.byte a)) ∧
  (∀ (s : Hub) (n : Nat) (x : TxItem), n < 11 → x.typ = tySTREAM →
    let t := s.itemLeft n x
    (∀ z ∈ t.msh.store, z.key = x.key → z.freeAt = some (s.frame + 64)) ∧ (∀ z, z.key ≠ x.key → (z ∈ t.msh.store ↔ z ∈ s.msh.store))) ∧
  (∀ s : State, Runs .ingotRetentionExpire s fun t => (∀ x, x ∈ t.msh.store ↔ x ∈ s.msh.store ∧ ∀ f, x.freeAt = some f → s.frame < f) ∧
    { t with msh := { t.msh with store := s.msh.store } } = s.toHub) ∧
  (∀ (s : State) (n : Fin 6) (it : TxItem) (src : Option Nat), s.dispatcherRuns = true → s.laneState n.val = lsACTIVE → bytesLeft (s.lane n.val).record < 184 →
    s.nextRecord = some (it, src) →
    Runs (.dispatcherSendItem n) s fun t => (∀ k, k ≠ n.val → t.lane k = s.lane k) ∧
      (t.lane n.val).record = (s.lane n.val).record ++ (s.fetchRecord it src).1.toList ∧
      (s.outside 1 it.addr it.bytes.length 0 = none → (∀ g, src = some g → s.outside 1 (ringAddr (8 + g) (s.fld (SD_HEAD (8 + g)) 15 0)) 16 0 = none) →
        s.ecc = [] → s.bit ECC_FLIP 31 = false → (t.lane n.val).record = (s.lane n.val).record ++ [it]))

/-! ### Lanes and carriages (11) -/

/-- The LINK commands and LN_CTRL.RETRAIN (R274, R290, R293): the lanes named take the setting and no other does. That a lane which LINK_ENABLE enables stays OFF until
its mode trains it is the model's reading of R274 and R276 (log entry 76). -/
def Obligations.LinkCommands : Prop :=
  (∀ (s : State) (h : Hdr), Accepts s.toHub h 0x0A01 →
    Replies (.linkStatus h []) s h 0x0A01 (words (((List.range 11).flatMap fun n => [s.reg (LN_STATUS n), s.reg (LN_EVENTS n)]) ++ [s.mshStatus, s.mshAdmit, s.mshBuf]))
      fun t => Touches [] s.toHub t) ∧
  (∀ (s : State) (h : Hdr) (p : List Byte), Accepts s.toHub h 0x0A02 → p.length = 4 → 1 ≤ pl p 0 2 → pl p 0 2 < 2048 → pl p 2 1 ≤ 1 → plZero p 3 1 = true →
    s.enableStatus (pl p 0 2) (pl p 2 1 == 1) = none →
    Replies (.linkEnable h p) s h 0x0A02 [] fun t => ∀ n < 11,
      if bitAt (pl p 0 2) n then t.bit (LN_CTRL n) 0 = (pl p 2 1 == 1) ∧ t.laneState n = (if pl p 2 1 = 1 then s.laneState n else lsOFF)
      else t.reg (LN_CTRL n) = s.reg (LN_CTRL n) ∧ t.reg (LN_STATUS n) = s.reg (LN_STATUS n)) ∧
  (∀ (s : State) (h : Hdr) (p : List Byte), Accepts s.toHub h 0x0A03 → p.length = 4 → 1 ≤ pl p 0 2 → pl p 0 2 < 2048 → plZero p 2 2 = true →
    s.retrainBad (pl p 0 2) = false →
    Replies (.linkRetrain h p) s h 0x0A03 [] fun t => ∀ n < 11,
      if bitAt (pl p 0 2) n && s.bit (LN_CTRL n) 0 then t.laneState n = lsDETECT ∧ t.fld (LN_STATUS n) 15 12 = 8 else t.reg (LN_STATUS n) = s.reg (LN_STATUS n)) ∧
  (∀ (s : State) (n : Fin 11), s.retrainBad (2 ^ n.val) = false → s.bit (LN_CTRL n.val) 0 = true →
    Runs (.lnCtrlRetrain n) s fun t => t.laneState n.val = lsDETECT ∧ t.fld (LN_STATUS n.val) 15 12 = 8 ∧
      ∀ k, k ≠ n.val → k < 11 → t.reg (LN_STATUS k) = s.reg (LN_STATUS k)) ∧
  (∀ (s : State) (h : Hdr) (p : List Byte), Accepts s.toHub h 0x0A04 → p.length = 8 → pl p 0 2 < 2048 → pl p 2 1 ≤ 1 → pl p 3 1 ≤ 63 → 64 ≤ pl p 4 2 →
    pl p 4 2 ≤ 4096 → plZero p 6 2 = true → s.modeIn [mRUN, mPULSE] = false →
    Replies (.linkConfig h p) s h 0x0A04 [] fun t =>
      (∀ n < 11, if bitAt (pl p 0 2) n then t.bit (LN_CTRL n) 1 = (pl p 2 1 == 1) ∧ t.fld (LN_TIMING n) 12 0 = pl p 4 2 ∧
          t.fld (LN_TIMING n) 21 16 = (if n = 8 ∨ n = 10 then pl p 3 1 else s.fld (LN_TIMING n) 21 16)
        else t.reg (LN_CTRL n) = s.reg (LN_CTRL n) ∧ t.reg (LN_TIMING n) = s.reg (LN_TIMING n)) ∧
      Touches ((List.range 11).flatMap fun n => [LN_CTRL n, LN_TIMING n]) s.toHub t) ∧
  (∀ (s : State) (h : Hdr) (p : List Byte), Accepts s.toHub h 0x0A05 → p.length = 4 → pl p 0 1 ≤ 7 → pl p 1 1 ≤ 15 → pl p 3 1 ≤ 31 →
    pl p 1 1 + pl p 2 1 + pl p 3 1 ≤ 63 → s.modeIn [mIDLE, mTEST] = true →
    Replies (.linkSetTxeq h p) s h 0x0A05 [] fun t => t.reg (LN_TXEQ (pl p 0 1)) = pl p 3 1 * 2 ^ 16 + pl p 2 1 * 2 ^ 8 + pl p 1 1 ∧
      Touches [LN_TXEQ (pl p 0 1)] s.toHub t) ∧
  (∀ (s : State) (h : Hdr) (p : List Byte), Accepts s.toHub h 0x0A06 → p.length = 4 → 1 ≤ pl p 0 1 → pl p 0 1 ≤ 63 → plZero p 1 3 = true →
    s.modeIn [mIDLE, mPREPARE, mHOLD, mTEST] = true → admitted s.turnLen (pl p 0 1) s.rateSet s.allowSet = true →
    Replies (.linkSetStream h p) s h 0x0A06 (leBytes 2 s.demandNow ++ leBytes 2 (capSum (pl p 0 1) - capMax (pl p 0 1))) fun t =>
      t.fld MSH_CTRL 5 0 = pl p 0 1 ∧ KeepsRegs [MSH_CTRL, MSH_STATUS] s.toHub t) ∧
  (∀ (s : State) (h : Hdr) (p : List Byte), Accepts s.toHub h 0x0A07 → p.length = 4 → pl p 0 2 < 2048 → pl p 2 1 ≤ 3 → plZero p 3 1 = true → s.mode = mTEST →
    Replies (.linkTest h p) s h 0x0A07 [] fun t =>
      (∀ n < 11, if bitAt (pl p 0 2) n then t.fld (LN_CTRL n) 11 8 = pl p 2 1 else t.reg (LN_CTRL n) = s.reg (LN_CTRL n)) ∧
      Touches ((List.range 11).map LN_CTRL) s.toHub t) ∧
  (∀ (s : State) (h : Hdr) (p : List Byte), Accepts s.toHub h 0x0A08 → p.length = 4 → pl p 0 1 ≤ 10 → plZero p 1 3 = true →
    Replies (.linkGetCounters h p) s h 0x0A08 (words ([LN_CNT0, LN_CNT1, LN_CNT2, LN_CNT3, LN_EVENTS, LN_TEST, LN_TXEQ, LN_RXEQ, LN_PARTNER].map
      fun r => s.reg (r (pl p 0 1)))) fun t => Touches [] s.toHub t)

/-- Training (R275-R278): what a lane hears and finds moves it from state to state; a state that has lasted too long, or a lost signal, sends it to DOWN
for a cause, from where its back-off returns it to DETECT; a tap of a transmitter follows a request, or is at its limit. A lane whose ends differ in PRECODE_EN
never reaches SYMLOCK (R268). By the model's reading every entry to TRAIN loads the reset values of LN_TXEQ (log entry 74), and a step that would take the sum of the
taps above 63 is at its limit (log entry 78); what the far end of a transmitter holds is its own (log entry 201). -/
def Obligations.LaneTraining : Prop :=
  (∀ (s : State) (n : Fin 11), s.laneState n.val = lsDETECT → Runs (.laneDetectPass n) s fun t => t.laneState n.val = lsTRAIN ∧
    (n.val < 8 → t.reg (LN_TXEQ n.val) = 6 * 2 ^ 16 + 48 * 2 ^ 8 + 2)) ∧
  (∀ (s : State) (n : Fin 11) (ctle : BitVec 4) (dfe eye : BitVec 8), 8 ≤ n.val → s.laneState n.val = lsTRAIN →
    Runs (.rxAdaptDone n ctle dfe eye) s fun t => (t.lane n.val).ready = true ∧
      t.laneState n.val = (if (s.lane n.val).farReady || s.bootsOnPair n.val then lsBITLOCK else lsTRAIN) ∧
      (s.bit (LN_RXEQ n.val) 31 = true → t.fld (LN_RXEQ n.val) 19 16 = ctle.toNat ∧ t.fld (LN_RXEQ n.val) 15 8 = dfe.toNat ∧ t.fld (LN_RXEQ n.val) 7 0 = eye.toNat)) ∧
  (∀ (s : State) (n : Fin 11) (ctle : BitVec 4) (dfe eye : BitVec 8), 8 ≤ n.val → s.laneState n.val = lsACTIVE →
    Runs (.rxAdaptDone n ctle dfe eye) s fun t => Touches [LN_RXEQ n.val] s.toHub t ∧ (if s.bit (LN_RXEQ n.val) 31 then
      t.fld (LN_RXEQ n.val) 19 16 = ctle.toNat ∧ t.fld (LN_RXEQ n.val) 15 8 = dfe.toNat ∧ t.fld (LN_RXEQ n.val) 7 0 = eye.toNat else t = s.toHub)) ∧
  (∀ (s : State) (n : Fin 11) (control status : BitVec 32), 8 ≤ n.val → s.laneState n.val = lsTRAIN →
    Runs (.trainingFrameReceive n control status) s fun t =>
      t.laneState n.val = (if (s.lane n.val).ready && (bitAt status.toNat 8 || s.bootsOnPair n.val) then lsBITLOCK else lsTRAIN) ∧
      ∀ m ∈ s.answersFor n.val, (t.lane m).req = control.toNat) ∧
  (∀ (s : State) (n : Fin 8), s.laneState n.val = lsACQUIRE → Runs (.txeqStep n) s fun t => t = s.toHub) ∧
  (∀ (s : State) (n : Fin 8) (k : Fin 3), s.laneState n.val ≠ lsACQUIRE → bitAt (s.lane n.val).req 8 = false → (∀ j < 3, j ≠ k.val → tapOf (s.lane n.val).req j = 0) →
    tapOf (s.lane n.val).stat k.val = 0 →
    let v := s.fld (LN_TXEQ n.val) (tapHi k.val) (tapLo k.val)
    let sum := s.fld (LN_TXEQ n.val) 3 0 + s.fld (LN_TXEQ n.val) 13 8 + s.fld (LN_TXEQ n.val) 20 16
    Runs (.txeqStep n) s fun t =>
      (tapOf (s.lane n.val).req k.val = 1 → (t.fld (LN_TXEQ n.val) (tapHi k.val) (tapLo k.val), tapOf (t.lane n.val).stat k.val) =
        if v < tapMax k.val ∧ sum < 63 then (v + 1, 1) else (v, 2)) ∧
      (tapOf (s.lane n.val).req k.val = 2 → (t.fld (LN_TXEQ n.val) (tapHi k.val) (tapLo k.val), tapOf (t.lane n.val).stat k.val) =
        if 0 < v then (v - 1, 1) else (v, 2)) ∧ Touches [LN_TXEQ n.val] s.toHub { t with lanes := s.lanes, msh := s.msh }) ∧
  (∀ (s : State) (n : Fin 11) (role laneNo hubId flags : BitVec 8) (dev : BitVec 64), 8 ≤ n.val → s.laneState n.val = lsCAPS →
    Runs (.capsReceive n role laneNo hubId flags dev) s fun t => t.reg (LN_PARTNER n.val) = hubId.toNat * 2 ^ 16 + laneNo.toNat * 2 ^ 8 + role.toNat % 16 * 2 ^ 4 + 1 ∧
      (t.lane n.val).ack = true ∧
      t.laneState n.val = if ((s.lane n.val).ackSent && ((s.lane n.val).farAck || bitAt flags.toNat 1)) || s.bootsOnPair n.val then lsACTIVE else lsCAPS) ∧
  (∀ (s : State) (n : Fin 11), 8 ≤ n.val → s.laneState n.val = lsBITLOCK → Runs (.cdrLock ⟨n, (s.lane n.val).pre⟩) s fun t => t.laneState n.val = lsSYMLOCK) ∧
  (∀ (s : State) (n : Fin 11) (far : Bool), (s.lane n.val).pre ≠ far → Runs (.cdrLock ⟨n, far⟩) s fun t => t = s.toHub) ∧
  (∀ (s : State) (rx n : Fin 11) (flags : BitVec 8) (control status : BitVec 32), rx.val = 8 ∨ rx.val = 10 → n.val ≤ 6 → s.laneState n.val = lsBITLOCK →
    Runs (.laneStateReceive rx n 4 flags control status) s fun t =>
      t.laneState n.val = if Config.farPrecode n.val (s.lane n.val).entered = (s.lane n.val).pre then lsSYMLOCK else lsBITLOCK) ∧
  (∀ (s : State) (n : Fin 11) (k : Nat), laneTimeout (s.laneState n.val) = some k → (s.lane n.val).since + k ≤ s.xo →
    Runs (.laneStateTimeout n) s fun t => t.laneState n.val = lsDOWN ∧ t.fld (LN_STATUS n.val) 15 12 = s.laneState n.val - 1 ∧
      (t.lane n.val).wait = s.fld (LN_STATUS n.val) 10 8 ∧ t.fld (LN_STATUS n.val) 10 8 = min 6 (s.fld (LN_STATUS n.val) 10 8 + 1)) ∧
  (∀ (s : State) (n : Fin 11), lsTRAIN ≤ s.laneState n.val → s.laneState n.val ≤ lsCAPS →
    Runs (.laneSignalLoss n) s fun t => t.laneState n.val = lsDOWN ∧ t.fld (LN_STATUS n.val) 15 12 = 6) ∧
  (∀ (s : State) (n : Fin 11), s.laneState n.val = lsDOWN → (s.lane n.val).since + 2 ^ (s.lane n.val).wait * 40000 ≤ s.xo →
    Runs (.laneBackoffEnd n) s fun t => t.laneState n.val = lsDETECT)

/-- A lane in service (R269, R279, R33): the fourth invalid carriage in a row takes it out of service, sixteen valid ones in sequence return
it; its far end's report does the same for a transmitter; a lane blind for too long trains again; the frame clock changes to the other lane
when that alone has been locked at a tick, and the PLL is then locked to it. -/
def Obligations.LanesInService : Prop :=
  (∀ (s : State) (n : Fin 11) (levels : BitVec 1600) (after margin : Int), 8 ≤ n.val → s.laneState n.val = lsACTIVE →
    Car.decode false (s.rxBits n.val (unpackLevels levels.toNat)) = none →
    Runs (.carriageReceive n levels after margin) s fun t => t.fld (LN_CNT2 n.val) 31 0 = min (s.fld (LN_CNT2 n.val) 31 0 + 1) (2 ^ 32 - 1) ∧
      t.laneState n.val = if (s.lane n.val).bad + 1 ≥ 4 then (if s.mode = mTEST then lsDETECT else lsACQUIRE) else lsACTIVE) ∧
  (∀ (s : State) (n : Fin 11) (levels : BitVec 1600) (after margin : Int) (c : Car) (k : Nat), 8 ≤ n.val → s.laneState n.val = lsACTIVE →
    Car.decode false (s.rxBits n.val (unpackLevels levels.toNat)) = some (c, k) → c.typ = tyIDLE →
    Runs (.carriageReceive n levels after margin) s fun t => t.fld (LN_CNT0 n.val) 31 0 = (s.fld (LN_CNT0 n.val) 31 0 + 1) % 2 ^ 32 ∧
      t.fld (LN_CNT3 n.val) 31 0 = min (s.fld (LN_CNT3 n.val) 31 0 + k) (2 ^ 32 - 1) ∧ (t.lane n.val).bad = 0 ∧
      Touches [LN_CNT0 n.val, LN_CNT1 n.val, LN_CNT3 n.val] s.toHub { t with lanes := s.lanes, tm := s.tm }) ∧
  (∀ (s : State) (n : Fin 11) (levels : BitVec 1600) (after margin : Int) (c : Car) (k : Nat), 8 ≤ n.val → s.laneState n.val = lsACQUIRE →
    Car.decode true (s.rxBits n.val (unpackLevels levels.toNat)) = some (c, k) → (s.lane n.val).lastSeq = some ((c.cseq + 63) % 64) → (s.lane n.val).good = 15 →
    Runs (.carriageReceive n levels after margin) s fun t => t.laneState n.val = lsACTIVE ∧ t.fld (LN_STATUS n.val) 10 8 = 0) ∧
  (∀ (s : State) (rx n : Fin 11) (state flags : BitVec 8) (control status : BitVec 32), rx.val = 8 ∨ rx.val = 10 → n.val ≤ 6 →
    Runs (.laneStateReceive rx n state flags control status) s fun t =>
      (s.laneState n.val = lsACTIVE → state.toNat = lsACQUIRE → s.mode ≠ mTEST → t.laneState n.val = lsACQUIRE ∧ t.fld (LN_STATUS n.val) 15 12 = 9) ∧
      (s.laneState n.val = lsACQUIRE → state.toNat = lsACTIVE → t.laneState n.val = lsACTIVE) ∧
      (s.laneState n.val = lsDOWN → t.laneState n.val = lsDOWN ∧ (t.lane n.val).far = state.toNat ∧ (t.lane n.val).req = control.toNat ∧
        (t.lane n.val).farReady = bitAt flags.toNat 0 ∧ (t.lane n.val).farAck = bitAt flags.toNat 1)) ∧
  (∀ (s : State) (n : Fin 11), s.laneState n.val = lsACQUIRE → (s.lane n.val).entered + (s.lane n.val).blind ≤ s.frame →
    Runs (.laneBlindLimit n) s fun t => t.laneState n.val = lsDETECT ∧ t.fld (LN_STATUS n.val) 15 12 = 7) ∧
  (∀ (s : State) (n : Nat), s.clockLane = some n →
    (s.switchable n = true → s.tt.unlocked = true →
      Runs .clockSourceSwitch s fun t => t.fld TT_STATUS 5 4 = 1 - s.fld TT_STATUS 5 4 ∧ t.tm.sync = none ∧ t.tm.dreq = (if s.dreqWaits then s.tm.dreq else none) ∧ t.tm.ms = none ∧ t.tm.arrival = none ∧
        (∀ k < 11, (t.lane k).began = none ∧ (t.lane k).ctlBegan = none) ∧ t.bit TT_STATUS 6 = true ∧
        t.tt = { s.tt with await := s.tt.await || !s.tt.locked, locked := true, pllHold := false, unlocked := false } ∧
        Touches [TT_STATUS] s.toHub { t with tm := s.tm, lanes := s.lanes, pr := s.pr, tt := s.tt }) ∧
    (s.tt.unlocked = false → Runs .clockSourceSwitch s fun t => t = s.toHub))

/-! ### Messages (17) and time (12) -/

/-- A command in sequence is consumed and its source's SEQ follows (R416, R417); one ahead of it is held; a malformed one is turned away and
counted; a full siding that refuses counts it (R388, R422); a duplicate of a consumed command is answered with its stored response,
DISPOSITION 1, or not at all while none is stored (R418); one in the duplicate range that matches no consumed command, and one further ahead,
are answered BAD_ARG with DISPOSITION 3 and consume nothing (R417, R418). Held and deferred commands time out (R417, R422). The CSPI port
hands messages in and out, the oldest of what waits first, and a padding message when nothing waits (R429, R430). Three clauses rest on the
model's reading: a command that a full siding refuses consumes no SEQ (log entry 11), a command of source 0 that comes while the Dispatcher is
frozen keeps what its checks 1 to 3 found until it can be sequenced (log entry 13), and what a transaction sends stands in the model's own
field cspiOut (log entry 213). -/
def Obligations.CommandsArrive : Prop :=
  (∀ (s : State) (port : Fin 4) (m : List Byte), s.takesFrom (32 + port.val) = true → 20 ≤ m.length → 20 ≤ pl m 2 2 →
    let src := sourceOf (32 + port.val)
    let r := MBX_SRC src
    let d := (pl m 4 2 + 2 ^ 16 - s.fld r 15 0) % 2 ^ 16
    let c := parseCmd (32 + port.val) m
    (RingClean s.toHub (32 + port.val) → s.count (32 + port.val) < 64 → messageStatus m = none → (src = 0 → s.linkPaused = false) → s.mbx.taken = [] → knownOp (pl m 6 2) = true →
      (∀ x ∈ s.mbx.held, x.1.src ≠ src) →
      (pl m 10 1 = 1 ∨ s.bit r 31 = false ∨ d = 1 → Runs (.commandReceive port m) s fun t => t.mbx.taken = [c] ∧
        t.fld r 15 0 = pl m 4 2 ∧ t.bit r 31 = true ∧ t.fld MBX_CNT0 31 16 = (s.fld MBX_CNT0 31 16 + 1) % 2 ^ 16 ∧ Touches [r, MBX_CNT0] s.toHub t) ∧
      (pl m 10 1 = 0 → s.bit r 31 = true → d = 0 ∨ 65529 ≤ d → c.cmdKey ∈ s.mbx.recent →
        ((∀ x ∈ s.mbx.stored, x.cmdKey ≠ c.cmdKey) → Runs (.commandReceive port m) s fun t => t.mbx = s.mbx ∧
          t.fld MBX_CNT1 31 16 = min (s.fld MBX_CNT1 31 16 + 1) 65535 ∧ Touches [MBX_CNT1] s.toHub t) ∧
        ∀ x, (s.mbx.stored.reverse.find? fun (y : Resp) => y.cmdKey == c.cmdKey) = some x → s.count (36 + src) < 64 → s.count 36 < 64 →
          let far := src = 2 ∧ (loadingCmd x.op ∨ ¬ s.joined)
          Runs (.commandReceive port m) s fun t => t.mbx = { s.mbx with stamp := s.mbx.stamp + 1 } ∧
            (t.items (if far then 36 else 36 + src)).getLast? = some (.resp { x with disp := 1, target := if far then 1 else x.target } s.mbx.stamp) ∧
            t.fld MBX_CNT1 31 16 = min (s.fld MBX_CNT1 31 16 + 1) 65535 ∧ Touches [MBX_CNT1] s.toHub t) ∧
      (pl m 10 1 = 0 → s.bit r 31 = true → 2 ≤ d → d ≤ 8 → Runs (.commandReceive port m) s fun t => t.mbx.taken = [] ∧
        t.mbx.held = s.mbx.held ++ [(c, s.xo)] ∧ Touches [] s.toHub t)) ∧
    (RingClean s.toHub (32 + port.val) → s.count (32 + port.val) < 64 → messageStatus m = none → (src = 0 → s.linkPaused = false) → s.mbx.taken = [] →
      pl m 10 1 = 0 → s.bit r 31 = true → (9 ≤ d ∧ d ≤ 65528) ∨ ((d = 0 ∨ 65529 ≤ d) ∧ c.cmdKey ∉ s.mbx.recent) → s.count (36 + src) < 64 → s.count 36 < 64 →
      let far := src = 2 ∧ (loadingCmd c.op = true ∨ s.joined = false)
      Runs (.commandReceive port m) s fun t => t.mbx = { s.mbx with stamp := s.mbx.stamp + 1 } ∧
        (t.items (if far then 36 else 36 + src)).getLast? = 
          some (.resp { src := src, seq := c.seq, op := c.op, status := stBAD_ARG, target := (if far then 1 else c.target), crc := c.crc, disp := 3, payload := [] } s.mbx.stamp) ∧ Touches [] s.toHub t) ∧
    (∀ st, RingClean s.toHub (32 + port.val) → s.count (32 + port.val) < 64 → messageStatus m = some st → (src = 0 → s.linkPaused = false) → Runs (.commandReceive port m) s fun t => t.mbx.taken = s.mbx.taken ∧
      t.fld MBX_CNT0 15 0 = (if st = stBAD_ARG then s.fld MBX_CNT0 15 0 else min (s.fld MBX_CNT0 15 0 + 1) 65535) ∧ Touches [MBX_CNT0] s.toHub t) ∧
    (s.count (32 + port.val) < 64 → src = 0 → s.linkPaused = true → Runs (.commandReceive port m) s fun t =>
      t.mbx.waiting = s.mbx.waiting ++ [(c, messageStatus m)] ∧ t.mbx.taken = s.mbx.taken ∧ Touches [] s.toHub t) ∧
    (64 ≤ s.count (32 + port.val) → s.fld (SD_STATUS (32 + port.val)) 1 0 = 2 → Runs (.commandReceive port m) s fun t => t.mbx.taken = s.mbx.taken ∧
      t.fld MBX_CNT2 15 0 = min (s.fld MBX_CNT2 15 0 + 1) 65535 ∧ Touches [] s.toHub t)) ∧
  (∀ (s : State) (src : Fin 3) (seq : BitVec 16) (x : Cmd × Nat), (s.mbx.held.find? fun y => y.1.src == src.val && y.1.seq == seq.toNat) = some x →
    (src = 0 → s.linkPaused = false) → x.2 + s.fld MBX_CTRL 15 8 * 4000 ≤ s.xo →
    Runs (.heldCommandTimeout src seq) s fun t => t.mbx.held = s.mbx.held.erase x ∧ t.fld MBX_CNT1 15 0 = min (s.fld MBX_CNT1 15 0 + 1) 65535 ∧
      Touches [MBX_CNT1] s.toHub t) ∧
  (∀ (s : State) (d : Def) (l : Nat), s.mbx.deferred = [d] → s.limitOf d = some l → d.since + l ≤ s.xo → s.bit PAIR_STATUS 15 = false →
    s.mbx.both = [] →
    Runs (.deferredCommandTimeout d.hdr.src d.hdr.seq) s fun t => Answered t d.hdr d.op stTIMEOUT [] ∧ t.mbx.deferred = [] ∧
      (d.op = 0x0904 → (t.codec (d.arg - 16)).asked = false) ∧ Touches [] s.toHub { t with codecs := s.codecs }) ∧
  (∀ (s : State) (m : List Byte), s.mode ≠ mDORMANT → s.bit RP_PD_STATUS 1 = true →
    (4 ≤ m.length → m.length = pl m 2 2 → pl m 0 1 = 0x20 → Runs (.cspiWriteMsg m) s fun t => t = s.receiveCommand 34 m) ∧
    (m.length < 4 ∨ m.length ≠ pl m 2 2 → Runs (.cspiWriteMsg m) s fun t => t.fld MBX_CNT0 15 0 = min (s.fld MBX_CNT0 15 0 + 1) 65535 ∧
      Touches [MBX_CNT0] s.toHub t)) ∧
  (∀ (s : State) (n : Nat) (r : Resp) (st : Nat), s.cspiNext = some (.resp r st) → s.mode ≠ mDORMANT → s.bit RP_PD_STATUS 1 = true → RingClean s.toHub 37 →
    Runs (.cspiReadMsg n) s fun t => t.mbx.cspiOut = (respMsg r).take n ∧
      (n < (respMsg r).length → { t with mbx := { t.mbx with cspiOut := s.mbx.cspiOut } } = s.toHub) ∧
      ((respMsg r).length ≤ n → s.count 37 ≠ 0 → takeHeld 37 s.held = none → t.items 37 = (s.items 37).drop 1 ∧ ∀ k, k ≠ 37 → t.items k = s.items k)) ∧
  (∀ (s : State) (n : Nat), s.cspiNext = none → s.mode ≠ mDORMANT → s.bit RP_PD_STATUS 1 = true →
    Runs (.cspiReadMsg n) s fun t => t = { s.toHub with mbx := { s.mbx with cspiOut := ([0, 0, 8, 0, 0, 0, 0, 0] : List Byte).take n } }) ∧
  (∀ s : State, s.mode ≠ mDORMANT → s.bit RP_PD_STATUS 1 = true →
    Runs .cspiReadStatus s fun t => t = { s.toHub with mbx := { s.mbx with cspiOut := leBytes 4 s.mbxStatus } }) ∧
  (∀ s : State, s.mode = mDORMANT ∨ s.bit RP_PD_STATUS 1 = false → Runs .cspiReadStatus s fun t => t = s.toHub)

/-- The TIME commands (R314-R316) and the read of TM_NOW_LO, which latches the rest of the count for its master (R297). That WRAP gathers until a
response reports it, and is then 0 again, is the model's reading of R312 (log entry 95). -/
def Obligations.TimeCommands : Prop :=
  (∀ (s : State) (h : Hdr), Accepts s.toHub h 0x0B01 →
    Replies (.timeStatus h []) s h 0x0B01 (words ([TM_STATUS, TM_OFFSET, TM_PATH_DELAY, TM_RATE, TM_INTEG, TM_PHASE, TM_PHASE_ERR, TM_HOLD_AGE, TM_COUNT].map s.reg))
      fun t => Touches [] s.toHub t) ∧
  (∀ (s : State) (h : Hdr) (p : List Byte), Accepts s.toHub h 0x0B02 → p.length = 20 → pl p 0 1 ≤ 3 → 10 ≤ pl p 2 1 → pl p 2 1 ≤ 24 → pl p 3 1 ≤ 7 →
    1 ≤ pl p 8 4 → pl p 8 4 < 2 ^ 31 → 1 ≤ pl p 12 2 → 1 ≤ pl p 14 2 → 4 ≤ pl p 16 1 → pl p 16 1 ≤ 15 → plZero p 17 3 = true →
    s.modeIn [mRUN, mPULSE] = false ∨ pl p 0 1 = 3 →
    Replies (.timeConfig h p) s h 0x0B02 [] fun t =>
      t.reg TM_CTRL = pl p 1 1 * 2 ^ 16 + pl p 2 1 * 2 ^ 8 + pl p 0 1 / 2 * 2 ^ 4 + pl p 0 1 % 2 * 2 ^ 3 + pl p 3 1 ∧
      t.reg TM_GAIN = pl p 4 2 * 2 ^ 16 + pl p 6 2 ∧ t.reg TM_RATE_LIMIT = pl p 8 4 ∧ t.reg TM_STEP = pl p 14 2 * 2 ^ 16 + pl p 12 2 ∧
      t.fld TM_PHASE 15 12 = pl p 16 1 ∧
      Touches [TM_CTRL, TM_GAIN, TM_RATE_LIMIT, TM_STEP, TM_PHASE, TM_STATUS, TT_STATUS] s.toHub { t with tm := s.tm }) ∧
  (∀ (s : State) (h : Hdr) (p : List Byte), Accepts s.toHub h 0x0B03 → p.length = 4 → pl p 0 1 ≤ 10 → plZero p 1 1 = true → s.modeIn [mRUN, mPULSE] = false →
    Replies (.timeSetDelay h p) s h 0x0B03 [] fun t => t.reg (TM_DELAY (pl p 0 1)) = pl p 2 2 ∧ Touches [TM_DELAY (pl p 0 1)] s.toHub t) ∧
  (∀ (s : State) (h : Hdr) (p : List Byte), Accepts s.toHub h 0x0B04 → p.length = 12 → plZero p 9 3 = true → s.modeIn [mRUN, mPULSE] = false →
    Replies (.timeSet h p) s h 0x0B04 (crossPayload s.nextCross.1 s.nextCross.2) fun t =>
      t.tm = { s.tm with step := some (.inr ((pl p 4 4 * 2 ^ 32 + pl p 0 4) * 256 + pl p 8 1)), stepAt := s.frame } ∧ Touches [] s.toHub { t with tm := s.tm }) ∧
  (∀ (s : State) (h : Hdr) (p : List Byte), Accepts s.toHub h 0x0B05 → p.length = 8 → pl p 0 2 ≤ 1023 → plZero p 3 1 = true → plZero p 6 2 = true →
    pl p 4 2 ≤ 1023 →
    (pl p 2 1 = 0 → Replies (.timePhase h p) s h 0x0B05 (crossPayload s.nextCross.1 s.nextCross.2 ++ leBytes 2 (s.fld TM_PHASE 9 0) ++ [wrapByte s.tm.wrap, 0])
      fun t => t.fld TM_PHASE 25 16 = pl p 0 2 ∧ t.fld TM_PHASE 9 0 = s.fld TM_PHASE 9 0 ∧ t.tm = { s.tm with wrap := 0 } ∧ Touches [TM_PHASE] s.toHub { t with tm := s.tm }) ∧
    (pl p 2 1 = 2 → s.modeIn [mRUN, mPULSE] = false →
      Replies (.timePhase h p) s h 0x0B05 (crossPayload s.nextCross.1 s.nextCross.2 ++ leBytes 2 (pl p 4 2) ++ [wrapByte s.tm.wrap, 0]) fun t =>
        t.fld TM_PHASE 25 16 = pl p 0 2 ∧ t.fld TM_PHASE 9 0 = pl p 4 2 ∧ t.bit TM_CTRL 4 = false ∧
        Touches [TM_PHASE, TM_CTRL, TM_PHASE_ERR] s.toHub { t with tm := s.tm }) ∧
    (pl p 2 1 = 1 → s.modeIn [mRUN, mPULSE] = false → s.servo = 2 ∨ s.servo = 3 → s.tm.target.isSome = true →
      let g := ((if s.slaved then s.pr.farPhase else pl p 0 2) * 16 + 16384 - s.tm.mean % 16384) % 16384
      let v := (rdiv g 16).toNat % 1024
      Replies (.timePhase h p) s h 0x0B05 (crossPayload s.nextCross.1 s.nextCross.2 ++ leBytes 2 v ++
          [wrapByte (s.tm.wrap + phaseWrap (s.fld TM_PHASE 9 0) v), 0]) fun t => t.tm.target = some g ∧ t.tm.wrap = 0 ∧ t.fld TM_PHASE 25 16 = pl p 0 2 ∧
        t.fld TM_PHASE 9 0 = v ∧
        Touches [TM_PHASE, TM_PHASE_ERR] s.toHub { t with tm := s.tm })) ∧
  (∀ (s : State) (h : Hdr), Accepts s.toHub h 0x0B06 → Runs (.timeGet h []) s fun t => Waits t h 0x0B06 s.frame [] ∧ Touches [] s.toHub t) ∧
  (∀ (s : State) (m : Fin 6), Runs (.tmNowLoRead m) s fun t =>
    t.latchOf m.val = (s.timeFull / 2 ^ 32 / 2 ^ 40 % 2 ^ 32, s.timeFull / 2 ^ 32 % 256) ∧ (∀ k, k ≠ m.val → t.latchOf k = s.latchOf k) ∧
      { t with tm := { t.tm with latches := s.tm.latches } } = s.toHub)

/-- Time messages and the servo (R300-R306): a Sync keeps its capture, the Follow_Up of its SEQ gives ms and an offset that the servo takes, a Delay_Resp a
path delay; a message that does not fit is counted. That D_f keeps 16 more fraction bits than the captures is the model's choice (log entry 90). -/
def Obligations.TimeMessages : Prop :=
  (∀ (s : State) (n : Fin 11) (dom ver : BitVec 8) (seq : BitVec 16) (after : Int), Runs (.syncReceive n dom ver seq after) s fun t =>
    (s.timeOk n.val dom.toNat ver.toNat = true →
      t.tm = { s.tm with sync := some (seq.toNat, s.frame, (s.captureAt after + 2 ^ 72 - s.delayUnits n.val) % 2 ^ 72) } ∧ { t with tm := s.tm } = s.toHub) ∧
    (s.timeOk n.val dom.toNat ver.toNat = false → t.fld TM_COUNT 15 0 = min (s.fld TM_COUNT 15 0 + 1) 65535 ∧ Touches [TM_COUNT] s.toHub t)) ∧
  (∀ (s : State) (n : Fin 11) (dom ver : BitVec 8) (seq : BitVec 16) (lo hi : BitVec 32) (frac : BitVec 8) (cor : BitVec 32) (f t2 : Nat),
    s.tm.sync = some (seq.toNat, f, t2) → s.frame ≤ f + 1024 → s.timeOk n.val dom.toNat ver.toNat = true →
    let ms := timeDiff t2 (messageStamp lo.toNat hi.toNat frac.toNat cor.toNat)
    Runs (.followUpReceive n dom ver seq lo hi frac cor) s fun t => t.tm.sync = none ∧ t.tm.ms = some ms ∧ t.tm.followAt = s.frame ∧
      t.fld TM_COUNT 31 16 = (s.fld TM_COUNT 31 16 + 1) % 2 ^ 16 ∧
      ∀ df, s.tm.df = some df →
        let o := toPs (ms - rdiv df (2 ^ 16))
        t.reg TM_OFFSET = ofS 32 (satS 32 o) % 2 ^ 32 ∧
        (s.bit TM_CTRL 3 = true → s.fld TM_STEP 15 0 * 1000 < o.natAbs →
          if s.stepMode then t.tm.step = some (.inl (-(ms - rdiv df (2 ^ 16)))) ∧ t.tm.stepAt = s.frame else t.bit TM_STATUS 8 = true ∧ t.tm.step = s.tm.step) ∧
        (s.bit TM_CTRL 3 = true → o.natAbs ≤ s.fld TM_STEP 15 0 * 1000 →
          let u := servoStep (toS 32 (s.reg TM_INTEG)) (s.fld TM_GAIN 15 0) (s.fld TM_GAIN 31 16) (s.reg TM_RATE_LIMIT) o
          t.reg TM_INTEG = ofS 32 u.1 % 2 ^ 32 ∧ t.reg TM_RATE = ofS 32 u.2 % 2 ^ 32 ∧ t.bit TM_STATUS 8 = false)) ∧
  (∀ (s : State) (n : Fin 11) (dom ver : BitVec 8) (seq : BitVec 16) (lo hi : BitVec 32) (frac : BitVec 8) (cor : BitVec 32) (f t3 : Nat) (ms : Int),
    s.tm.dreq = some (seq.toNat, f, some t3) → s.frame ≤ f + 1024 → s.timeOk n.val dom.toNat ver.toNat = true → s.tm.ms = some ms →
    let df := delayFilter (s.fld TM_CTRL 2 0) s.tm.df ((ms + timeDiff (messageStamp lo.toNat hi.toNat frac.toNat cor.toNat) t3) * 2 ^ 15)
    Runs (.delayRespReceive n dom ver seq lo hi frac cor) s fun t => t.tm = { s.tm with dreq := none, respAt := s.frame, df := some df } ∧
      t.bit TM_STATUS 7 = false ∧ t.reg TM_PATH_DELAY = ofS 32 (satS 32 (toPs (rdiv df (2 ^ 16)))) % 2 ^ 32 ∧
      Touches [TM_STATUS, TM_PATH_DELAY] s.toHub { t with tm := s.tm })

/-- Time's other events (R294, R298, R303, R307, R308, R310, R311): a Delay_Req leaves, the path delay grows stale, a step is applied at a
tick, a wrap takes EPOCH on without moving the time (a step that RUN overtakes is not made: the model's choice, log entry 203), the epoch
marker, holdover, the phase target and its slew of one step a period. -/
def Obligations.TimeEvents : Prop :=
  (∀ (s : State), let n := if s.slaved then 7 else 0
    s.laneState n = lsACTIVE → s.tm.dreqAt + s.fld TM_STEP 31 16 * 1024 ≤ s.frame →
    Runs .delayReqSend s fun t => t.tm = { s.tm with dreq := some (s.tm.dreqSeq, s.frame, none), dreqSeq := (s.tm.dreqSeq + 1) % 2 ^ 16, dreqAt := s.frame } ∧
      (t.lane n).service.length = (s.lane n).service.length + 1 ∧ (∀ k, k ≠ n → t.lane k = s.lane k) ∧ { t with tm := s.tm, lanes := s.lanes } = s.toHub) ∧
  (∀ s : State, s.tm.respAt + 16 * s.fld TM_STEP 31 16 * 1024 ≤ s.frame → Runs .delayStale s fun t => t.bit TM_STATUS 7 = true ∧ Touches [TM_STATUS] s.toHub t) ∧
  (∀ (s : State) (st : Int ⊕ Nat), s.tm.step = some st → s.tm.stepAt < s.frame → s.stepMode = true →
    let new := match st with | .inl d => (((s.tm.now : Int) + d).emod (2 ^ 72)).toNat | .inr v => v % 2 ^ 72
    Runs .timeStepApply s fun t => t.tm.step = none ∧ t.tm.now = new ∧ t.tm.epochDue = true ∧ t.tm.sync = none ∧ t.tm.dreq = (if s.dreqWaits then s.tm.dreq else none) ∧ t.tm.ms = none ∧ t.tm.arrival = none ∧
      t.timeFull / 2 ^ 32 = (s.timeFull / 2 ^ 32 % 2 ^ 72 + new + 2 ^ 72 - s.tm.now) % 2 ^ 72 ∧
      t.fld TM_STEPS 15 0 = min (s.fld TM_STEPS 15 0 + 1) 65535 ∧ (∀ k < 11, (t.lane k).began = none ∧ (t.lane k).ctlBegan = none) ∧
      Touches [TM_STEPS] s.toHub { t with tm := s.tm, hist := s.hist, lanes := s.lanes, pr := s.pr }) ∧
  (∀ (s : State) (st : Int ⊕ Nat), s.tm.step = some st → s.tm.stepAt < s.frame → s.stepMode = false → Runs .timeStepApply s fun t =>
    t.tm = { s.tm with step := none } ∧ Touches [TM_INTEG, TM_RATE, TM_STATUS] s.toHub { t with tm := s.tm }) ∧
  (∀ s : State, s.tm.followAt + 2 ^ s.fld TM_CTRL 12 8 ≤ s.frame → s.servo = 2 ∨ s.servo = 3 →
    Runs .syncTimeout s fun t => t.servo = 4 ∧ t.fld TM_STATUS 6 5 = 0 ∧ t.reg TM_RATE = s.reg TM_INTEG % 2 ^ 32 ∧ t.reg TM_HOLD_AGE = 0 ∧ t.bit TT_STATUS 7 = true ∧
      Touches [TM_STATUS, TM_RATE, TM_HOLD_AGE, TT_STATUS] s.toHub { t with tm := s.tm }) ∧
  (∀ s : State, 2 ^ 64 ≤ s.tm.cnt → Runs .timeNsWrap s fun t => t.tm.epoch = (s.tm.epoch + 1) % 2 ^ 32 ∧ t.timeFull = s.timeFull ∧ { t with tm := s.tm } = s.toHub) ∧
  (∀ s : State, s.tm.epochDue = true → s.fwRuns = true → Runs .evTimeEpoch s fun t => t.reg TM_SEC = s.tm.epoch * 2 ^ 32 / 10 ^ 9 % 2 ^ 32 ∧
    t.tm = { s.tm with epochDue := false } ∧ Touches [TM_SEC] s.toHub { t with tm := s.tm }) ∧
  (∀ s : State, 1024 ≤ s.tm.phiCnt →
    let mean := ((s.tm.phiSum / s.tm.phiCnt + 128) / 256) % 16384
    Runs .phaseTargetUpdate s fun t => t.tm.target = some (s.targetOf mean) ∧ t.tm.phiCnt = 0 ∧ t.tm.phiSum = 0 ∧ t.tm.acquire = s.stepMode ∧
      t.fld TM_PHASE 9 0 = s.fld TM_PHASE 9 0 ∧ Touches [TM_PHASE_ERR] s.toHub { t with tm := s.tm }) ∧
  (∀ (s : State) (g : Nat), s.tm.target = some g → s.bit TM_CTRL 4 = true → s.servo = 2 ∨ s.servo = 3 →
    let p := s.fld TM_PHASE 9 0
    let e := phaseErr g p
    (s.stepMode = true → s.tm.acquire = true → Runs .phaseSlewStep s fun t => t.fld TM_PHASE 9 0 = (rdiv g 16).toNat % 1024 ∧ t.tm.acquire = false ∧
      t.tm.wrap = s.tm.wrap + phaseWrap p ((rdiv g 16).toNat % 1024)) ∧
    (s.stepMode = false → 12 ≤ e.natAbs → s.tm.slewAt + 2 ^ s.fld TM_PHASE 15 12 ≤ s.frame →
      Runs .phaseSlewStep s fun t => t.tm.slewAt = s.frame ∧
        t.fld TM_PHASE 9 0 = (if 0 < e then min 1023 (p + 1) else p - 1) ∧
        t.bit TM_STATUS 9 = decide (0 < e ∧ p = 1023 ∨ e < 0 ∧ p = 0) ∧ Touches [TM_PHASE, TM_STATUS, TM_PHASE_ERR] s.toHub { t with tm := s.tm }))

/-! ### Joined pairs (13) -/

/-- The PAIR commands (R317, R321, R326, R338, R339): joining begins formation and trains TX7 and RX1, leaving is at the next crossing, a newer epoch assigns
the role, through a gap when it changes, the settings and the status; the read that latches PAIR_FIRST_TURN. Towards a partner that is known to be in LOADING TX7 does
not train, and counts as ACTIVE (the model's reading of R324, log entry 207). -/
def Obligations.PairCommands : Prop :=
  (∀ (s : State) (h : Hdr) (p : List Byte), Accepts s.toHub h 0x0C01 → p.length = 12 → pl p 0 1 ≤ 1 → 24 ≤ s.fld TT_LAT 5 0 → plZero p 1 3 = true → s.mode = mIDLE →
    s.joinSet = false →
    Replies (.pairJoin h p) s h 0x0C01 [] fun t => t.fld PAIR_CTRL 1 0 = 2 * pl p 0 1 + 1 ∧ t.reg PAIR_PARTNER_LO = pl p 4 4 ∧ t.reg PAIR_PARTNER_HI = pl p 8 4 ∧
      t.pairState = 1 ∧ t.pr.valid = 0 ∧ (∀ n, (n = 7 ∧ s.pr.farMode ≠ mLOADING) ∨ n = 9 → t.laneState n = if s.bit (LN_CTRL n) 0 then lsDETECT else s.laneState n) ∧
      (s.pr.farMode = mLOADING → t.reg (LN_TXEQ 7) = 6 * 2 ^ 16 + 48 * 2 ^ 8 + 2 ∧ (s.bit (LN_CTRL 7) 0 = true → t.laneState 7 = lsACTIVE))) ∧
  (∀ (s : State) (h : Hdr), Accepts s.toHub h 0x0C02 → s.modeIn [mIDLE, mTEST] = true → s.joinSet = true →
    Replies (.pairLeave h []) s h 0x0C02 (crossPayload s.nextCross.1 s.nextCross.2) fun t => t.pr = { s.pr with leaveAt := some (s.frame + 1) } ∧
      Touches [] s.toHub { t with pr := s.pr }) ∧
  (∀ (s : State) (h : Hdr) (p : List Byte), Accepts s.toHub h 0x0C03 → p.length = 4 → pl p 0 1 ≤ 1 → pl p 2 1 ≤ 1 → plZero p 3 1 = true →
    newer (pl p 1 1) s.pairEpoch = true → s.pairState ≠ 0 →
    (s.leader = (pl p 0 1 == 1) → Replies (.roleAssign h p) s h 0x0C03 (crossPayload s.nextCross.1 s.nextCross.2) fun t => t.pairEpoch = pl p 1 1 ∧
      t.bit PAIR_STATUS 13 = (pl p 2 1 == 1) ∧ t.leader = s.leader ∧ Touches [PAIR_STATUS] s.toHub t) ∧
    (s.leader ≠ (pl p 0 1 == 1) → Runs (.roleAssign h p) s fun t => Waits t h 0x0C03 0 p ∧ t.pairEpoch = pl p 1 1 ∧ t.bit PAIR_STATUS 13 = (pl p 2 1 == 1) ∧
      t.leader = (pl p 0 1 == 1) ∧ t.pr.gapFrom = some (s.frame + 1) ∧ t.pr.gapTo = s.frame + 97 ∧
      t.fld PAIR_SWITCHES 31 16 = min (s.fld PAIR_SWITCHES 31 16 + 1) 65535 ∧ Touches [PAIR_STATUS, PAIR_REVERT, PAIR_SWITCHES] s.toHub { t with pr := s.pr })) ∧
  (∀ (s : State) (h : Hdr) (p : List Byte), Accepts s.toHub h 0x0C04 → p.length = 4 → pl p 0 1 ≤ 1 → 1 ≤ pl p 1 1 → 1 ≤ pl p 2 2 →
    Replies (.pairConfig h p) s h 0x0C04 [] fun t => t.bit PAIR_CTRL 2 = (pl p 0 1 == 1) ∧ t.reg PAIR_TIMING = pl p 2 2 * 2 ^ 16 + pl p 1 1 ∧
      Touches [PAIR_CTRL, PAIR_TIMING] s.toHub t) ∧
  (∀ (s : State) (h : Hdr), Accepts s.toHub h 0x0C05 →
    Replies (.pairStatus h []) s h 0x0C05 (words ([PAIR_STATUS, PAIR_HEALTH, PAIR_REVERT, PAIR_SHADOW, PAIR_SKIP, PAIR_SWITCHES, PAIR_MARGIN].map s.reg))
      fun t => Touches [] s.toHub t) ∧
  (∀ s : State, Runs .pairFirstMismatchRead s fun t => t.reg PAIR_FIRST_TURN = s.shadowTurn PAIR_FIRST_TURN % 2 ^ 32 ∧ Touches [PAIR_FIRST_TURN] s.toHub t)

/-- A joined leader (R320, R322): whatever its opcode, a command for the follower goes into S38 under the leader's own number and its answer
waits; a command of R320 that passes its own checks is forwarded and waits for the frame in which both hubs start it (which frame is free: the
model's choice, log entry 206). The first two clauses say so of the operation with which every host command begins; SYS_ECHO with TARGET 1 and
TT_SET_TURN are instances, and of TT_SET_TURN it is said that this hub carries it out when the frame has come. -/
def Obligations.LeaderForwards : Prop :=
  (∀ (s : Hub) (op : Nat) (h : Hdr) (p : List Byte) (body : Hub → Reply × Hub), s.mayStart h op = true → (s.takeCmd h op).generic op h = none → h.target = 1 →
    (s.takeCmd h op).count 38 < 64 →
    let t := s.command op h p body
    Waits t h op s.mbx.fwdSeq p ∧ (∃ c, (t.items 38).getLast? = some (.cmd c) ∧ c.seq = s.mbx.fwdSeq ∧ c.op = op ∧ c.target = 0 ∧ c.payload = p) ∧
      t.mbx.fwdSeq = (s.mbx.fwdSeq + 1) % 2 ^ 16 ∧ Touches [] s t) ∧
  (∀ (s : Hub) (op : Nat) (h : Hdr) (p : List Byte) (body : Hub → Reply × Hub), Defers s h op → bothCmd op = true → s.joined = true → s.leader = true →
    refusal (body (s.takeCmd h op)).1 = stOK →
    let t := s.command op h p body
    (∃ b ∈ t.mbx.both, b.hdr = h ∧ b.op = op ∧ b.n = s.mbx.fwdSeq ∧ b.payload = p ∧ b.due = some (s.frame + 1 + (Config.freeWord s.free).toNat) ∧
      b.mine = none ∧ b.theirs = none) ∧
      t.mbx.fwdSeq = (s.mbx.fwdSeq + 1) % 2 ^ 16 ∧ Touches [] s { t with free := s.free }) ∧
  (∀ (s : State) (h : Hdr) (p : List Byte), s.mayStart h 0x0103 = true → (s.takeCmd h 0x0103).generic 0x0103 h = none → h.target = 1 →
    (s.takeCmd h 0x0103).count 38 < 64 →
    Runs (.sysEcho h p) s fun t => Waits t h 0x0103 s.mbx.fwdSeq p ∧
      (∃ c, (t.items 38).getLast? = some (.cmd c) ∧ c.seq = s.mbx.fwdSeq ∧ c.op = 0x0103 ∧ c.target = 0 ∧ c.payload = p) ∧
      t.mbx.fwdSeq = (s.mbx.fwdSeq + 1) % 2 ^ 16 ∧ Touches [] s.toHub t) ∧
  (∀ (s : State) (h : Hdr) (p : List Byte), Defers s.toHub h 0x0305 → s.joined = true → s.leader = true → s.modeIn ttTurnModes = true → p.length = 4 →
    plZero p 2 2 = true → 64 ≤ pl p 0 2 →
    Runs (.ttSetTurn h p) s fun t =>
      (∃ b ∈ t.mbx.both, b.hdr = h ∧ b.op = 0x0305 ∧ b.n = s.mbx.fwdSeq ∧ b.payload = p ∧ b.due = some (s.frame + 1 + (Config.freeWord s.free).toNat) ∧
        b.mine = none ∧ b.theirs = none) ∧
      t.mbx.fwdSeq = (s.mbx.fwdSeq + 1) % 2 ^ 16 ∧ Touches [] s.toHub { t with free := s.free }) ∧
  (∀ (s : Hub) (b : Both), s.mbx.both = [b] → b.op = 0x0305 → b.due.any (· ≤ s.frame) = true → s.modeIn ttTurnModes = true → b.payload.length = 4 →
    plZero b.payload 2 2 = true → 64 ≤ pl b.payload 0 2 → s.bothTick.fld TT_TURN_LEN 15 0 = pl b.payload 0 2)

/-- What a pair carriage and the pair's timers do (R326-R328, R332-R336, R319): the partner's reports are kept and its boundary block enters S49, a newer epoch
of a leading partner is adopted, late hashes are counted, the gap closes, heartbeats, the revert by health, the hold-off exponent, and the pair's modes. By the model's
reading: a follower too adopts the newer epoch of a leading partner, and the gap opens when the partner's role changes (log entries 98 and 215); REVERT_HOLDOFF_EXPIRE
takes the epoch at once (log entry 99); a hash is waited for up to 32 frames after its own, R336 saying only that the follower keeps its own for 16 (log entry 232); a
partner found in LOADING has TX7 count as ACTIVE and send with the reset values of LN_TXEQ, and TX7 and RX1 train once it has left it (log entry 207). -/
def Obligations.PairEvents : Prop :=
  (∀ (s : State) (v : BitVec 1472) (after margin : Int), s.laneState 9 = lsACTIVE →
    (streamItems s.pr.part s.pr.began 0 (bits v.toNat 879 874) ((beBytes 184 v.toNat).drop 76) (s.captureAt after)).1 = [] →
    RingClean s.toHub 51 →
    let h := bits v.toNat 1471 1408
    Runs (.pairCarriageReceive v after margin) s fun t => t.pr.seenAt = some s.frame ∧ t.pr.farPhase = bits h 25 16 ∧ t.bit PAIR_STATUS 11 = bitAt h 29 ∧
      t.bit PAIR_STATUS 10 = bitAt h 31 ∧ t.bit PAIR_STATUS 7 = true ∧
      (s.pairState ≠ 0 → bitAt h 31 = true → newer (bits h 15 8) s.pairEpoch = true → t.leader = false ∧ t.pairEpoch = bits h 15 8 ∧
        (s.inGap = false → s.leader = true ∨ s.bit PAIR_STATUS 10 = false → t.pr.gapFrom = some (s.frame + 1) ∧ t.pr.gapTo = s.frame + 97)) ∧
      (s.pairState ≠ 0 → bitAt h 31 = false → s.bit PAIR_STATUS 10 = true → s.inGap = false → s.pr.gapFrom = none → t.pr.gapFrom = some (s.frame + 1) ∧
        t.pr.gapTo = s.frame + 97 ∧ t.leader = s.leader) ∧
      (s.timeLane = 9 → t.tm.arrival = some ((s.captureAt after + 2 ^ 72 - s.delayUnits 9) % 2 ^ 72)) ∧
      (s.joined = true → bitAt h 28 = true → 0 ≤ margin → s.count 49 < 64 → (t.items 49).getLast? = some (.block (bits h 63 48) (bits h 47 32)
        (words ((List.range 24).map fun i => bits v.toNat (1407 - 20 * i) (1388 - 20 * i)))))) ∧
  (∀ s : State, Runs .shadowHashTimeout s fun t => t.pr.hashes = s.pr.hashes.filter (fun h => decide (s.frame ≤ h.1 + 32)) ∧
    t.fld PAIR_SKIP 31 0 = (if s.follower then min (s.fld PAIR_SKIP 31 0 + (s.pr.hashes.filter fun h => decide (h.1 + 32 < s.frame)).length) (2 ^ 32 - 1)
      else s.fld PAIR_SKIP 31 0) ∧ Touches [PAIR_SKIP] s.toHub { t with pr := s.pr }) ∧
  (∀ s : Hub, (∀ f, s.pr.gapFrom = some f → f ≤ s.frame + 1 → s.gapTick.inGap = true) ∧ (s.revertComes = true → s.gapTick.inGap = true ∧ s.gapTick.pr.gapTo = s.frame + 97) ∧
    (s.inGap = true → s.pr.gapTo ≤ s.frame + 1 → s.pr.gapFrom = none → s.revertComes = false → s.gapTick.inGap = false ∧ s.gapTick.bit PAIR_STATUS 8 = s.follower)) ∧
  (∀ s : State, s.pr.gapDone = true ∨ (s.inGap = true ∧ s.pr.gapTo ≤ s.frame) → Runs .switchoverGapEnd s fun t => t.inGap = false ∧ t.bit PAIR_STATUS 8 = s.follower ∧ t.mbx.gapHeld = [] ∧
    Touches [PAIR_STATUS] s.toHub { t with tm := s.tm, lanes := s.lanes, pr := s.pr }) ∧
  (∀ s : State, s.joinSet = true → RingClean s.toHub 51 → s.pr.hbAt + s.fld PAIR_TIMING 7 0 * 1024 ≤ s.frame → Runs .pairHeartbeat s fun t => t.pr = { s.pr with hbAt := s.frame } ∧
    (s.fwRuns = true → s.bit FW_STATUS 0 = false → s.bit MBX_CTRL 0 = true → s.bit MBX_EVT_MASK 12 = false →
      t.fld MBX_ESEQ 15 0 = (s.fld MBX_ESEQ 15 0 + 1) % 65536) ∧ Touches [] s.toHub { t with pr := s.pr }) ∧
  (∀ (s : State) (x : Nat), s.pr.healthySince = some x → s.pr.revertAt = none → s.inGap = false → x + s.holdoff * 2 ^ s.fld PAIR_REVERT 1 0 ≤ s.xo →
    Runs .revertHoldoffExpire s fun t => t.pairEpoch = (s.pairEpoch + 1) % 256 ∧ t.pr = { s.pr with revertAt := some (s.frame + s.toTurn) } ∧
      t.leader = s.leader ∧ Touches [PAIR_STATUS] s.toHub { t with pr := s.pr }) ∧
  (∀ s : State, s.revertsNow = true → Runs .roleRevert s fun t => t.leader = true ∧ t.inGap = true ∧ t.pr.gapTo = s.frame + 96 ∧ t.pr.byRevert = true ∧
    t.fld PAIR_SWITCHES 15 8 = min (s.fld PAIR_SWITCHES 15 8 + 1) 255 ∧ t.fld PAIR_SWITCHES 31 16 = min (s.fld PAIR_SWITCHES 31 16 + 1) 65535 ∧
    Touches [PAIR_STATUS, PAIR_SWITCHES] s.toHub { t with pr := s.pr, hist := s.hist }) ∧
  (∀ s : State, s.leader = true → s.pr.leadSince + 8 * s.holdoff ≤ s.xo → Runs .holdoffExpClear s fun t => t.fld PAIR_REVERT 1 0 = 0 ∧
    Touches [PAIR_REVERT] s.toHub t) ∧
  (∀ (s : State) (far : Fin 8), s.joined = true →
    let ok := if s.leader then modesFit s.mode far.val else modesFit far.val s.mode
    Runs (.pairModeMismatch far) s fun t => t.pr = { s.pr with farMode := far.val } ∧ t.bit PAIR_STATUS 9 = !ok ∧ t.pairState = (if ok then 2 else 3) ∧
      (s.joinSet = false ∨ (far.val ≠ mLOADING ∧ s.pr.farMode ≠ mLOADING) → Touches [PAIR_STATUS] s.toHub { t with pr := s.pr }) ∧
      (s.joinSet = true → far.val = mLOADING → t.reg (LN_TXEQ 7) = 6 * 2 ^ 16 + 48 * 2 ^ 8 + 2 ∧ (s.bit (LN_CTRL 7) 0 = true → t.laneState 7 = lsACTIVE) ∧
        (s.bit (LN_CTRL 7) 0 = false ∨ s.laneState 7 = lsACTIVE → Touches [PAIR_STATUS, LN_TXEQ 7] s.toHub { t with pr := s.pr })) ∧
      (s.joinSet = true → s.pr.farMode = mLOADING → far.val ≠ mLOADING → ∀ n, n = 7 ∨ n = 9 →
        t.laneState n = if s.bit (LN_CTRL n) 0 then lsDETECT else s.laneState n))

/-! ### Monitoring, loops (14) and the LED pulser (15) -/

/-- The MON and LOOP commands (R340-R370): each setting stands in its register, a single pass is asked for and its answer waits, and the
status commands answer from the registers (a pin keeps its IBIAS, and a sequencer its PERIOD, where the value named is out of range but not
used: log entry 119; that the condition of a comparator which is off reads 0 is the model's reading of R365, log entry 117). -/
def Obligations.MonitoringCommands : Prop :=
  (∀ (s : State) (h : Hdr) (p : List Byte), Accepts s.toHub h 0x0D01 → p.length = 4 + 2 * pl p 1 1 → 1 ≤ pl p 1 1 → pl p 0 1 + pl p 1 1 ≤ 32 → plZero p 2 2 = true →
    (∀ i < pl p 1 1, pl p (4 + 2 * i) 1 ≤ 3 ∧ (pl p (4 + 2 * i) 1 = 3 → 1 ≤ pl p (5 + 2 * i) 1 ∧ pl p (5 + 2 * i) 1 ≤ 100)) →
    let ibias := fun i => if 1 ≤ pl p (5 + 2 * i) 1 ∧ pl p (5 + 2 * i) 1 ≤ 100 then pl p (5 + 2 * i) 1 else s.fld (MON_PIN (pl p 0 1 + i)) 14 8
    Replies (.monPinSet h p) s h 0x0D01 [] fun t => (∀ i < pl p 1 1, t.reg (MON_PIN (pl p 0 1 + i)) = ibias i * 256 + pl p (4 + 2 * i) 1) ∧
      ((∃ i < pl p 1 1, s.reg (MON_PIN (pl p 0 1 + i)) ≠ ibias i * 256 + pl p (4 + 2 * i) 1) → t.bit MON_STATUS 0 = true) ∧
      Touches (MON_STATUS :: (List.range (pl p 1 1)).map fun i => MON_PIN (pl p 0 1 + i)) s.toHub { t with mon := s.mon }) ∧
  (∀ (s : State) (h : Hdr) (p : List Byte), Accepts s.toHub h 0x0D02 → p.length = 8 → pl p 0 1 ≤ 1 → pl p 1 1 ≤ 1 → pl p 2 1 ≤ 1 → 1 ≤ pl p 3 1 → pl p 4 2 ≤ 4000 →
    plZero p 6 2 = true →
    Replies (.monExcSet h p) s h 0x0D02 [] fun t => t.reg (MON_EXC (pl p 0 1)) = pl p 1 1 * 2 ^ 31 + pl p 2 1 * 2 ^ 30 + pl p 3 1 * 2 ^ 16 + pl p 4 2 ∧
      (s.ownsExc (pl p 0 1) = false → t.excNow (pl p 0 1) = (pl p 1 1 == 1, pl p 2 1 == 1)) ∧
      Touches [MON_EXC (pl p 0 1), MON_EXC_STAT (pl p 0 1)] s.toHub { t with mon := s.mon }) ∧
  (∀ (s : State) (h : Hdr) (p : List Byte), Accepts s.toHub h 0x0D03 → p.length = 4 + 8 * pl p 2 1 → pl p 0 1 ≤ 3 → 1 ≤ pl p 2 1 → pl p 1 1 + pl p 2 1 ≤ 16 →
    plZero p 3 1 = true → (∀ i < pl p 2 1, entryOk (pl p (4 + 8 * i) 4) (pl p (8 + 8 * i) 4) = true) →
    Replies (.monSeqWrite h p) s h 0x0D03 [] fun t => (∀ i < pl p 2 1, t.reg (MON_ENTRY_A (pl p 0 1) (pl p 1 1 + i)) = pl p (4 + 8 * i) 4 ∧
        t.reg (MON_ENTRY_B (pl p 0 1) (pl p 1 1 + i)) = pl p (8 + 8 * i) 4 ∧ t.bit (MON_RES (pl p 0 1) (pl p 1 1 + i)) 31 = false) ∧
      Touches ((List.range (pl p 2 1)).flatMap fun i => [MON_ENTRY_A, MON_ENTRY_B, MON_RES].map fun r => r (pl p 0 1) (pl p 1 1 + i)) s.toHub { t with mon := s.mon }) ∧
  (∀ (s : State) (h : Hdr) (p : List Byte), Accepts s.toHub h 0x0D04 → p.length = 8 → pl p 0 1 ≤ 3 → pl p 1 1 ≤ 3 → 1 ≤ pl p 2 1 → pl p 2 1 ≤ 16 →
    (pl p 1 1 = 2 → 1 ≤ pl p 4 2) → plZero p 3 1 = true → plZero p 6 2 = true →
    Replies (.monSeqCtrl h p) s h 0x0D04 [] fun t => t.reg (MON_SEQ_CTRL (pl p 0 1)) =
        (if pl p 4 2 = 0 then s.fld (MON_SEQ_CTRL (pl p 0 1)) 31 16 else pl p 4 2) * 2 ^ 16 + pl p 2 1 * 16 + pl p 1 1 ∧
      Touches [MON_SEQ_CTRL (pl p 0 1)] s.toHub { t with mon := s.mon }) ∧
  (∀ (s : State) (h : Hdr) (p : List Byte), Accepts s.toHub h 0x0D05 → p.length = 4 → pl p 0 1 ≤ 3 → plZero p 1 3 = true → s.fld (MON_SEQ_CTRL (pl p 0 1)) 1 0 = 3 →
    (s.seqst (pl p 0 1)).pass = false → (s.seqst (pl p 0 1)).req = false →
    Runs (.monSeqRun h p) s fun t => Waits t h 0x0D05 (pl p 0 1) p ∧ t.seqst (pl p 0 1) = { s.seqst (pl p 0 1) with req := true } ∧
      Touches [] s.toHub { t with mon := s.mon }) ∧
  (∀ (s : State) (h : Hdr) (p : List Byte), Accepts s.toHub h 0x0D06 → p.length = 4 → pl p 0 1 ≤ 3 → plZero p 1 3 = true →
    Replies (.monRead h p) s h 0x0D06 (leBytes 4 (s.reg (MON_SEQ_STAT (pl p 0 1))) ++ words ((List.range 16).map fun e => s.reg (MON_RES (pl p 0 1) e)))
      fun t => Touches [] s.toHub t) ∧
  (∀ (s : State) (h : Hdr) (p : List Byte), Accepts s.toHub h 0x0D07 → p.length = 8 → pl p 0 1 ≤ 3 → aoncOk (pl p 4 4) = true → plZero p 1 3 = true →
    Replies (.monAoncSet h p) s h 0x0D07 [] fun t => t.reg (AONC_CFG (pl p 0 1)) = pl p 4 4 ∧
      (bitAt (pl p 4 4) 31 = false → t.bit AONC_STATUS (4 + pl p 0 1) = false) ∧ Touches [AONC_CFG (pl p 0 1), AONC_STATUS] s.toHub t) ∧
  (∀ (s : State) (h : Hdr) (p : List Byte), Accepts s.toHub h 0x0D08 → p.length = 4 → pl p 0 1 ≤ 1 → plZero p 1 3 = true →
    Replies (.monStatus h p) s h 0x0D08 (words ([MON_STATUS, MON_PIN_ILIM, MON_WIN_EV0, MON_WIN_EV1, MON_EXC_STAT 0, MON_EXC_STAT 1, AONC_STATUS].map s.reg)) fun t =>
      (pl p 0 1 = 1 → t.fld MON_STATUS 11 8 = 0 ∧ t.reg MON_PIN_ILIM = 0 ∧ t.reg MON_WIN_EV0 = 0 ∧ t.reg MON_WIN_EV1 = 0 ∧
        (∀ k < 4, t.bit AONC_STATUS k = (s.bit AONC_STATUS k && s.bit AONC_STATUS (4 + k) && s.fld (AONC_CFG k) 27 26 == 0 && s.bit (AONC_CFG k) 31)) ∧
        t.fld AONC_STATUS 11 8 = 0 ∧ t.fld AONC_STATUS 7 4 = s.fld AONC_STATUS 7 4) ∧
      Touches (if pl p 0 1 = 1 then [MON_STATUS, MON_PIN_ILIM, MON_WIN_EV0, MON_WIN_EV1, AONC_STATUS] else []) s.toHub t) ∧
  (∀ (s : State) (h : Hdr) (p : List Byte), Accepts s.toHub h 0x0F01 → p.length = 16 → pl p 0 1 ≤ 3 → pl p 1 1 ≤ 1 → pl p 2 1 ≤ 2 → pl p 3 1 ≤ 1 → pl p 4 1 ≤ 3 →
    pl p 5 1 ≤ 15 → pl p 6 1 ≤ 3 → pl p 7 1 ≤ 15 → pl p 8 1 ≤ 3 → 1 ≤ pl p 9 1 → plZero p 10 2 = true → pl p 14 2 ≠ 0 →
    Replies (.loopConfig h p) s h 0x0F01 [] fun t => t.reg (LOOP_CTRL (pl p 0 1)) = pl p 1 1 * 2 ^ 31 + pl p 3 1 * 2 ^ 30 + pl p 9 1 * 2 ^ 8 + pl p 2 1 ∧
      t.reg (LOOP_SRC (pl p 0 1)) = pl p 8 1 * 2 ^ 16 + pl p 6 1 * 2 ^ 14 + pl p 7 1 * 2 ^ 8 + pl p 4 1 * 2 ^ 6 + pl p 5 1 ∧
      t.reg (LOOP_SCALE (pl p 0 1)) = pl p 12 2 * 2 ^ 16 + pl p 14 2 ∧
      Touches [LOOP_CTRL (pl p 0 1), LOOP_SRC (pl p 0 1), LOOP_SCALE (pl p 0 1)] s.toHub t) ∧
  (∀ (s : State) (h : Hdr) (p : List Byte), Accepts s.toHub h 0x0F02 → p.length = 4 → pl p 0 1 ≤ 3 → 7200 ≤ pl p 2 2 → pl p 2 2 ≤ 42000 → plZero p 1 1 = true →
    (s.fld (LOOP_CTRL (pl p 0 1)) 1 0 = 0 → Replies (.loopSet h p) s h 0x0F02 [] fun t => t.reg (LOOP_SET (pl p 0 1)) = pl p 2 2 ∧
      Touches [LOOP_SET (pl p 0 1)] s.toHub t) ∧
    (s.fld (LOOP_CTRL (pl p 0 1)) 1 0 ≠ 0 → Refuses (.loopSet h p) s h 0x0F02 stDENIED)) ∧
  (∀ (s : State) (h : Hdr), Accepts s.toHub h 0x0F03 →
    Replies (.loopStatus h []) s h 0x0F03 (words (s.reg LOOP_STATUS :: (List.range 4).flatMap fun n => [s.reg (LOOP_NOW n), s.reg (LOOP_READ n), s.reg (LOOP_FLT n)]))
      fun t => Touches [] s.toHub t)

/-- Housekeeping (R342-R356): a pass starts and may be skipped, the free converter takes an entry, conversions are discarded and summed to a
rounded mean, the result is written with its counter and its flags, and its window goes between ARMED and OUT (R354, R356); settle timers end;
source faults, pin limits and the always-on comparators latch (R357, R358). -/
def Obligations.HousekeepingEvents : Prop :=
  (∀ (s : State) (q : Fin 4), s.auxOn = true →
    ((s.seqst q.val).pass = false → s.fld (MON_SEQ_CTRL q.val) 1 0 = 1 ∨ s.fld (MON_SEQ_CTRL q.val) 1 0 = 3 ∧ (s.seqst q.val).req = true ∨
        s.fld (MON_SEQ_CTRL q.val) 1 0 = 2 ∧ (s.seqst q.val).next ≤ s.xo →
      Runs (.hkSeqPassStart q) s fun t => (t.seqst q.val).pass = true ∧ (t.seqst q.val).idx = 0 ∧ (t.seqst q.val).len = s.fld (MON_SEQ_CTRL q.val) 8 4 ∧
        t.bit MON_STATUS (4 + q.val) = true ∧ Touches [MON_STATUS, MON_SEQ_STAT q.val] s.toHub { t with mon := s.mon }) ∧
    ((s.seqst q.val).pass = true → (s.seqst q.val).mode = 2 → (s.seqst q.val).next ≤ s.xo →
      Runs (.hkSeqPassStart q) s fun t => t.fld (MON_SEQ_STAT q.val) 15 8 = min (s.fld (MON_SEQ_STAT q.val) 15 8 + 1) 255 ∧ (t.seqst q.val).pass = true ∧
        Touches [MON_SEQ_STAT q.val] s.toHub { t with mon := s.mon })) ∧
  (∀ (s : State) (q : Nat), s.auxOn = true → s.mon.run = none → s.bit TT_CTRL 7 = false ∨ s.now.hk = true →
    ((List.range 4).find? fun q => (s.seqst q).pass) = some q → (s.seqst q).idx < 16 →
    Runs .hkEntryStart s fun t => t.bit (MON_SEQ_STAT q) 4 = true ∧ ∃ r, t.mon.run = some r ∧ r.seq = q ∧ r.entry = (s.seqst q).idx ∧
      r.a = s.reg (MON_ENTRY_A q (s.seqst q).idx) ∧ r.b = s.reg (MON_ENTRY_B q (s.seqst q).idx) ∧ r.discard = bits r.a 29 26 ∧ r.left = 2 ^ bits r.a 20 18 ∧ r.sum = 0 ∧
      r.next = s.xo + 80) ∧
  (∀ (s : State) (value : Int) (clip : Bool) (r : HkRun), s.auxOn = true → s.mon.run = some r → r.waiting = false → r.result = none → r.next + convXo r.a ≤ s.xo →
    let mean := rdiv (r.sum + max (-32767) (min value 32767)) ((2 ^ bits r.a 20 18 : Nat) : Int)
    let chop := (entryExc r.a).isSome ∧ bits r.a 22 21 = 3
    Runs (.hkConversion value clip) s fun t =>
      (∃ u, t.mon.run = some u ∧ u.next = r.next + convXo r.a ∧
        (r.discard = 0 → u.ovr = (r.ovr || clip || (max (-32767) (min value 32767)).natAbs == 32767) ∧
          u.exc = (r.exc || (watched r.a).any fun x => s.badDuring x r.next (r.next + sampleXo r.a)))) ∧
      (0 < r.discard → ∃ u, t.mon.run = some u ∧ u.discard = r.discard - 1 ∧ u.left = r.left ∧ u.sum = r.sum ∧ { t with mon := s.mon } = s.toHub) ∧
      (r.discard = 0 → 1 < r.left → ∃ u, t.mon.run = some u ∧ u.left = r.left - 1 ∧ u.sum = r.sum + max (-32767) (min value 32767) ∧ { t with mon := s.mon } = s.toHub) ∧
      (r.discard = 0 → r.left = 1 → ¬ chop → ∃ u, t.mon.run = some u ∧ u.result = some mean ∧ { t with mon := s.mon } = s.toHub) ∧
      (r.discard = 0 → r.left = 1 → chop → r.phase = 0 → ∃ u, t.mon.run = some u ∧ u.phase = 1 ∧ u.first = mean ∧ u.sum = 0 ∧ u.left = 2 ^ bits r.a 20 18) ∧
      (r.discard = 0 → r.left = 1 → chop → r.phase ≠ 0 → ∃ u, t.mon.run = some u ∧ u.result = some (rdiv (r.first - mean) 2) ∧
        { t with mon := s.mon } = s.toHub)) ∧
  (∀ (s : State) (r : HkRun) (v : Int), s.auxOn = true → s.mon.run = some r → r.result = some v → r.seq < 4 → r.entry < 16 →
    Runs .hkEntryEnd s fun t => t.mon.run = none ∧ t.fld (MON_RES r.seq r.entry) 15 0 = ofS 16 v % 2 ^ 16 ∧
      t.fld (MON_RES r.seq r.entry) 23 16 = (s.fld (MON_RES r.seq r.entry) 23 16 + 1) % 256 ∧ t.bit (MON_RES r.seq r.entry) 30 = r.settling ∧
      t.bit (MON_RES r.seq r.entry) 29 = r.exc ∧ t.bit (MON_RES r.seq r.entry) 28 = r.ovr ∧
      Touches [MON_RES r.seq r.entry, MON_EXC_STAT 0, MON_EXC_STAT 1, MON_WIN_EV0, MON_WIN_EV1, MON_SEQ_STAT r.seq, MON_STATUS] s.toHub { t with mon := s.mon }) ∧
  (∀ (s : State) (r : HkRun) (v : Int), s.auxOn = true → s.mon.run = some r → r.result = some v → r.seq < 4 → r.entry < 16 →
    let k := 16 * r.seq + r.entry
    let n := tget (fun _ => 0) s.mon.inBand k
    let out := s.bit (MON_RES r.seq r.entry) 31
    let ev := fun (u : Hub) => u.bit (if r.seq < 2 then MON_WIN_EV0 else MON_WIN_EV1) (16 * (r.seq % 2) + r.entry)
    let compared := bitAt r.a 25 = true ∧ r.settling = false ∧ r.exc = false
    let inBand := toS 16 (bits r.b 15 0) ≤ v ∧ v ≤ toS 16 (bits r.b 31 16)
    Runs .hkEntryEnd s fun t => let state := (t.bit (MON_RES r.seq r.entry) 31, tget (fun _ => 0) t.mon.inBand k)
      (¬ compared → state = (out, n) ∧ ev t = ev s.toHub) ∧
      (compared → ¬ inBand → state = (true, 0) ∧ ev t = (ev s.toHub || !out)) ∧
      (compared → inBand → out = true → state = (if 3 ≤ n then (false, 0) else (true, n + 1)) ∧ ev t = ev s.toHub) ∧
      (compared → inBand → out = false → state = (false, 0) ∧ ev t = ev s.toHub)) ∧
  (∀ s : State, s.auxOn = true → s.bit MON_STATUS 0 = true → s.timerEnd 2 ≤ s.xo → Runs .crosspointSettleEnd s fun t => t.bit MON_STATUS 0 = false ∧
    Touches [MON_STATUS] s.toHub t) ∧
  (∀ (s : State) (x : Fin 2), s.auxOn = true → s.bit (MON_EXC_STAT x.val) 2 = true → s.timerEnd x.val ≤ s.xo →
    Runs (.excSettleEnd x) s fun t => t.bit (MON_EXC_STAT x.val) 2 = false ∧
      (∀ r, s.mon.run = some r → entryExc r.a = some x.val → ∃ u, t.mon.run = some u ∧ u.waiting = false ∧
        (r.waiting = true → u.next = s.timerEnd x.val + 80)) ∧ Touches [MON_EXC_STAT x.val] s.toHub { t with mon := s.mon }) ∧
  (∀ (s : State) (x : Fin 2) (sense : Bool), s.auxOn = true →
    ((s.excNow x.val).1 = true → s.bit (MON_EXC_STAT x.val) (b2n sense) = false →
      Runs (.excFaultOnset x sense) s fun t => t.bit (MON_EXC_STAT x.val) (b2n sense) = true ∧ t.bit MON_STATUS (8 + 2 * b2n sense + x.val) = true ∧
        Touches [MON_EXC_STAT x.val, MON_STATUS] s.toHub { t with mon := s.mon }) ∧
    Runs (.excFaultClear x sense) s fun t => t.bit (MON_EXC_STAT x.val) (b2n sense) = false ∧ Touches [MON_EXC_STAT x.val] s.toHub { t with mon := s.mon }) ∧
  (∀ (s : State) (n : Fin 32), s.auxOn = true → s.fld (MON_PIN n.val) 1 0 ≠ 0 → Runs (.monPinLimit n) s fun t => t.bit MON_PIN_ILIM n.val = true ∧
    (∀ k < 32, k ≠ n.val → t.bit MON_PIN_ILIM k = s.bit MON_PIN_ILIM k) ∧ Touches [MON_PIN_ILIM] s.toHub t) ∧
  (∀ (s : State) (k : Fin 4), s.bit (AONC_CFG k.val) 31 = true → Runs (.aoncTrip k) s fun t => t.bit AONC_STATUS k.val = true ∧ t.bit AONC_STATUS (4 + k.val) = true ∧
    (s.mode = mDORMANT → s.bit (AONC_CFG k.val) 28 = true → t.bit AONC_STATUS (8 + k.val) = true) ∧ Touches [AONC_STATUS] s.toHub t) ∧
  (∀ (s : State) (k : Fin 4), Runs (.aoncRelease k) s fun t => t.bit AONC_STATUS (4 + k.val) = false ∧ t.bit AONC_STATUS k.val = s.bit AONC_STATUS k.val ∧
    Touches [AONC_STATUS] s.toHub t)

/-- Loops (R361-R364): an update writes LOOP_NOW, the alarm current while a condition of R362 holds; in a switch-over gap the current holds,
the tick shows HELD, and the update is taken at the first tick after it (log entry 115); the readback is that of the oldest update not yet
measured and is kept, and two low or three deviating ones raise a fault; firmware's value is formed from the two results by FN. -/
def Obligations.LoopEvents : Prop :=
  (∀ (s : State) (n : Fin 4), s.auxOn = true → (s.loopst n.val).at_ + 400000 ≤ s.xo →
    Runs (.loopUpdate n) s fun t =>
      (s.inGap = true → Touches [] s.toHub { t with mon := s.mon }) ∧
      (s.inGap = false → t.reg (LOOP_NOW n.val) = if s.bit (LOOP_CTRL n.val) 31 = false then 0 else if s.loopCond n.val = 0 then 2 ^ 16 + s.loopCode n.val
        else if s.bit (LOOP_CTRL n.val) 30 then 3 * 2 ^ 16 + 42000 else 2 * 2 ^ 16 + 7200) ∧
      Touches [LOOP_NOW n.val, LOOP_STATUS, LOOP_FLT n.val] s.toHub { t with mon := s.mon }) ∧
  (∀ (s : Hub) (n : Nat), s.auxOn = true → n < 4 →
    (s.inGap = true → s.fld (LOOP_NOW n) 19 16 ≠ 0 → s.loopTick.fld (LOOP_NOW n) 19 16 = 4 ∧ s.loopTick.fld (LOOP_NOW n) 15 0 = s.fld (LOOP_NOW n) 15 0 ∧
      (s.loopTick.loopst n).missed = true) ∧
    (s.inGap = false → (s.loopst n).missed = true → s.loopTick.reg (LOOP_NOW n) = if s.bit (LOOP_CTRL n) 31 = false then 0 else
      if s.loopCond n = 0 then 2 ^ 16 + s.loopCode n else if s.bit (LOOP_CTRL n) 30 then 3 * 2 ^ 16 + 42000 else 2 * 2 ^ 16 + 7200)) ∧
  (∀ (s : State) (n : Fin 4) (v : BitVec 16) (a : Nat) (rest : List Nat), s.auxOn = true → (s.loopst n.val).readOf = a :: rest → a + 200000 ≤ s.xo →
    Runs (.loopReadback n v) s fun t => t.reg (LOOP_READ n.val) = v.toNat ∧ (t.loopst n.val).readOf = rest ∧
      (s.bit LOOP_STATUS n.val = true → v.toNat < 2000 → 1 ≤ (s.loopst n.val).low → t.bit (LOOP_FLT n.val) 4 = true) ∧
      (400 < ((v.toNat : Int) - s.fld (LOOP_NOW n.val) 15 0).natAbs → 2 ≤ (s.loopst n.val).dev → t.bit (LOOP_FLT n.val) 5 = true) ∧
      Touches [LOOP_READ n.val, LOOP_FLT n.val] s.toHub { t with mon := s.mon }) ∧
  (∀ (s : State) (n : Fin 4) (a b : Nat × Int × Bool), s.auxOn = true → s.inGap = false → s.fld (LOOP_CTRL n.val) 1 0 = 2 →
    s.goodRes (s.fld (LOOP_SRC n.val) 7 6) (s.fld (LOOP_SRC n.val) 3 0) = some a → s.goodRes (s.fld (LOOP_SRC n.val) 15 14) (s.fld (LOOP_SRC n.val) 11 8) = some b →
    Runs (.loopFwWrite n) s fun t => t.reg (LOOP_FW n.val) = ofS 16 (loopFn (s.fld (LOOP_SRC n.val) 17 16) a.2.1 b.2.1) % 2 ^ 32 ∧
      (t.loopst n.val).fwAt = some s.xo ∧ Touches [LOOP_FW n.val] s.toHub { t with mon := s.mon })

/-- The LED pulser (R371-R384): its commands set what they name, a write of a pattern resets its ADJ; a burst's end keeps the photodiode's integral and
regulates ADJ (R375, R376); two failed proofs in a row declare an LED's fault or a row dark, which disables the row or blocks the pulser (R379, R380), and the rows of
LED_CLEAR_FAULT are cleared; the supply's ready bit. By the model's reading LED_CLEAR_FAULT acts with the settings (log entry 128), and a burst's end is taken from
64 ns before it (log entry 126). -/
def Obligations.LedPulser : Prop :=
  (∀ (s : State) (h : Hdr) (p : List Byte), Accepts s.toHub h 0x0E01 → p.length = 12 → pl p 0 1 ≤ 1 → pl p 1 1 ≤ 1 → 8 ≤ pl p 2 1 → 1 ≤ pl p 3 1 → 50 ≤ pl p 10 1 →
    pl p 10 1 ≤ pl p 11 1 →
    Replies (.ledConfig h p) s h 0x0E01 s.ledFirst fun t => t.reg LED_CTRL = pl p 2 1 * 2 ^ 8 + pl p 1 1 * 2 + pl p 0 1 ∧ t.fld LED_PROVE 31 16 = pl p 4 2 ∧
      t.fld LED_PROVE 15 8 = pl p 3 1 ∧ t.fld LED_PROVE 2 0 = s.fld LED_PROVE 2 0 ∧ t.reg LED_ROW_PHD = pl p 6 2 * 2 ^ 16 + pl p 8 2 ∧ t.fld LED_VLED 7 0 = pl p 10 1 ∧
      t.fld LED_VLED 23 16 = pl p 11 1 ∧ Touches [LED_CTRL, LED_PROVE, LED_ROW_PHD, LED_VLED] s.toHub t) ∧
  (∀ (s : State) (h : Hdr) (p : List Byte), Accepts s.toHub h 0x0E02 → p.length = 16 → pl p 0 1 ≤ 7 → 4 ≤ pl p 6 2 → pl p 6 2 ≤ 1024 → pl p 9 1 ≤ 3 → pl p 10 1 ≤ 1 →
    pl p 11 1 ≤ 7 → pl p 12 2 ≤ 1023 → 1 ≤ pl p 14 2 →
    Replies (.ledSetPattern h p) s h 0x0E02 s.ledFirst fun t => t.reg (LED_PAT_A (pl p 0 1)) = pl p 1 1 * 2 ^ 24 + (pl p 6 2 - 4) * 2 ^ 8 + pl p 8 1 ∧
      t.reg (LED_PAT_B (pl p 0 1)) = pl p 2 2 * 2 ^ 16 + pl p 4 2 ∧
      t.reg (LED_PAT_C (pl p 0 1)) = pl p 10 1 * 2 ^ 31 + pl p 9 1 * 2 ^ 26 + pl p 11 1 * 2 ^ 16 + pl p 12 2 ∧ t.reg (LED_PAT_D (pl p 0 1)) = pl p 14 2 ∧
      t.reg (LED_ADJ (pl p 0 1)) = 32768 ∧ t.bit LED_STATUS (8 + pl p 0 1) = false ∧
      Touches (LED_STATUS :: [LED_PAT_A, LED_PAT_B, LED_PAT_C, LED_PAT_D, LED_ADJ].map fun r => r (pl p 0 1)) s.toHub { t with led := s.led }) ∧
  (∀ (s : State) (h : Hdr) (p : List Byte), Accepts s.toHub h 0x0E03 → p.length = 4 + 2 * pl p 1 1 → 1 ≤ pl p 1 1 → pl p 0 1 + pl p 1 1 ≤ 128 → plZero p 2 2 = true →
    (∀ i < pl p 1 1, pl p (5 + 2 * i) 1 ≤ 15) →
    Replies (.ledSetBin h p) s h 0x0E03 s.ledFirst fun t => ∀ r < 8, ∀ c < 16, t.reg (LED_BIN r c) =
      if pl p 0 1 ≤ 16 * r + c ∧ 16 * r + c < pl p 0 1 + pl p 1 1 then pl p (5 + 2 * (16 * r + c - pl p 0 1)) 1 * 2 ^ 8 + pl p (4 + 2 * (16 * r + c - pl p 0 1)) 1
      else s.reg (LED_BIN r c)) ∧
  (∀ (s : State) (h : Hdr), Accepts s.toHub h 0x0E04 →
    Replies (.ledStatus h []) s h 0x0E04 (words ([s.reg LED_STATUS, s.reg LED_VLED, s.reg LED_CNT, s.reg LED_CNT2] ++ (List.range 8).map (fun r => s.reg (LED_FAULT r)) ++
      (List.range 4).map (fun k => s.reg (LED_PHD k)) ++ (List.range 8).map fun k => s.reg (LED_ADJ k))) fun t => Touches [] s.toHub t) ∧
  (∀ (s : State) (h : Hdr) (p : List Byte), Accepts s.toHub h 0x0E05 → p.length = 4 → pl p 0 1 ≠ 0 → plZero p 1 3 = true →
    Replies (.ledClearFault h p) s h 0x0E05 s.ledFirst fun t => t.led = { s.led with clear := s.led.clear ||| pl p 0 1 } ∧ Touches [] s.toHub { t with led := s.led }) ∧
  (∀ (s : State) (q : Nat) (xs : List LedMeas) (b : Burst) (rest : List Burst), s.led.bursts = b :: rest → s.auxOn = true → b.ends ≤ s.tm.rawNow + 64 * 256 →
    Runs (.ledBurstEnd q xs) s fun t => t.led.bursts = rest ∧
      (b.pat < 8 → ebit b.eff (LED_PAT_C b.pat) 31 = true → t.reg (LED_PHD (efld b.eff (LED_PAT_C b.pat) 27 26)) = min q 65535 ∧
        t.reg (LED_ADJ b.pat) = if b.paused || s.inGap || t.rowOut b.eff b.pat then s.reg (LED_ADJ b.pat) else
          (nextAdj (s.fld (LED_ADJ b.pat) 15 0) (max 1 (efld b.eff (LED_PAT_D b.pat) 15 0)) (min q 65535) (efld b.eff (LED_PAT_C b.pat) 18 16)).toNat)) ∧
  (∀ (s : State) (q : Nat) (m : LedMeas) (b : Burst) (rest : List Burst), s.led.bursts = b :: rest → s.auxOn = true → b.ends ≤ s.tm.rawNow + 64 * 256 →
    b.fires m.row.val m.col.val = true → b.pat = 8 ∨ (b.pat < 8 ∧ 64 ≤ b.width ∧ 13 ≤ b.code m.row.val m.col.val) →
    let k := 16 * m.row.val + m.col.val
    let held := s.bit (LED_FAULT m.row.val) m.col.val || s.bit (LED_FAULT m.row.val) (16 + m.col.val)
    let off := fun (t : Hub) (r : Nat) => if ebit s.led.eff LED_CTRL 1 then t.bit LED_STATUS (24 + r) else t.bit LED_STATUS 2
    Runs (.ledBurstEnd q [m]) s fun t =>
      (10 ≤ m.percent → 1000 ≤ m.across → t.ledFails k = 0 ∧ t.reg (LED_FAULT m.row.val) = s.reg (LED_FAULT m.row.val)) ∧
      (m.percent < 10 ∨ m.across < 1000 →
        (s.ledFails k = 0 → t.ledFails k = 1 ∧ t.reg (LED_FAULT m.row.val) = s.reg (LED_FAULT m.row.val)) ∧
        (1 ≤ s.ledFails k → held = false → off t m.row.val = true ∧
          t.bit (LED_FAULT m.row.val) (if m.percent < 10 then m.col.val else 16 + m.col.val) = true)) ∧
      (b.pat = 8 → b.row < 8 → efld b.eff LED_ROW_PHD 31 16 ≤ min q 65535 → t.ledFails (256 + b.row) = 0 ∧ t.bit LED_STATUS (16 + b.row) = s.bit LED_STATUS (16 + b.row)) ∧
      (b.pat = 8 → b.row < 8 → min q 65535 < efld b.eff LED_ROW_PHD 31 16 →
        (s.ledFails (256 + b.row) = 0 → t.ledFails (256 + b.row) = 1 ∧ t.bit LED_STATUS (16 + b.row) = s.bit LED_STATUS (16 + b.row)) ∧
        (1 ≤ s.ledFails (256 + b.row) → s.bit LED_STATUS (16 + b.row) = false → off t b.row = true ∧ t.bit LED_STATUS (16 + b.row) = true))) ∧
  (∀ s : Hub, s.inGap = false → s.mode ≠ mPULSE ∨ s.tt.crossing = 0 →
    let t := s.ledSettings
    t.led.clear = 0 ∧ (t.ledFaulty = false → t.bit LED_STATUS 2 = false) ∧
      ∀ r < 8, if bitAt s.led.clear r then t.reg (LED_FAULT r) = 0 ∧ t.bit LED_STATUS (16 + r) = false ∧ t.bit LED_STATUS (24 + r) = false ∧
          (∀ c < 16, t.ledFails (16 * r + c) = 0) ∧ t.ledFails (256 + r) = 0
        else t.reg (LED_FAULT r) = s.reg (LED_FAULT r) ∧ t.bit LED_STATUS (16 + r) = s.bit LED_STATUS (16 + r) ∧ t.bit LED_STATUS (24 + r) = s.bit LED_STATUS (24 + r)) ∧
  (∀ s : State, (s.bit LED_STATUS 0 = true → Runs .vledReadySet s fun t => t.bit LED_STATUS 1 = true ∧ Touches [LED_STATUS] s.toHub t) ∧
    Runs .vledOutOfRange s fun t => t.bit LED_STATUS 1 = false ∧ Touches [LED_STATUS] s.toHub t)

/-! ### Memory and protection (16) -/

/-- The MEM commands (R397, R403, R406, R409, R410). -/
def Obligations.MemoryCommands : Prop :=
  (∀ (s : State) (h : Hdr), Accepts s.toHub h 0x1101 →
    Replies (.memStatus h []) s h 0x1101 (words ([s.reg ECC_STATUS] ++ (List.range 16).map (fun m => s.reg (ECC_CNT m)) ++ (List.range 16).map (fun m => s.reg (ECC_BEV m)) ++
      [s.reg TMR_REPAIRS, s.reg FW_STATUS, s.reg FW_VIOLATIONS])) fun t => Touches [] s.toHub t) ∧
  (∀ (s : State) (h : Hdr) (p : List Byte), Accepts s.toHub h 0x1102 → p.length = 12 → pl p 1 1 ≤ 1 → scrubOk (pl p 0 1) (pl p 4 4) (pl p 8 4) = true →
    plZero p 2 2 = true → pl p 1 1 = 0 ∨ pl p 0 1 < 3 → s.mc.scrub = none →
    Runs (.memScrub h p) s fun t => Waits t h 0x1102 0 p ∧ t.mc = { s.mc with scrub := some (pl p 0 1, (pl p 1 1 == 1, (pl p 4 4, pl p 8 4))) } ∧
      Touches [] s.toHub { t with mc := s.mc }) ∧
  (∀ (s : State) (h : Hdr) (p : List Byte), Accepts s.toHub h 0x1103 → p.length = 8 → (s.takeCmd h 0x1103).flipStatus (pl p 0 1) (pl p 1 1) (pl p 2 1) (pl p 3 1) (pl p 4 4) = none →
    Replies (.memEccFlip h p) s h 0x1103 [] fun t => t.reg ECC_FLIP_ADDR = pl p 4 4 ∧
      t.reg ECC_FLIP % 2 ^ 31 = pl p 3 1 * 2 ^ 30 + pl p 0 1 * 2 ^ 16 + pl p 2 1 * 2 ^ 8 + pl p 1 1 ∧ (pl p 0 1 ≠ 0 → t.bit ECC_FLIP 31 = true) ∧
      Touches [ECC_FLIP_ADDR] s.toHub t) ∧
  (∀ (s : State) (h : Hdr) (p : List Byte), Accepts s.toHub h 0x1104 → p.length = 4 → 2 ≤ pl p 0 1 → pl p 0 1 ≤ 63 → pl p 0 1 % 2 = 0 → plZero p 1 3 = true →
    Replies (.memFreezeRelease h p) s h 0x1104 [BitVec.ofNat 8 (s.fld FW_STATUS 5 0 &&& pl p 0 1)] fun t =>
      t.fld FW_STATUS 5 0 = s.fld FW_STATUS 5 0 &&& (63 - pl p 0 1) ∧ Touches [FW_STATUS] s.toHub t) ∧
  (∀ (s : State) (h : Hdr) (p : List Byte), Accepts s.toHub h 0x1105 → p.length = 16 → pl p 0 1 = 3 ∨ pl p 0 1 = 5 → pl p 1 1 ≤ 7 → pl p 4 4 ≤ pl p 8 4 →
    pl p 12 4 &&& 0xFFF0F = pl p 12 4 → plZero p 2 2 = true → s.modeIn [mIDLE, mTEST] = true →
    Replies (.memSetWindow h p) s h 0x1105 [] fun t => t.reg (FW_WIN_BASE (pl p 0 1) (pl p 1 1)) = pl p 4 4 / 4 * 4 ∧
      t.reg (FW_WIN_LIMIT (pl p 0 1) (pl p 1 1)) = pl p 8 4 / 4 * 4 ∧ t.reg (FW_WIN_ATTR (pl p 0 1) (pl p 1 1)) = pl p 12 4 ∧
      Touches ([FW_WIN_BASE, FW_WIN_LIMIT, FW_WIN_ATTR].map fun r => r (pl p 0 1) (pl p 1 1)) s.toHub t) ∧
  (∀ (s : State) (h : Hdr) (p : List Byte), Accepts s.toHub h 0x1106 → p.length = 4 → pl p 0 1 ≤ 63 → plZero p 1 3 = true →
    let u := s.takeCmd h 0x1106
    let n := pl p 0 1
    Replies (.memReadSiding h p) s h 0x1106 (words [u.reg (SD_BASE n), u.reg (SD_HEAD n), u.reg (SD_TAIL n), u.sdLevel n, u.reg (SD_LOST n), u.reg (SD_STATUS n)])
      fun t => Touches [] s.toHub t)

/-- Errors and their consequences (R388, R390-R399, R402): a read of a clean word changes nothing, a corrected one is counted; an
uncorrectable one is counted and latched whoever reads, and logged with the event that names memory, address and requester (R393), whose
result is that of R393's table: a fetch of the Signal Box locks it up, a data read has firmware request a software reset, the Dispatcher
abandons the item in transit and names it in LOST_RECORDS with LANE 0xFF, an engine faults, the Assay engine is faulted, the host bridge and
the image load answer INTEGRITY, and the other readers go on. Buckets leak; of a register field held in three copies the bits inverted in two
of them or in all are inverted, the copies that disagree with that majority are rewritten and each rewrite is counted; a scrub ends with its
summary; dropped entries are reported; a write to the Assay window has no effect but its entry in S41. The numbers of the requesters that are
no master of R15, and so that of the event, are the model's choice (log entry 58), and so is which record is in transit (log entry 244). -/
def Obligations.MemoryErrors : Prop :=
  (∀ (s : State) (m : Fin 15) (a : BitVec 32) (q : Fin 17) (f : Bool) (e : Fin 3) (width : Nat), m.val < 13 → memoryAt a.toNat = some (m.val, width) →
    (q.val < 6 → s.canAccess q.val = true) →
    let w := a.toNat / width * width
    let n := min (s.fld (ECC_CNT m.val) 15 8 + 1) 255
    let covers := fun (x : TxItem) => decide (x.addr / 8 * 8 ≤ w) && decide (w < x.addr + x.bytes.length)
    Runs (.memoryRead m a q f e) s fun t =>
      (eccCheck (s.eccAt w) = .clean → t = s.toHub) ∧
      (eccCheck (s.eccAt w) = .corrected → t.fld (ECC_CNT m.val) 31 16 = min (s.fld (ECC_CNT m.val) 31 16 + 1) 65535 ∧
        Touches [ECC_CNT m.val, ECC_BEV m.val, ECC_STATUS] s.toHub t) ∧
      (eccCheck (s.eccAt w) = .uncorrectable →
        n ≤ t.fld (ECC_CNT m.val) 15 8 ∧ t.bit ECC_STATUS m.val = true ∧
        (q ≠ 0 ∨ f = true → t.fld (ECC_CNT m.val) 15 8 = n ∧ (s.count 41 < 64 →
          Logs t (if s.fwRuns then 0x1102 else 0) [m.val, w, q.val] (if m = 2 ∧ q = 6 then s.ingotAt w else []))) ∧
        (q = 0 → f = true → t.pw.lockAt = some s.frame) ∧ (q = 0 → f = false → s.fwRuns = true → t.pw.soft = true) ∧
        (q = 1 → ∀ k < 6, ∀ x ∈ (if m = 1 then (s.lane k).record.find? covers else if m = 0 then none else (s.inTransit.filter fun (y : Nat × TxItem) => y.1 == k).map Prod.snd),
          (t.lane k).record = (s.lane k).record.filter (· != x) ∧ ∃ y ∈ t.msh.service, lostMsgs 0xFF [(x.group, x.seq)] = [y.bytes]) ∧
        (q = 2 → t.fld JCT_STATUS 11 8 = 2 ∧ t.reg JCT_FAULT_CROSSING = s.tt.crossing % 2 ^ 32) ∧
        (3 ≤ q.val → q.val ≤ 7 → Touches [ECC_CNT m.val, ECC_STATUS] s.toHub t) ∧
        (8 ≤ q.val → q.val < 16 → t.feState (q.val - 8) = 3 ∧ t.fld (FE_STATE (q.val - 8)) 11 8 = 2 ∧ (t.eng (q.val - 8)).run = none) ∧
        (q = 16 → t.asy = { s.asy with engine := 3 }))) ∧
  (∀ (s : State) (h : Hdr) (p : List Byte) (m width : Nat), Accepts s.toHub h 0x0106 → p.length = 8 → pl p 0 4 % 4 = 0 → pl p 4 2 = 1 → plZero p 6 2 = true →
    let u := s.takeCmd h 0x0106
    let w := pl p 0 4 / width * width
    memoryAt (pl p 0 4) = some (m, width) → u.allowed 3 (pl p 0 4) 0 = true → eccCheck (u.eccAt w) = .uncorrectable → RingClean (u.memoryRead m w 3 false 0) 41 →
    Runs (.regRead h p) s fun t => Answered t h 0x0106 stINTEGRITY [] ∧ t.fld (ECC_CNT m) 15 8 = min (s.fld (ECC_CNT m) 15 8 + 1) 255 ∧
      Touches [ECC_CNT m, ECC_STATUS] s.toHub t) ∧
  (∀ (s : State) (h : Hdr) (n : Nat), Accepts s.toHub h 0x1303 → s.mode = mLOADING → s.pw.img = some (n, n) →
    let u := s.takeCmd h 0x1303
    (u.imageScan (u.bytes 0x30000000 n) n).2.isSome = true → Runs (.imageEnd h []) s fun t =>
      Answered t h 0x1303 stINTEGRITY [BitVec.ofNat 8 ({ cause := 7 } : ImageError).sec, 7, BitVec.ofNat 8 ({ cause := 7 } : ImageError).dec, 0] ∧ t.pw = { s.pw with img := none } ∧ t.mode = mLOADING) ∧
  (∀ s : State, s.mc.leaks < s.frame / 2 ^ 20 → Runs .eccBucketLeak s fun t => t.mc = { s.mc with leaks := s.mc.leaks + 1 } ∧
    (∀ m < 16, t.fld (ECC_CNT m) 7 0 = s.fld (ECC_CNT m) 7 0 - 1 ∧ t.fld (ECC_CNT m) 31 8 = s.fld (ECC_CNT m) 31 8) ∧
    Touches ((List.range 16).map ECC_CNT) s.toHub { t with mc := s.mc }) ∧
  (∀ (s : State) (a p q r : BitVec 32),
    let m := BitVec.ofNat 32 (tmrMask a.toNat)
    let flips := ((p &&& q) ||| (q &&& r) ||| (p &&& r)) &&& m
    let n := b2n (p &&& m != flips) + b2n (q &&& m != flips) + b2n (r &&& m != flips)
    (tmrMask a.toNat ≠ 0 → a.toNat ∉ reportRegs → a.toNat ∉ [TMR_REPAIRS, ECC_CNT 15, ECC_BEV 15, ECC_STATUS] →
      Runs (.tmrRepair ⟨a, p, q, r⟩) s fun t => t.heldReg a.toNat = (s.heldReg a.toNat ^^^ flips.toNat) % 2 ^ 32 ∧
        t.fld TMR_REPAIRS 31 0 = (s.fld TMR_REPAIRS 31 0 + n) % 2 ^ 32 ∧ t.fld (ECC_CNT 15) 31 16 = min (s.fld (ECC_CNT 15) 31 16 + n) 65535 ∧
        Touches [a.toNat, TMR_REPAIRS, ECC_CNT 15, ECC_BEV 15, ECC_STATUS] s.toHub { t with asy := s.asy } ∧
        (refOffset a.toNat = none → t.asy = s.asy) ∧ { t.asy with img := s.asy.img } = s.asy) ∧
    (tmrMask a.toNat = 0 → Runs (.tmrRepair ⟨a, p, q, r⟩) s fun t => t = s.toHub)) ∧
  (∀ (s : State) (m start len : Nat) (back : Bool), s.mc.scrub = some (m, (back, (start, len))) → m < 13 →
    let bad := s.ecc.filter fun x => decide (start ≤ x.1) && decide (x.1 < start + len)
    let width := if m < 3 then 8 else 4
    Runs .memScrubComplete s fun t => t.mc = { s.mc with scrub := none } ∧ t.reg SCRUB_CHECKED = len / width % 2 ^ 32 ∧
      t.reg SCRUB_CORRECTED = (bad.filter fun x => eccCheck x.2 = .corrected).length % 2 ^ 32 ∧
      t.reg SCRUB_UNCORR = (bad.filter fun x => eccCheck x.2 = .uncorrectable).length % 2 ^ 32 ∧
      (back = true → s.bit ECC_FLIP 31 = false → ∀ x ∈ bad, eccCheck x.2 = .corrected → x.1 < 0x101F0000 ∨ 0x10200000 ≤ x.1 → t.eccAt x.1 = 0)) ∧
  (∀ (s : State) (s41 : Bool), let n := if s41 then 41 else 40
    s.fwActs = true → s.count n < 64 → s.mbx.lostDue.contains n = true →
    Runs (.evLogLost s41) s fun t => t.mbx.lostDue.contains n = false ∧
      (s.bit MBX_CTRL 0 = true → s.bit MBX_EVT_MASK 17 = false → t.fld MBX_ESEQ 15 0 = (s.fld MBX_ESEQ 15 0 + 1) % 65536) ∧ Touches [] s.toHub t) ∧
  (∀ (s : State) (k : Fin 6) (a : BitVec 32), 0x50000000 ≤ a.toNat → a.toNat < 0x50100000 →
    Runs (.assayWindowWrite k a) s fun t => (s.count 41 < 64 → (t.items 41).length = (s.items 41).length + 1) ∧ Touches [] s.toHub t)

/-- Accesses of masters (R24, R400-R404, R407): an access that no window of its master allows freezes the master, is counted and changes no
memory; one for which the master has no path has no effect (R14), nor has a write of the reference block with the seal not OPEN, which is no
violation (R7, R402); a write of memory that the windows, the paths and R16 allow stores its bytes, leaves every other byte alone and keeps
the memory canonical; register writes, refused ones with no effect; siding counters only for their own side (R387); freezes released, flips
armed, the watchdog kicked. The paths of the Dispatcher and the Junction engine, and that a word without a path is a bus error, are the
model's reading (log entry 182), and that a bus error leaves no state (log entry 138). -/
def Obligations.MasterAccesses : Prop :=
  (∀ (s : State) (k : Fin 6) (acc : Fin 4) (a : BitVec 32) (bs : List Byte), s.canAccess k.val = true → bs ≠ [] →
    ¬ ((acc = 1 ∨ acc = 3) ∧ (touched a.toNat bs.length).all s.noViolation = true) → (∃ w ∈ touched a.toNat bs.length, s.allowed k.val w acc.val = false) →
    Runs (.interconnectAccess k acc a bs) s fun t => t.bit FW_STATUS k.val = true ∧ t.fld FW_VIOLATIONS 31 0 = min (s.fld FW_VIOLATIONS 31 0 + 1) (2 ^ 32 - 1) ∧
      (k = 0 → t.pw.lockAt = some s.frame) ∧ Touches [FW_STATUS, FW_VIOLATIONS] s.toHub { t with pw := s.pw }) ∧
  (∀ (s : State) (k : Fin 6) (a : BitVec 32) (bs : List Byte), s.canAccess k.val = true → bs ≠ [] →
    (∀ w ∈ touched a.toNat bs.length, s.allowed k.val w 1 = true ∧ hasPath k.val 1 w = true ∧ s.writable k.val w = true) → s.ecc = [] → s.bit ECC_FLIP 31 = false →
    Runs (.interconnectAccess k 1 a bs) s fun t => (∀ i < bs.length, t.byte (a.toNat + i) = bs.getD i 0) ∧
      (∀ b, b < a.toNat ∨ a.toNat + bs.length ≤ b → t.byte b = s.byte b) ∧ (memWf s.mem = true → memWf t.mem = true) ∧ { t with mem := s.mem } = s.toHub) ∧
  (∀ (s : State) (k : Fin 6) (acc : Fin 4) (a : BitVec 32) (bs : List Byte), (∀ w ∈ touched a.toNat bs.length, s.allowed k.val w acc.val = true) →
    ¬ ((acc = 1 ∨ acc = 3) ∧ (touched a.toNat bs.length).all isAssay = true) → (∃ w ∈ touched a.toNat bs.length, hasPath k.val acc.val w = false) →
    Runs (.interconnectAccess k acc a bs) s fun t => t = s.toHub) ∧
  (∀ (s : State) (k : Fin 6) (i : Nat) (bs : List Byte), i < 256 → s.asy.sealSt ≠ 1 → bs.length = 4 →
    Runs (.interconnectAccess k 1 (BitVec.ofNat 32 (CAL_REF i)) bs) s fun t => t = s.toHub) ∧
  (∀ (s : State) (k : Fin 6) (a w : BitVec 32), k = 1 ∨ k = 2 → a.toNat < 0x60000000 → Runs (.registerWrite k a w) s fun t => t = s.toHub) ∧
  (∀ (s : State) (k : Fin 6) (w : BitVec 32), s.canAccess k.val = true → k ≠ 1 → k ≠ 2 →
    (∀ a : BitVec 32, findReg a.toNat = none → Runs (.registerWrite k a w) s fun t => t = s.toHub) ∧
    (w.toNat % 65536 < 64 → Runs (.registerWrite k (BitVec.ofNat 32 TT_TURN_LEN) w) s fun t => t = s.toHub) ∧
    (∀ i < 64, s.modeIn ttBankModes = true → breaksR45 (written (s.reg (TT_SLOT i)) w.toNat slotMask 0) = false →
      Runs (.registerWrite k (BitVec.ofNat 32 (TT_SLOT i)) w) s fun t => t.reg (TT_SLOT i) = written (s.reg (TT_SLOT i)) w.toNat slotMask 0 % 2 ^ 32 ∧
        Touches [TT_SLOT i] s.toHub t) ∧
    (Runs (.registerWrite k (BitVec.ofNat 32 ECC_STATUS) w) s fun t => (∀ b < 32, t.bit ECC_STATUS b = (s.bit ECC_STATUS b && !bitAt w.toNat b)) ∧
      Touches [ECC_STATUS] s.toHub t)) ∧
  (∀ (s : State) (k : Fin 6) (n : Fin 64) (tail : Bool) (v : BitVec 32),
    (k ≠ 0 ∨ softSide n.val tail = false → Runs (.sidingCounterWrite k n tail v) s fun t => t.bit (SD_STATUS n.val) 2 = true ∧ t.fld (SD_HEAD n.val) 15 0 = s.fld (SD_HEAD n.val) 15 0 ∧
      t.fld (SD_TAIL n.val) 15 0 = s.fld (SD_TAIL n.val) 15 0 ∧ t.items n.val = s.items n.val ∧ Touches [] s.toHub t) ∧
    (k = 0 → softSide n.val false = true → takeHeld n.val s.held = none → s.count n.val ≤ 64 →
      (s.fld (SD_TAIL n.val) 15 0 + 65536 - v.toNat % 65536) % 65536 ≤ s.count n.val →
      Runs (.sidingCounterWrite k n false v) s fun t => t.fld (SD_HEAD n.val) 15 0 = v.toNat % 65536 ∧
        t.items n.val = (s.items n.val).drop (s.count n.val - (s.fld (SD_TAIL n.val) 15 0 + 65536 - v.toNat % 65536) % 65536) ∧ Touches [] s.toHub t)) ∧
  (∀ (s : State) (w : BitVec 32), bitAt w.toNat 0 = false → Runs (.fwReleaseWrite w) s fun t =>
    t.fld FW_STATUS 5 0 = s.fld FW_STATUS 5 0 &&& (63 - w.toNat % 64) ∧ Touches [FW_STATUS] s.toHub t) ∧
  (∀ (s : State) (w : BitVec 32),
    (bits w.toNat 19 16 ≤ 13 → bits w.toNat 7 0 < codeBits (bits w.toNat 19 16) → s.modeIn [mIDLE, mTEST] = true →
      bitAt w.toNat 31 = false ∨ s.flipStatus (bits w.toNat 19 16) (bits w.toNat 7 0) (bits w.toNat 15 8) (bits w.toNat 30 30) (s.reg ECC_FLIP_ADDR) = none →
      Runs (.eccFlipWrite w) s fun t => t.reg ECC_FLIP = w.toNat &&& 0xC00FFFFF ∧ KeepsRest s.toHub t ∧ t.mem = s.mem) ∧
    (s.modeIn [mIDLE, mTEST] = false → Runs (.eccFlipWrite w) s fun t => t = s.toHub)) ∧
  (∀ (s : State) (k : Fin 6) (v : BitVec 32), Runs (.rpWdogKickWrite k v) s fun t =>
    t.pw.kickAt = (if k = 0 ∧ v.toNat % 65536 = 0xA5C3 then s.xo else s.pw.kickAt) ∧ { t with pw := s.pw } = s.toHub)

/-! ### Power and reset (18) -/

/-- Resets (R34, R435, R447-R450): each source asserts its reset when its condition holds; a source other than a power-on, brown-out, RESET_N
or wake reset keeps the partition in retention but for a pending store, and the SRAM; a wake from DORMANT returns a disciplined servo in
holdover; a held source keeps the options from loading until it is released, and PD0, held by a power-on and by RESET_N, until it is released.
By the model's reading memory is empty after a power-on (log entry 4) and after a wake (log entry 146), the other resets keep it (log entry
147), whether the Signal Box locks up by an exception of its own is free (log entry 219), and a debug request clears the engines and what the
lanes hold (log entry 141). -/
def Obligations.Resets : Prop :=
  (∀ s : State, Runs .powerOnReset s fun t => ResetBy 0 s.toHub t ∧ t.mem = [] ∧ bitAt t.pw.held 0 = true ∧ t.pw.loadAt = none ∧ t.pw.srcs = 1 ∧ t.bit RP_PD_STATUS 0 = false) ∧
  (∀ s : State, Runs .brownOutReset s fun t => ResetBy 1 s.toHub t ∧ t.mem = s.mem ∧ bitAt t.pw.held 1 = true ∧ t.pw.loadAt = none) ∧
  (∀ s : State, Runs .resetNAssert s fun t => if s.mode = mDORMANT then ResetBy 8 s.toHub t ∧ t.fld RP_RST_CAUSE 9 8 = 2 ∧ t.mem = [] else ResetBy 2 s.toHub t ∧
    t.mem = s.mem ∧ bitAt t.pw.held 2 = true ∧ t.pw.loadAt = none ∧ t.bit RP_PD_STATUS 0 = false) ∧
  (∀ s : State, s.bit RP_WDOG 31 = true → s.pw.kickAt + s.fld RP_WDOG 7 0 * 400000 ≤ s.xo → Runs .watchdogTimeout s fun t => ResetBy 3 s.toHub t ∧ Retains s.toHub t) ∧
  (∀ s : State, s.pw.soft = true → Runs .softwareResetRequest s fun t => ResetBy 4 s.toHub t ∧ Retains s.toHub t ∧ t.pw.soft = false) ∧
  (∀ s : State, s.bit (RP_FUSE 3) 9 = false → s.mode ≠ mDORMANT → Runs .debugResetRequest s fun t => ResetBy 5 s.toHub t ∧ Retains s.toHub t ∧ t.engines = [] ∧
    ∀ n < 11, t.laneState n = s.laneState n ∧ (t.lane n).stream = [] ∧ (t.lane n).record = [] ∧ (t.lane n).service = [] ∧ (t.lane n).kept = [] ∧ (t.lane n).asm = []) ∧
  (∀ (s : State) (lost : Bool), s.mode ≠ mDORMANT → s.bit RP_PD_STATUS 1 = true → lost = true ∨ 1024 ≤ s.tt.badClk →
    Runs (.clockFailureReset lost) s fun t => ResetBy 6 s.toHub t ∧ Retains s.toHub t) ∧
  (∀ (s : State) (f : Nat), s.pw.lockAt = some f → f + 32 ≤ s.frame → Runs .lockupReset s fun t => ResetBy 7 s.toHub t ∧ Retains s.toHub t) ∧
  (∀ s : State, s.mode ≠ mDORMANT → s.bit RP_PD_STATUS 1 = true → s.pw.lockAt = none → Runs .lockupReset s fun t =>
    if Config.nestedException s.frame = true then ResetBy 7 s.toHub t ∧ Retains s.toHub t else t = s.toHub) ∧
  (∀ (s : State) (c : Fin 3) (e : Nat), s.mode = mDORMANT → c.val ≠ 0 ∨ s.fld AONC_STATUS 11 8 ≠ 0 →
    Runs (.dormantWake c e) s fun t => ResetBy 8 s.toHub t ∧ t.fld RP_RST_CAUSE 9 8 = c.val ∧ t.mem = [] ∧ t.xo = s.xo + e ∧
      (s.tm.slept = true → t.servo = 4 ∧ t.fld TM_STATUS 6 5 = 3 ∧ t.tm.holdXo = s.tm.holdXo ∧ t.bit TT_STATUS 7 = true)) ∧
  (∀ s : State, bitAt s.pw.held 0 = true → Runs .powerOnResetRelease s fun t => t.pw = { s.pw with held := s.pw.held - 2 ^ 0, loadAt := if s.pw.held - 2 ^ 0 = 0 ∧ s.bit RP_PD_STATUS 0 = true then some s.xo else none } ∧
    { t with pw := s.pw } = s.toHub) ∧
  (∀ s : State, bitAt s.pw.held 1 = true → Runs .brownOutResetRelease s fun t => t.pw = { s.pw with held := s.pw.held - 2 ^ 1, loadAt := if s.pw.held - 2 ^ 1 = 0 ∧ s.bit RP_PD_STATUS 0 = true then some s.xo else none } ∧
    { t with pw := s.pw } = s.toHub) ∧
  (∀ s : State, bitAt s.pw.held 2 = true → Runs .resetNRelease s fun t => t.pw = { s.pw with held := s.pw.held - 2 ^ 2, loadAt := if s.pw.held - 2 ^ 2 = 0 ∧ s.bit RP_PD_STATUS 0 = true then some s.xo else none } ∧
    { t with pw := s.pw } = s.toHub)

/-- Bring-up (R443, R445, R451-R459): the options load 1600 XO cycles after they began and channels take BIAS_DEFAULT; PD0 is released and the
options begin to load, then the other domains are released in order, PD1 with the straps; a clock that fails in qualification puts its domain
back (that its first 256 cycles are 8 frames, and 256 XO cycles in PD0, is the model's reading, log entry 143); quadrants come on one at a
time, 50 us apart, and PD9 after them where it was off; a pin whose domain is off, or of a lane that does not train in LOADING, holds the
state of its fuse group (R23, R492, R494, R496), and a channel's nodes are tied to AGND or held at BIAS_DEFAULT (R491); the supply warning
latches, counts and clears, each rail with its 20 mV of hysteresis (that the rails' levels come as operands is the model's form, log entry
118). -/
def Obligations.BringUp : Prop :=
  (∀ (s : State) (x : Nat), s.pw.loadAt = some x → x + 1600 ≤ s.xo → Runs .optionLoadComplete s fun t => t.bit RP_FUSE_STATUS 0 = true ∧ t.pw = { s.pw with loadAt := none } ∧
    (∀ i < 8, t.reg (RP_FUSE i) = fuseUsed fuseBits / 2 ^ (32 * i) % 2 ^ 32) ∧
    (∀ n < 256, t.fld (AFE_CH_CFG n) 15 8 = t.fld (RP_FUSE 3) 7 0 ∧ t.fld (AFE_CH_STAT n) 31 24 = t.fld (RP_FUSE 3) 7 0)) ∧
  (∀ (s : State) (straps : BitVec 3), s.bit RP_PD_STATUS 0 = false → bitAt s.pw.powered 0 = true → bitAt s.pw.held 2 = false →
    Runs (.domainResetRelease 0 straps) s fun t => t.bit RP_PD_STATUS 0 = true ∧ t.bit RP_PD_STATUS 16 = true ∧
      (∀ k < 10, k ≠ 0 → t.bit RP_PD_STATUS k = s.bit RP_PD_STATUS k) ∧ t.pw.loadAt = (if s.pw.held = 0 then some s.xo else none) ∧
      Touches [RP_PD_STATUS] s.toHub { t with pw := s.pw }) ∧
  (∀ (s : State) (d : Fin 10) (straps : BitVec 3), d ≠ 0 → s.bit RP_PD_STATUS d.val = false → bitAt s.pw.powered d.val = true → s.pw.held = 0 →
    (∀ k < d.val, bitAt s.pw.powered k = true → s.bit RP_PD_STATUS k = true) → s.bit RP_FUSE_STATUS 0 = true →
    Runs (.domainResetRelease d straps) s fun t => t.bit RP_PD_STATUS d.val = true ∧ t.bit RP_PD_STATUS (16 + d.val) = true ∧
      (∀ k < 10, k ≠ d.val → t.bit RP_PD_STATUS k = s.bit RP_PD_STATUS k) ∧
      (d.val = 1 → t.reg SYS_STRAPS = straps.toNat ∧ t.fld TT_STATUS 5 4 = (if bitAt straps.toNat 2 then 2 else 0) ∧ t.bit FW_STATUS 8 = true) ∧
      (5 ≤ d.val → d.val ≤ 8 → (t.quad (d.val - 5)).on = true)) ∧
  (∀ (s : State) (d : Fin 10), Runs (.clkQualLoss d) s fun t =>
    (s.bit RP_PD_STATUS d.val = false → t.bit RP_PD_STATUS (16 + d.val) = false ∧ Touches [RP_PD_STATUS] s.toHub t) ∧
    (s.bit RP_PD_STATUS d.val = true → d.val ≠ 0 → s.frame ≤ (tget (fun _ => (0, 0)) s.pw.relAt d.val).1 + 8 → t.bit RP_PD_STATUS d.val = false) ∧
    (d.val = 0 → s.bit RP_PD_STATUS 0 = true → if s.xo ≤ (tget (fun _ => (0, 0)) s.pw.relAt 0).2 + 256 then
      t.bit RP_PD_STATUS 0 = false ∧ t.bit RP_FUSE_STATUS 0 = false ∧ t.pw.loadAt = none else t = s.toHub) ∧
    (s.bit RP_PD_STATUS d.val = true → d.val ≠ 0 → (tget (fun _ => (0, 0)) s.pw.relAt d.val).1 + 8 < s.frame → t = s.toHub)) ∧
  (∀ (s : State) (q : Fin 4), s.modeIn quadModes = true → bitAt s.pw.powered (5 + q.val) = false → (∀ k < q.val, bitAt s.pw.powered (5 + k) = true) →
    s.pw.quadAt + (if q = 0 then 0 else 2000) ≤ s.xo →
    Runs (.quadrantPowerOn q) s fun t => t.pw = { s.pw with powered := if q = 3 then (s.pw.powered + 256) ||| 512 else s.pw.powered + 2 ^ (5 + q.val), quadAt := s.xo } ∧ { t with pw := s.pw } = s.toHub) ∧
  (∀ (s : Hub) (g i : Nat), s.bit RP_PD_STATUS (pinOwner g) = false → s.pinHeld g i = some (s.pinGroup g)) ∧
  (∀ (s : Hub) (g i : Nat), s.mode = mLOADING → (1 ≤ g ∧ g ≤ 7 ∧ g ∉ s.trainingLanes) ∨ (g = 8 ∧ 8 + i ∉ s.trainingLanes) → s.pinHeld g i = some (s.pinGroup g)) ∧
  (∀ (s : Hub) (i : Nat), i ≠ 3 ∨ s.bit (RP_FUSE 3) 9 = true → s.pinHeld 26 i = some (s.pinGroup 26)) ∧
  (∀ (s : Hub) (n : Nat), n < 256 → (bitAt s.pw.powered (5 + n / 64) = false → s.chLevel n = none) ∧
    (bitAt s.pw.powered (5 + n / 64) = true → s.bit RP_PD_STATUS (5 + n / 64) = true → s.chLevel n = some (s.fld (AFE_CH_STAT n) 31 24)) ∧
    (bitAt s.pw.powered (5 + n / 64) = true → s.bit RP_PD_STATUS (5 + n / 64) = false → s.pw.srcs ≠ 0 →
      s.chLevel n = if [0, 1, 2, 8].any fun v => bitAt s.pw.srcs v then none else some s.biasDefault)) ∧
  (∀ (s : State) (core afe link io : BitVec 12),
    let mv := fun (k : Nat) => ([core, afe, link, io].getD k 0).toNat
    let level := fun (k : Nat) => [760, 1710, 855, 1710].getD k 0
    let below := fun (k : Nat) => decide (mv k < level k) || (s.bit RP_SUPPLY (20 + k) && decide (mv k < level k + 20))
    Runs (.supplyWarnLatch ⟨core, afe, link, io⟩) s fun t =>
      (∀ k < 4, t.bit RP_SUPPLY (20 + k) = below k ∧ t.bit RP_SUPPLY (16 + k) = (s.bit RP_SUPPLY (16 + k) || below k)) ∧
      ((∃ k < 4, below k = true) → t.bit RP_SUPPLY 8 = true ∧ t.pw.belowAt = s.xo ∧ t.pw.warnAt = (if s.bit RP_SUPPLY 8 then s.pw.warnAt else s.xo) ∧
        t.fld RP_SUPPLY 7 0 = (if s.bit RP_SUPPLY 8 then s.fld RP_SUPPLY 7 0 else min (s.fld RP_SUPPLY 7 0 + 1) 255)) ∧
      ((∀ k < 4, below k = false) → t.bit RP_SUPPLY 8 = s.bit RP_SUPPLY 8 ∧ t.fld RP_SUPPLY 7 0 = s.fld RP_SUPPLY 7 0 ∧
        t.pw.belowAt = (if s.fld RP_SUPPLY 23 20 = 0 then s.pw.belowAt else s.xo - 40)) ∧
      Touches [RP_SUPPLY] s.toHub { t with pw := s.pw, mon := s.mon }) ∧
  (∀ s : State, s.bit RP_SUPPLY 8 = true → s.fld RP_SUPPLY 23 20 = 0 → s.pw.belowAt + 40000 ≤ s.xo → Runs .supplyWarnClear s fun t => t.bit RP_SUPPLY 8 = false ∧
    t.fld RP_SUPPLY 19 16 = s.fld RP_SUPPLY 19 16 ∧ Touches [RP_SUPPLY] s.toHub t) ∧
  (∀ s : State, s.fld RP_SUPPLY 23 20 ≠ 0 → Runs .supplyWarnClear s fun t => t = s.toHub)

/-! ### Modes, system commands and the image (17, 18) -/

/-- MODE_SET and MODE_GET (R432, R437, R440) and how a change takes effect (R432, R433, R435): a listed transition is pending and its answer
waits; the mode changes at its first crossing, which SYS_MODE_CROSSING keeps; a target past PREP_LIMIT is given up; MODE_SET DORMANT is
answered at once, and refused while a store runs or is pending or the hub is joined; MODE_SET IDLE in PREPARE cancels what is pending, whose
MODE_SET is answered DENIED (R435, R437); in DORMANT every domain but PD0 is off. By the model's reading the sidings are empty on entry to
DORMANT (log entry 146), and a change is due once the tick has begun its first crossing in the new mode (log entry 150). -/
def Obligations.ModeChanges : Prop :=
  (∀ (s : State) (h : Hdr) (p : List Byte) (k : Nat), Accepts s.toHub h 0x0201 → Alone s.toHub → p.length = 4 → plZero p 1 3 = true → s.transition (pl p 0 1) = some k →
    pl p 0 1 ≠ mDORMANT → s.changing = false → s.pw.chg = none → s.mode = mIDLE → pl p 0 1 = mTEST ∨ s.admits = true →
    Runs (.modeSet h p) s fun t => Waits t h 0x0201 0 p ∧ t.bit SYS_MODE 12 = true ∧ t.fld SYS_MODE 10 8 = pl p 0 1 ∧ t.mode = s.mode ∧
      (∃ c, t.pw.chg = some c ∧ c.kind = 0 ∧ c.goal = if pl p 0 1 = mRUN ∨ pl p 0 1 = mPULSE then mPREPARE else pl p 0 1) ∧ Touches [SYS_MODE] s.toHub { t with pw := s.pw }) ∧
  (∀ (s : State) (h : Hdr) (p : List Byte) (k : Nat), Accepts s.toHub h 0x0201 → Alone s.toHub → p.length = 4 → plZero p 1 3 = true → s.transition (pl p 0 1) = some k →
    s.changing = false → s.pw.chg = none → s.mode ≠ mIDLE →
    Runs (.modeSet h p) s fun t => Waits t h 0x0201 0 p ∧ t.bit SYS_MODE 12 = true ∧ t.fld SYS_MODE 10 8 = pl p 0 1 ∧ t.mode = s.mode ∧
      (∃ c, t.pw.chg = some c ∧ c.kind = k ∧ c.goal = pl p 0 1) ∧ Touches [SYS_MODE] s.toHub { t with pw := s.pw }) ∧
  (∀ (s : State) (h : Hdr) (p : List Byte), Accepts s.toHub h 0x0201 → p.length = 4 → pl p 0 1 ≤ 7 → plZero p 1 3 = true → pl p 0 1 ≠ s.mode → s.transition (pl p 0 1) = none →
    Refuses (.modeSet h p) s h 0x0201 stBAD_MODE) ∧
  (∀ (s : State) (h : Hdr) (p : List Byte), Accepts s.toHub h 0x0201 → Alone s.toHub → p.length = 4 → plZero p 1 3 = true → pl p 0 1 = mDORMANT → s.mode = mIDLE →
    s.changing = false →
    (s.asy.storing.isSome = true ∨ s.asy.pending = true → Refuses (.modeSet h p) s h 0x0201 stBUSY) ∧
    (s.asy.storing = none → s.asy.pending = false → s.joinSet = true →
      Runs (.modeSet h p) s fun t => Answered t h 0x0201 stDENIED s.modePayload ∧ Touches [] s.toHub t) ∧
    (s.asy.storing = none → s.asy.pending = false → s.joinSet = false →
      Replies (.modeSet h p) s h 0x0201 s.modePayload fun t => t.mode = mIDLE ∧ (∃ c, t.pw.chg = some c ∧ c.kind = 3 ∧ c.goal = mDORMANT) ∧
        Touches [SYS_MODE] s.toHub { t with pw := s.pw })) ∧
  (∀ (s : State) (h : Hdr) (p : List Byte) (d : Def), Accepts s.toHub h 0x0201 → Alone s.toHub → p.length = 4 → plZero p 1 3 = true → pl p 0 1 = mIDLE → s.mode = mPREPARE →
    s.changing = true → s.mbx.deferred = [d] → d.op = 0x0201 → d.hdr.target ≠ 1 → s.bit PAIR_STATUS 15 = false →
    Runs (.modeSet h p) s fun t => Answered t d.hdr 0x0201 stDENIED s.modePayload ∧ Waits t h 0x0201 0 p ∧ t.bit SYS_MODE 12 = true ∧ t.fld SYS_MODE 10 8 = mIDLE ∧
      t.mode = mPREPARE ∧ (∃ c, t.pw.chg = some c ∧ c.kind = 0 ∧ c.goal = mIDLE) ∧ Touches [SYS_MODE] s.toHub { t with pw := s.pw }) ∧
  (∀ (s : State) (h : Hdr), Accepts s.toHub h 0x0202 →
    Replies (.modeGet h []) s h 0x0202 (words [s.reg SYS_MODE, s.reg SYS_PREP, s.reg SYS_MODE_CROSSING, s.shadowTurn SYS_MODE_TURN]) fun t => Touches [] s.toHub t) ∧
  (∀ (s : State) (c : Change), s.pw.chg = some c → c.goal < 8 → s.now.mode = c.goal → s.mode ≠ c.goal →
    (c.kind ≠ 3 → c.kind ≠ 4 → Runs .modeChangeApply s fun t => t.mode = c.goal ∧ t.reg SYS_MODE_CROSSING = s.tt.crossing % 2 ^ 32 ∧
      t.bit SYS_MODE 12 = decide (c.goal = mPREPARE ∧ s.bit SYS_MODE 12 = true ∧ s.fld SYS_MODE 10 8 ≠ mPREPARE)) ∧
    (c.kind = 4 → Runs .prepareTargetEntry s fun t => t.mode = c.goal ∧ t.reg SYS_MODE_CROSSING = s.tt.crossing % 2 ^ 32)) ∧
  (∀ (s : State) (c : Change), s.pw.chg = some c → c.kind = 3 → Runs .modeChangeApply s fun t => t.mode = mDORMANT ∧
    (∀ d < 10, 1 ≤ d → t.bit RP_PD_STATUS d = false) ∧ t.sid = [] ∧ t.asy.nor = s.asy.nor ∧ t.asy.otp = s.asy.otp ∧
    t.tm.slept = (decide (2 ≤ s.servo) && decide (s.servo ≤ 4)) ∧ t.tm.holdXo = (if s.servo = 4 then s.tm.holdXo else s.xo) ∧
    t.reg TM_RATE = t.reg TM_INTEG % 2 ^ 32) ∧
  (∀ (s : State) (c : Change) (x : Nat), s.pw.chg = some c → c.kind = 4 → s.pw.prepFrom = some x → s.fld SYS_CTRL 7 0 ≠ 0 → x + s.fld SYS_CTRL 7 0 * 4000000 ≤ s.xo →
    s.now.mode ≠ c.goal → Runs .prepLimitTimeout s fun t => t.pw = { s.pw with chg := none, prepFrom := none } ∧ t.bit SYS_MODE 12 = false ∧ t.fld SYS_MODE 10 8 = mPREPARE ∧
      t.mode = s.mode ∧ Touches [SYS_MODE] s.toHub { t with pw := s.pw })

/-- The SYS commands (R439-R442): identity, echo, event settings and counters; SYS_RESET asks for the software reset; REG_READ answers the
word that the host bridge may read, REG_WRITE makes the write, and either freezes the bridge at a word that no window of it allows; of COUNT
words REG_READ answers all or the status of the first that is refused, and REG_WRITE writes up to the first that is refused, whose status it
answers with WRITTEN (not with FROZEN: the model's reading, log entry 166); a write of the reference block with the seal not OPEN is SEALED
(R7); firmware takes the error log before the answer (the model's choice, log entry 181); the read that latches SYS_MODE_TURN. -/
def Obligations.SystemCommands : Prop :=
  (∀ (s : State) (h : Hdr), Accepts s.toHub h 0x0101 →
    Replies (.sysInfo h []) s h 0x0101 (words [s.reg SYS_ID, s.reg SYS_FW, s.reg SYS_STRAPS] ++ leBytes 8 Config.deviceId.toNat ++ leBytes 4 (s.reg RP_RST_CAUSE))
      fun t => Touches [] s.toHub t) ∧
  (∀ (s : State) (h : Hdr) (p : List Byte), Accepts s.toHub h 0x0102 → p.length = 4 → pl p 0 2 = 0x5AA5 → plZero p 2 2 = true →
    Replies (.sysReset h p) s h 0x0102 [] fun t => t.pw = { s.pw with soft := true } ∧ Touches [] s.toHub { t with pw := s.pw }) ∧
  (∀ (s : State) (h : Hdr) (p : List Byte), Accepts s.toHub h 0x0103 → Replies (.sysEcho h p) s h 0x0103 p fun t => Touches [] s.toHub t) ∧
  (∀ (s : State) (h : Hdr) (p : List Byte), Accepts s.toHub h 0x0104 → p.length = 8 → pl p 0 4 < 2 ^ 20 → pl p 0 4 % 2 = 0 → pl p 4 1 ≤ 3 → plZero p 5 3 = true →
    Replies (.sysEvents h p) s h 0x0104 [] fun t => t.reg MBX_EVT_MASK = pl p 0 4 ∧ t.fld MBX_CTRL 1 0 = pl p 4 1 ∧ t.fld MBX_CTRL 15 8 = s.fld MBX_CTRL 15 8 ∧
      Touches [MBX_EVT_MASK, MBX_CTRL] s.toHub t) ∧
  (∀ (s : State) (h : Hdr), Accepts s.toHub h 0x0105 →
    let u := s.takeCmd h 0x0105
    Replies (.sysCounters h []) s h 0x0105 (words [u.mbxStatus, u.mbxSrc 0, u.mbxSrc 1, u.mbxSrc 2, u.reg MBX_CNT0, u.reg MBX_CNT1, u.reg MBX_CNT2]) fun t => Touches [] s.toHub t) ∧
  (∀ (s : State) (h : Hdr) (p : List Byte), Accepts s.toHub h 0x0106 → p.length = 8 → pl p 0 4 % 4 = 0 → pl p 4 2 = 1 → plZero p 6 2 = true → isReg (pl p 0 4) = true →
    let u := s.takeCmd h 0x0106
    (u.allowed 3 (pl p 0 4) 0 = true → RingClean (u.readEffect 3 (pl p 0 4)) 41 → Runs (.regRead h p) s fun t => Answered t h 0x0106 stOK (words [u.regValue 3 (pl p 0 4)]) ∧
      Touches [] (u.readEffect 3 (pl p 0 4)) t) ∧
    (u.allowed 3 (pl p 0 4) 0 = false → RingClean u 41 → Runs (.regRead h p) s fun t => Answered t h 0x0106 stFROZEN [] ∧ t.bit FW_STATUS 3 = true ∧
      Touches [FW_STATUS, FW_VIOLATIONS] s.toHub t)) ∧
  (∀ (s : State) (h : Hdr) (p : List Byte), Accepts s.toHub h 0x0107 → p.length = 12 → pl p 0 4 % 4 = 0 → pl p 4 2 = 1 → plZero p 6 2 = true → isReg (pl p 0 4) = true →
    let u := s.takeCmd h 0x0107
    (u.allowed 3 (pl p 0 4) 1 = true → (u.writeReg 3 (pl p 0 4) (pl p 8 4)).1 = stOK → RingClean (u.writeReg 3 (pl p 0 4) (pl p 8 4)).2 41 → Runs (.regWrite h p) s fun t => Answered t h 0x0107 stOK [1, 0, 0, 0] ∧
      Touches [] (u.writeReg 3 (pl p 0 4) (pl p 8 4)).2 t) ∧
    (u.noViolation (pl p 0 4) = false → u.allowed 3 (pl p 0 4) 1 = false → RingClean u 41 → Runs (.regWrite h p) s fun t => Answered t h 0x0107 stFROZEN [] ∧ t.bit FW_STATUS 3 = true ∧
      Touches [FW_STATUS, FW_VIOLATIONS] s.toHub t)) ∧
  (∀ (s : State) (h : Hdr) (p : List Byte) (i : Nat), Accepts s.toHub h 0x0107 → p.length = 12 → i < 256 → pl p 0 4 = CAL_REF i → pl p 4 2 = 1 → plZero p 6 2 = true →
    s.asy.sealSt ≠ 1 → s.mode ≠ mLOADING → RingClean (s.takeCmd h 0x0107) 41 →
    Runs (.regWrite h p) s fun t => Answered t h 0x0107 stSEALED [0, 0, 0, 0] ∧ Touches [] s.toHub t) ∧
  (∀ (s : State) (h : Hdr) (p : List Byte) (ws : Nat → Nat), Accepts s.toHub h 0x0106 → p.length = 8 → rangeBad (pl p 0 4) (pl p 4 2) 256 = false → plZero p 6 2 = true →
    let n := pl p 4 2
    let after := fun k => (List.range k).foldl (fun (v : Hub) i => (v.hostRead (pl p 0 4 + 4 * i)).2) (s.takeCmd h 0x0106)
    ((∀ i < n, ((after i).hostRead (pl p 0 4 + 4 * i)).1.toOption = some (ws i)) → RingClean (after n) 41 →
      Runs (.regRead h p) s fun t => Answered t h 0x0106 stOK (words ((List.range n).map ws)) ∧ Touches [] (after n) t) ∧
    (∀ k < n, ∀ st, (∀ i < k, ((after i).hostRead (pl p 0 4 + 4 * i)).1.toOption = some (ws i)) → ((after k).hostRead (pl p 0 4 + 4 * k)).1 = .error st → RingClean (after (k + 1)) 41 →
      Runs (.regRead h p) s fun t => Answered t h 0x0106 st [] ∧ Touches [] (after (k + 1)) t)) ∧
  (∀ (s : State) (h : Hdr) (p : List Byte), Accepts s.toHub h 0x0107 → p.length = 8 + 4 * pl p 4 2 → rangeBad (pl p 0 4) (pl p 4 2) 254 = false → plZero p 6 2 = true →
    let n := pl p 4 2
    let put := fun (v : Hub) i => v.hostWrite (pl p 0 4 + 4 * i) (pl p (8 + 4 * i) 4)
    let after := fun k => (List.range k).foldl (fun (v : Hub) i => (put v i).2) (s.takeCmd h 0x0107)
    ((∀ i < n, (put (after i) i).1 = stOK) → RingClean (after n) 41 →
      Runs (.regWrite h p) s fun t => Answered t h 0x0107 stOK (leBytes 2 n ++ [0, 0]) ∧ Touches [] (after n) t) ∧
    (∀ k < n, ∀ st, (∀ i < k, (put (after i) i).1 = stOK) → (put (after k) k).1 = st → st ≠ stOK → RingClean (after (k + 1)) 41 →
      Runs (.regWrite h p) s fun t => Answered t h 0x0107 st (if st = stFROZEN then [] else leBytes 2 k ++ [0, 0]) ∧ Touches [] (after (k + 1)) t)) ∧
  (∀ s : State, Runs .sysModeCrossingRead s fun t => t.reg SYS_MODE_TURN = s.shadowTurn SYS_MODE_TURN % 2 ^ 32 ∧ Touches [SYS_MODE_TURN] s.toHub t)

/-- The IMAGE commands (R463-R467): an image begins, its data enter the buffer at its place and nowhere else, it is aborted, its status is answered; IMAGE_END answers
INTEGRITY with what failed and forgets the image, or loads it and enters IDLE, or TEST with BOOT 0b11. By the model's reading BYTES and IMAGE_BYTES are 0 with no image
(log entry 157), and the check and the load are one step (log entry 156). -/
def Obligations.ImageCommands : Prop :=
  (∀ (s : State) (h : Hdr) (p : List Byte), Accepts s.toHub h 0x1301 → s.mode = mLOADING → p.length = 4 → 192 ≤ pl p 0 4 → pl p 0 4 ≤ 0x200000 → pl p 0 4 % 4 = 0 →
    Replies (.imageBegin h p) s h 0x1301 [] fun t => t.pw = { s.pw with img := some (pl p 0 4, 0) } ∧ t.reg RP_IMAGE = 2 ^ 24 ∧ Touches [RP_IMAGE] s.toHub { t with pw := s.pw }) ∧
  (∀ (s : State) (h : Hdr) (p : List Byte) (total got : Nat), Accepts s.toHub h 0x1302 → s.mode = mLOADING → 8 ≤ p.length → p.length ≤ 1024 → p.length % 4 = 0 →
    s.pw.img = some (total, got) → pl p 0 4 = got → got + (p.length - 4) ≤ total → total ≤ 0x200000 → s.ecc = [] → s.bit ECC_FLIP 31 = false →
    Replies (.imageData h p) s h 0x1302 [] fun t => t.pw = { s.pw with img := some (total, got + (p.length - 4)) } ∧
      (∀ i < p.length - 4, t.byte (0x30000000 + got + i) = p.getD (4 + i) 0) ∧
      (∀ a, a < 0x30000000 + got ∨ 0x30000000 + got + (p.length - 4) ≤ a → a < 0x101F0000 ∨ 0x10200000 ≤ a → t.byte a = s.byte a) ∧
      KeepsRegs [] s.toHub t ∧ KeepsRest s.toHub { t with pw := s.pw }) ∧
  (∀ (s : State) (h : Hdr) (n : Nat), Accepts s.toHub h 0x1303 → s.mode = mLOADING → s.pw.img = some (n, n) →
    let u := s.takeCmd h 0x1303
    let b := u.bytes 0x30000000 n
    (u.imageScan b n).2 = none →
    (∀ e, (u.imageScan b n).1.checkImage b n = .error e → Runs (.imageEnd h []) s fun t =>
      Answered t h 0x1303 stINTEGRITY [BitVec.ofNat 8 e.sec, BitVec.ofNat 8 e.cause, BitVec.ofNat 8 e.dec, 0] ∧ t.pw = { s.pw with img := none } ∧ t.mode = mLOADING) ∧
    (∀ xs, (u.imageScan b n).1.checkImage b n = .ok xs →
      (((u.imageScan b n).1.decoderWindows xs).loadSections b xs).2 = none →
      Runs (.imageEnd h []) s fun t => (∃ pay, Answered t h 0x1303 stOK pay) ∧ t.pw.img = none ∧ t.mode = if s.fld SYS_STRAPS 1 0 = 3 then mTEST else mIDLE)) ∧
  (∀ (s : State) (h : Hdr), Accepts s.toHub h 0x1304 → s.mode = mLOADING →
    Replies (.imageStatus h []) s h 0x1304 (words [s.reg RP_IMAGE, (s.pw.img.getD (0, 0)).2, (s.pw.img.getD (0, 0)).1]) fun t => Touches [] s.toHub t) ∧
  (∀ (s : State) (h : Hdr), Accepts s.toHub h 0x1305 → s.mode = mLOADING →
    Replies (.imageAbort h []) s h 0x1305 [] fun t => t.pw = { s.pw with img := none } ∧ t.reg RP_IMAGE = 0 ∧ Touches [RP_IMAGE] s.toHub { t with pw := s.pw })

/-- R104, of every step: the hallmark counter holds at most 32 burned bits, and a step burns one more bit or leaves the counter as it is. -/
def Obligations.HallmarkCounterOnlyGrows : Prop :=
  ∀ s t : State, s.asy.otp ≤ 32 → step s = .next t → t.asy.otp ≤ 32 ∧ (t.asy.otp = s.asy.otp ∨ t.asy.otp = s.asy.otp + 1)

/-- Every step keeps the memory's canonical form: addresses strictly rising, no byte listed that equals what an unlisted address reads as (the form is
the model's own, log entry 4). -/
def Obligations.MemoryStaysCanonical : Prop :=
  ∀ s t : State, memWf s.mem = true → step s = .next t → memWf t.mem = true
end

