-- ==== Sys2Proof/Laws/Tables.lean ====
section
/-! SUPPORT. Reading and writing sparse tables, and their canonical form. -/

namespace Sys2Proof.Machine

variable {α : Type} (d : Nat → α)

theorem tget_tdel_same (t : List (Nat × α)) (k : Nat) : tget d (tdel t k) k = d k := by
  induction t with
  | nil => rfl
  | cons x t ih =>
    obtain ⟨j, v⟩ := x
    by_cases h : j = k
    · simp [tdel, h, ih]
    · simp [tdel, h, tget, ih]

theorem tget_tdel_ne (t : List (Nat × α)) {k i : Nat} (hk : i ≠ k) : tget d (tdel t k) i = tget d t i := by
  induction t with
  | nil => rfl
  | cons x t ih =>
    obtain ⟨j, v⟩ := x
    by_cases h : j = k
    · simp [tdel, h, tget, ih, Ne.symm hk]
    · simp only [tdel, h, if_false, tget, ih]

theorem tget_tput_ne (t : List (Nat × α)) {k i : Nat} (v : α) (hk : i ≠ k) : tget d (tput t k v) i = tget d t i := by
  induction t with
  | nil => simp [tput, tget, Ne.symm hk]
  | cons x t ih =>
    obtain ⟨j, w⟩ := x
    by_cases h : k < j
    · simp [tput, h, tget, Ne.symm hk]
    · simp [tput, h, tget, ih]

theorem tget_tput_same (t : List (Nat × α)) (k : Nat) (v : α) : tget d (tput (tdel t k) k v) k = v := by
  induction t with
  | nil => simp [tdel, tput, tget]
  | cons x t ih =>
    obtain ⟨j, w⟩ := x
    by_cases h : j = k
    · simp [tdel, h, ih]
    · by_cases h' : k < j
      · simp [tdel, h, tput, h', tget]
      · simp [tdel, h, tput, h', tget, ih]

/-- A read after a write of the same key gives the value written. -/
@[simp] theorem tget_tset_same [DecidableEq α] (t : List (Nat × α)) (k : Nat) (v : α) : tget d (tset d t k v) k = v := by
  by_cases h : v = d k
  · simp [tset, h, tget_tdel_same]
  · simp [tset, h, tget_tput_same]

/-- A write leaves every other key alone. -/
theorem tget_tset_ne [DecidableEq α] (t : List (Nat × α)) {k i : Nat} (v : α) (hk : i ≠ k) : tget d (tset d t k v) i = tget d t i := by
  by_cases h : v = d k
  · simp [tset, h, tget_tdel_ne d t hk]
  · simp [tset, h, tget_tput_ne d _ v hk, tget_tdel_ne d t hk]

theorem twfFrom_cons [DecidableEq α] {lo : Option Nat} {j : Nat} {v : α} {t : List (Nat × α)} :
    twfFrom d lo ((j, v) :: t) = true ↔ (∀ l ∈ lo, l < j) ∧ v ≠ d j ∧ twfFrom d (some j) t = true := by
  cases lo <;> simp [twfFrom, and_assoc]

theorem twfFrom_mono [DecidableEq α] {lo lo' : Option Nat} {t : List (Nat × α)} (h : twfFrom d lo t = true)
    (hl : ∀ l' ∈ lo', ∃ l ∈ lo, l' ≤ l) : twfFrom d lo' t = true := by
  cases t with
  | nil => rfl
  | cons x t =>
    obtain ⟨j, v⟩ := x
    rw [twfFrom_cons] at h ⊢
    refine ⟨fun l' hl' => ?_, h.2⟩
    obtain ⟨l, hm, hle⟩ := hl l' hl'
    exact Nat.lt_of_le_of_lt hle (h.1 l hm)

theorem twfFrom_tdel [DecidableEq α] {t : List (Nat × α)} (k : Nat) : ∀ {lo : Option Nat}, twfFrom d lo t = true →
    twfFrom d lo (tdel t k) = true := by
  induction t with
  | nil => intro lo h; exact h
  | cons x t ih =>
    obtain ⟨j, v⟩ := x
    intro lo h
    rw [twfFrom_cons] at h
    by_cases hj : j = k
    · simp only [tdel, hj, if_true]
      refine twfFrom_mono d (ih h.2.2) fun l hl => ⟨j, rfl, Nat.le_of_lt (h.1 l hl)⟩
    · simp only [tdel, hj, if_false]
      rw [twfFrom_cons]
      exact ⟨h.1, h.2.1, ih h.2.2⟩

theorem twfFrom_tput [DecidableEq α] {t : List (Nat × α)} (k : Nat) (v : α) (hv : v ≠ d k) : ∀ {lo : Option Nat}, twfFrom d lo t = true →
    (∀ l ∈ lo, l < k) → (∀ x ∈ t, x.1 ≠ k) → twfFrom d lo (tput t k v) = true := by
  induction t with
  | nil => intro lo _ hlo _; rw [tput, twfFrom_cons]; exact ⟨hlo, hv, rfl⟩
  | cons x t ih =>
    obtain ⟨j, w⟩ := x
    intro lo h hlo hk
    rw [twfFrom_cons] at h
    by_cases hj : k < j
    · simp only [tput, hj, if_true]
      rw [twfFrom_cons, twfFrom_cons]
      exact ⟨hlo, hv, fun l hl => by cases hl; exact hj, h.2⟩
    · simp only [tput, hj, if_false]
      rw [twfFrom_cons]
      have hne : j ≠ k := hk (j, w) (by simp)
      refine ⟨h.1, h.2.1, ih h.2.2 (fun l hl => ?_) fun x hx => hk x (by simp [hx])⟩
      cases hl; omega

theorem tdel_no_key (t : List (Nat × α)) (k : Nat) : ∀ x ∈ tdel t k, x.1 ≠ k := by
  induction t with
  | nil => simp [tdel]
  | cons y t ih =>
    obtain ⟨j, v⟩ := y
    by_cases h : j = k
    · simpa [tdel, h] using ih
    · intro x hx
      simp only [tdel, h, if_false, List.mem_cons] at hx
      rcases hx with rfl | hx
      · exact h
      · exact ih x hx

/-- A write keeps the canonical form. -/
theorem twf_tset [DecidableEq α] {t : List (Nat × α)} (h : twf d t = true) (k : Nat) (v : α) : twf d (tset d t k v) = true := by
  unfold tset
  split
  · exact twfFrom_tdel d k h
  · rename_i hv
    exact twfFrom_tput d k v hv (twfFrom_tdel d k h) (by simp) (tdel_no_key t k)

end Sys2Proof.Machine
end

