-- ==== Sys2Proof/Laws/State.lean ====
section
/-! SUPPORT. What each update of the state leaves alone, and what it is read back as. -/

namespace Sys2Proof.Machine

@[simp] theorem setReg_frame (s : Hub) (a v : Nat) : (s.setReg a v).frame = s.frame := rfl
@[simp] theorem setReg_xo (s : Hub) (a v : Nat) : (s.setReg a v).xo = s.xo := rfl
@[simp] theorem setReg_act (s : Hub) (a v : Nat) : (s.setReg a v).act = s.act := rfl
@[simp] theorem setReg_mem (s : Hub) (a v : Nat) : (s.setReg a v).mem = s.mem := rfl
@[simp] theorem setReg_ecc (s : Hub) (a v : Nat) : (s.setReg a v).ecc = s.ecc := rfl
@[simp] theorem setReg_free (s : Hub) (a v : Nat) : (s.setReg a v).free = s.free := rfl
@[simp] theorem setReg_sid (s : Hub) (a v : Nat) : (s.setReg a v).sid = s.sid := rfl
@[simp] theorem setReg_held (s : Hub) (a v : Nat) : (s.setReg a v).held = s.held := rfl
@[simp] theorem setReg_mbx (s : Hub) (a v : Nat) : (s.setReg a v).mbx = s.mbx := rfl
@[simp] theorem setReg_tt (s : Hub) (a v : Nat) : (s.setReg a v).tt = s.tt := rfl
@[simp] theorem setReg_hist (s : Hub) (a v : Nat) : (s.setReg a v).hist = s.hist := rfl
@[simp] theorem setReg_chans (s : Hub) (a v : Nat) : (s.setReg a v).chans = s.chans := rfl
@[simp] theorem setReg_quads (s : Hub) (a v : Nat) : (s.setReg a v).quads = s.quads := rfl
@[simp] theorem setReg_asy (s : Hub) (a v : Nat) : (s.setReg a v).asy = s.asy := rfl
@[simp] theorem setReg_calQ (s : Hub) (a v : Nat) : (s.setReg a v).calQ = s.calQ := rfl
@[simp] theorem setReg_flts (s : Hub) (a v : Nat) : (s.setReg a v).flts = s.flts := rfl
@[simp] theorem setReg_filtFrom (s : Hub) (a v : Nat) : (s.setReg a v).filtFrom = s.filtFrom := rfl
@[simp] theorem setReg_engines (s : Hub) (a v : Nat) : (s.setReg a v).engines = s.engines := rfl
@[simp] theorem setReg_staging (s : Hub) (a v : Nat) : (s.setReg a v).staging = s.staging := rfl
@[simp] theorem setReg_shadow (s : Hub) (a v : Nat) : (s.setReg a v).shadow = s.shadow := rfl
@[simp] theorem setReg_jct (s : Hub) (a v : Nat) : (s.setReg a v).jct = s.jct := rfl
@[simp] theorem setReg_tx6 (s : Hub) (a v : Nat) : (s.setReg a v).tx6 = s.tx6 := rfl
@[simp] theorem setReg_recs (s : Hub) (a v : Nat) : (s.setReg a v).recs = s.recs := rfl
@[simp] theorem setReg_tm (s : Hub) (a v : Nat) : (s.setReg a v).tm = s.tm := rfl
@[simp] theorem setReg_codecs (s : Hub) (a v : Nat) : (s.setReg a v).codecs = s.codecs := rfl
@[simp] theorem setReg_flushes (s : Hub) (a v : Nat) : (s.setReg a v).flushes = s.flushes := rfl
@[simp] theorem setReg_lanes (s : Hub) (a v : Nat) : (s.setReg a v).lanes = s.lanes := rfl
@[simp] theorem setReg_msh (s : Hub) (a v : Nat) : (s.setReg a v).msh = s.msh := rfl
@[simp] theorem setReg_tx7 (s : Hub) (a v : Nat) : (s.setReg a v).tx7 = s.tx7 := rfl
@[simp] theorem setReg_pr (s : Hub) (a v : Nat) : (s.setReg a v).pr = s.pr := rfl
@[simp] theorem setReg_mon (s : Hub) (a v : Nat) : (s.setReg a v).mon = s.mon := rfl
@[simp] theorem setReg_led (s : Hub) (a v : Nat) : (s.setReg a v).led = s.led := rfl
@[simp] theorem setReg_mc (s : Hub) (a v : Nat) : (s.setReg a v).mc = s.mc := rfl
@[simp] theorem setReg_pw (s : Hub) (a v : Nat) : (s.setReg a v).pw = s.pw := rfl

@[simp] theorem setFld_frame (s : Hub) (a hi lo v : Nat) : (s.setFld a hi lo v).frame = s.frame := rfl
@[simp] theorem setFld_xo (s : Hub) (a hi lo v : Nat) : (s.setFld a hi lo v).xo = s.xo := rfl
@[simp] theorem setFld_act (s : Hub) (a hi lo v : Nat) : (s.setFld a hi lo v).act = s.act := rfl
@[simp] theorem setFld_mem (s : Hub) (a hi lo v : Nat) : (s.setFld a hi lo v).mem = s.mem := rfl
@[simp] theorem setFld_ecc (s : Hub) (a hi lo v : Nat) : (s.setFld a hi lo v).ecc = s.ecc := rfl
@[simp] theorem setFld_free (s : Hub) (a hi lo v : Nat) : (s.setFld a hi lo v).free = s.free := rfl
@[simp] theorem setFld_sid (s : Hub) (a hi lo v : Nat) : (s.setFld a hi lo v).sid = s.sid := rfl
@[simp] theorem setFld_held (s : Hub) (a hi lo v : Nat) : (s.setFld a hi lo v).held = s.held := rfl
@[simp] theorem setFld_mbx (s : Hub) (a hi lo v : Nat) : (s.setFld a hi lo v).mbx = s.mbx := rfl
@[simp] theorem setFld_tt (s : Hub) (a hi lo v : Nat) : (s.setFld a hi lo v).tt = s.tt := rfl
@[simp] theorem setFld_hist (s : Hub) (a hi lo v : Nat) : (s.setFld a hi lo v).hist = s.hist := rfl
@[simp] theorem setFld_chans (s : Hub) (a hi lo v : Nat) : (s.setFld a hi lo v).chans = s.chans := rfl
@[simp] theorem setFld_quads (s : Hub) (a hi lo v : Nat) : (s.setFld a hi lo v).quads = s.quads := rfl
@[simp] theorem setFld_asy (s : Hub) (a hi lo v : Nat) : (s.setFld a hi lo v).asy = s.asy := rfl
@[simp] theorem setFld_calQ (s : Hub) (a hi lo v : Nat) : (s.setFld a hi lo v).calQ = s.calQ := rfl
@[simp] theorem setFld_flts (s : Hub) (a hi lo v : Nat) : (s.setFld a hi lo v).flts = s.flts := rfl
@[simp] theorem setFld_filtFrom (s : Hub) (a hi lo v : Nat) : (s.setFld a hi lo v).filtFrom = s.filtFrom := rfl
@[simp] theorem setFld_engines (s : Hub) (a hi lo v : Nat) : (s.setFld a hi lo v).engines = s.engines := rfl
@[simp] theorem setFld_staging (s : Hub) (a hi lo v : Nat) : (s.setFld a hi lo v).staging = s.staging := rfl
@[simp] theorem setFld_shadow (s : Hub) (a hi lo v : Nat) : (s.setFld a hi lo v).shadow = s.shadow := rfl
@[simp] theorem setFld_jct (s : Hub) (a hi lo v : Nat) : (s.setFld a hi lo v).jct = s.jct := rfl
@[simp] theorem setFld_tx6 (s : Hub) (a hi lo v : Nat) : (s.setFld a hi lo v).tx6 = s.tx6 := rfl
@[simp] theorem setFld_recs (s : Hub) (a hi lo v : Nat) : (s.setFld a hi lo v).recs = s.recs := rfl
@[simp] theorem setFld_tm (s : Hub) (a hi lo v : Nat) : (s.setFld a hi lo v).tm = s.tm := rfl
@[simp] theorem setFld_codecs (s : Hub) (a hi lo v : Nat) : (s.setFld a hi lo v).codecs = s.codecs := rfl
@[simp] theorem setFld_flushes (s : Hub) (a hi lo v : Nat) : (s.setFld a hi lo v).flushes = s.flushes := rfl
@[simp] theorem setFld_lanes (s : Hub) (a hi lo v : Nat) : (s.setFld a hi lo v).lanes = s.lanes := rfl
@[simp] theorem setFld_msh (s : Hub) (a hi lo v : Nat) : (s.setFld a hi lo v).msh = s.msh := rfl
@[simp] theorem setFld_tx7 (s : Hub) (a hi lo v : Nat) : (s.setFld a hi lo v).tx7 = s.tx7 := rfl
@[simp] theorem setFld_pr (s : Hub) (a hi lo v : Nat) : (s.setFld a hi lo v).pr = s.pr := rfl
@[simp] theorem setFld_mon (s : Hub) (a hi lo v : Nat) : (s.setFld a hi lo v).mon = s.mon := rfl
@[simp] theorem setFld_led (s : Hub) (a hi lo v : Nat) : (s.setFld a hi lo v).led = s.led := rfl
@[simp] theorem setFld_mc (s : Hub) (a hi lo v : Nat) : (s.setFld a hi lo v).mc = s.mc := rfl
@[simp] theorem setFld_pw (s : Hub) (a hi lo v : Nat) : (s.setFld a hi lo v).pw = s.pw := rfl

@[simp] theorem setBit_frame (s : Hub) (a i : Nat) (b : Bool) : (s.setBit a i b).frame = s.frame := rfl
@[simp] theorem setBit_xo (s : Hub) (a i : Nat) (b : Bool) : (s.setBit a i b).xo = s.xo := rfl
@[simp] theorem setBit_act (s : Hub) (a i : Nat) (b : Bool) : (s.setBit a i b).act = s.act := rfl
@[simp] theorem setBit_mem (s : Hub) (a i : Nat) (b : Bool) : (s.setBit a i b).mem = s.mem := rfl
@[simp] theorem setBit_ecc (s : Hub) (a i : Nat) (b : Bool) : (s.setBit a i b).ecc = s.ecc := rfl
@[simp] theorem setBit_free (s : Hub) (a i : Nat) (b : Bool) : (s.setBit a i b).free = s.free := rfl
@[simp] theorem setBit_sid (s : Hub) (a i : Nat) (b : Bool) : (s.setBit a i b).sid = s.sid := rfl
@[simp] theorem setBit_held (s : Hub) (a i : Nat) (b : Bool) : (s.setBit a i b).held = s.held := rfl
@[simp] theorem setBit_mbx (s : Hub) (a i : Nat) (b : Bool) : (s.setBit a i b).mbx = s.mbx := rfl
@[simp] theorem setBit_tt (s : Hub) (a i : Nat) (b : Bool) : (s.setBit a i b).tt = s.tt := rfl
@[simp] theorem setBit_hist (s : Hub) (a i : Nat) (b : Bool) : (s.setBit a i b).hist = s.hist := rfl
@[simp] theorem setBit_chans (s : Hub) (a i : Nat) (b : Bool) : (s.setBit a i b).chans = s.chans := rfl
@[simp] theorem setBit_quads (s : Hub) (a i : Nat) (b : Bool) : (s.setBit a i b).quads = s.quads := rfl
@[simp] theorem setBit_asy (s : Hub) (a i : Nat) (b : Bool) : (s.setBit a i b).asy = s.asy := rfl
@[simp] theorem setBit_calQ (s : Hub) (a i : Nat) (b : Bool) : (s.setBit a i b).calQ = s.calQ := rfl
@[simp] theorem setBit_flts (s : Hub) (a i : Nat) (b : Bool) : (s.setBit a i b).flts = s.flts := rfl
@[simp] theorem setBit_filtFrom (s : Hub) (a i : Nat) (b : Bool) : (s.setBit a i b).filtFrom = s.filtFrom := rfl
@[simp] theorem setBit_engines (s : Hub) (a i : Nat) (b : Bool) : (s.setBit a i b).engines = s.engines := rfl
@[simp] theorem setBit_staging (s : Hub) (a i : Nat) (b : Bool) : (s.setBit a i b).staging = s.staging := rfl
@[simp] theorem setBit_shadow (s : Hub) (a i : Nat) (b : Bool) : (s.setBit a i b).shadow = s.shadow := rfl
@[simp] theorem setBit_jct (s : Hub) (a i : Nat) (b : Bool) : (s.setBit a i b).jct = s.jct := rfl
@[simp] theorem setBit_tx6 (s : Hub) (a i : Nat) (b : Bool) : (s.setBit a i b).tx6 = s.tx6 := rfl
@[simp] theorem setBit_recs (s : Hub) (a i : Nat) (b : Bool) : (s.setBit a i b).recs = s.recs := rfl
@[simp] theorem setBit_tm (s : Hub) (a i : Nat) (b : Bool) : (s.setBit a i b).tm = s.tm := rfl
@[simp] theorem setBit_codecs (s : Hub) (a i : Nat) (b : Bool) : (s.setBit a i b).codecs = s.codecs := rfl
@[simp] theorem setBit_flushes (s : Hub) (a i : Nat) (b : Bool) : (s.setBit a i b).flushes = s.flushes := rfl
@[simp] theorem setBit_lanes (s : Hub) (a i : Nat) (b : Bool) : (s.setBit a i b).lanes = s.lanes := rfl
@[simp] theorem setBit_msh (s : Hub) (a i : Nat) (b : Bool) : (s.setBit a i b).msh = s.msh := rfl
@[simp] theorem setBit_tx7 (s : Hub) (a i : Nat) (b : Bool) : (s.setBit a i b).tx7 = s.tx7 := rfl
@[simp] theorem setBit_pr (s : Hub) (a i : Nat) (b : Bool) : (s.setBit a i b).pr = s.pr := rfl
@[simp] theorem setBit_mon (s : Hub) (a i : Nat) (b : Bool) : (s.setBit a i b).mon = s.mon := rfl
@[simp] theorem setBit_led (s : Hub) (a i : Nat) (b : Bool) : (s.setBit a i b).led = s.led := rfl
@[simp] theorem setBit_mc (s : Hub) (a i : Nat) (b : Bool) : (s.setBit a i b).mc = s.mc := rfl
@[simp] theorem setBit_pw (s : Hub) (a i : Nat) (b : Bool) : (s.setBit a i b).pw = s.pw := rfl

@[simp] theorem setShadow_frame (s : Hub) (a v : Nat) : (s.setShadow a v).frame = s.frame := rfl
@[simp] theorem setShadow_xo (s : Hub) (a v : Nat) : (s.setShadow a v).xo = s.xo := rfl
@[simp] theorem setShadow_regs (s : Hub) (a v : Nat) : (s.setShadow a v).regs = s.regs := rfl
@[simp] theorem setShadow_act (s : Hub) (a v : Nat) : (s.setShadow a v).act = s.act := rfl
@[simp] theorem setShadow_mem (s : Hub) (a v : Nat) : (s.setShadow a v).mem = s.mem := rfl
@[simp] theorem setShadow_ecc (s : Hub) (a v : Nat) : (s.setShadow a v).ecc = s.ecc := rfl
@[simp] theorem setShadow_free (s : Hub) (a v : Nat) : (s.setShadow a v).free = s.free := rfl
@[simp] theorem setShadow_sid (s : Hub) (a v : Nat) : (s.setShadow a v).sid = s.sid := rfl
@[simp] theorem setShadow_held (s : Hub) (a v : Nat) : (s.setShadow a v).held = s.held := rfl
@[simp] theorem setShadow_mbx (s : Hub) (a v : Nat) : (s.setShadow a v).mbx = s.mbx := rfl
@[simp] theorem setShadow_tt (s : Hub) (a v : Nat) : (s.setShadow a v).tt = s.tt := rfl
@[simp] theorem setShadow_hist (s : Hub) (a v : Nat) : (s.setShadow a v).hist = s.hist := rfl
@[simp] theorem setShadow_chans (s : Hub) (a v : Nat) : (s.setShadow a v).chans = s.chans := rfl
@[simp] theorem setShadow_quads (s : Hub) (a v : Nat) : (s.setShadow a v).quads = s.quads := rfl
@[simp] theorem setShadow_asy (s : Hub) (a v : Nat) : (s.setShadow a v).asy = s.asy := rfl
@[simp] theorem setShadow_calQ (s : Hub) (a v : Nat) : (s.setShadow a v).calQ = s.calQ := rfl
@[simp] theorem setShadow_flts (s : Hub) (a v : Nat) : (s.setShadow a v).flts = s.flts := rfl
@[simp] theorem setShadow_filtFrom (s : Hub) (a v : Nat) : (s.setShadow a v).filtFrom = s.filtFrom := rfl
@[simp] theorem setShadow_engines (s : Hub) (a v : Nat) : (s.setShadow a v).engines = s.engines := rfl
@[simp] theorem setShadow_staging (s : Hub) (a v : Nat) : (s.setShadow a v).staging = s.staging := rfl
@[simp] theorem setShadow_jct (s : Hub) (a v : Nat) : (s.setShadow a v).jct = s.jct := rfl
@[simp] theorem setShadow_tx6 (s : Hub) (a v : Nat) : (s.setShadow a v).tx6 = s.tx6 := rfl
@[simp] theorem setShadow_recs (s : Hub) (a v : Nat) : (s.setShadow a v).recs = s.recs := rfl
@[simp] theorem setShadow_tm (s : Hub) (a v : Nat) : (s.setShadow a v).tm = s.tm := rfl
@[simp] theorem setShadow_codecs (s : Hub) (a v : Nat) : (s.setShadow a v).codecs = s.codecs := rfl
@[simp] theorem setShadow_flushes (s : Hub) (a v : Nat) : (s.setShadow a v).flushes = s.flushes := rfl
@[simp] theorem setShadow_lanes (s : Hub) (a v : Nat) : (s.setShadow a v).lanes = s.lanes := rfl
@[simp] theorem setShadow_msh (s : Hub) (a v : Nat) : (s.setShadow a v).msh = s.msh := rfl
@[simp] theorem setShadow_tx7 (s : Hub) (a v : Nat) : (s.setShadow a v).tx7 = s.tx7 := rfl
@[simp] theorem setShadow_pr (s : Hub) (a v : Nat) : (s.setShadow a v).pr = s.pr := rfl
@[simp] theorem setShadow_mon (s : Hub) (a v : Nat) : (s.setShadow a v).mon = s.mon := rfl
@[simp] theorem setShadow_led (s : Hub) (a v : Nat) : (s.setShadow a v).led = s.led := rfl
@[simp] theorem setShadow_mc (s : Hub) (a v : Nat) : (s.setShadow a v).mc = s.mc := rfl
@[simp] theorem setShadow_pw (s : Hub) (a v : Nat) : (s.setShadow a v).pw = s.pw := rfl

@[simp] theorem setChan_frame (s : Hub) (n : Nat) (c : Chan) : (s.setChan n c).frame = s.frame := rfl
@[simp] theorem setChan_xo (s : Hub) (n : Nat) (c : Chan) : (s.setChan n c).xo = s.xo := rfl
@[simp] theorem setChan_regs (s : Hub) (n : Nat) (c : Chan) : (s.setChan n c).regs = s.regs := rfl
@[simp] theorem setChan_act (s : Hub) (n : Nat) (c : Chan) : (s.setChan n c).act = s.act := rfl
@[simp] theorem setChan_mem (s : Hub) (n : Nat) (c : Chan) : (s.setChan n c).mem = s.mem := rfl
@[simp] theorem setChan_ecc (s : Hub) (n : Nat) (c : Chan) : (s.setChan n c).ecc = s.ecc := rfl
@[simp] theorem setChan_free (s : Hub) (n : Nat) (c : Chan) : (s.setChan n c).free = s.free := rfl
@[simp] theorem setChan_sid (s : Hub) (n : Nat) (c : Chan) : (s.setChan n c).sid = s.sid := rfl
@[simp] theorem setChan_held (s : Hub) (n : Nat) (c : Chan) : (s.setChan n c).held = s.held := rfl
@[simp] theorem setChan_mbx (s : Hub) (n : Nat) (c : Chan) : (s.setChan n c).mbx = s.mbx := rfl
@[simp] theorem setChan_tt (s : Hub) (n : Nat) (c : Chan) : (s.setChan n c).tt = s.tt := rfl
@[simp] theorem setChan_hist (s : Hub) (n : Nat) (c : Chan) : (s.setChan n c).hist = s.hist := rfl
@[simp] theorem setChan_quads (s : Hub) (n : Nat) (c : Chan) : (s.setChan n c).quads = s.quads := rfl
@[simp] theorem setChan_asy (s : Hub) (n : Nat) (c : Chan) : (s.setChan n c).asy = s.asy := rfl
@[simp] theorem setChan_calQ (s : Hub) (n : Nat) (c : Chan) : (s.setChan n c).calQ = s.calQ := rfl
@[simp] theorem setChan_flts (s : Hub) (n : Nat) (c : Chan) : (s.setChan n c).flts = s.flts := rfl
@[simp] theorem setChan_filtFrom (s : Hub) (n : Nat) (c : Chan) : (s.setChan n c).filtFrom = s.filtFrom := rfl
@[simp] theorem setChan_engines (s : Hub) (n : Nat) (c : Chan) : (s.setChan n c).engines = s.engines := rfl
@[simp] theorem setChan_staging (s : Hub) (n : Nat) (c : Chan) : (s.setChan n c).staging = s.staging := rfl
@[simp] theorem setChan_shadow (s : Hub) (n : Nat) (c : Chan) : (s.setChan n c).shadow = s.shadow := rfl
@[simp] theorem setChan_jct (s : Hub) (n : Nat) (c : Chan) : (s.setChan n c).jct = s.jct := rfl
@[simp] theorem setChan_tx6 (s : Hub) (n : Nat) (c : Chan) : (s.setChan n c).tx6 = s.tx6 := rfl
@[simp] theorem setChan_recs (s : Hub) (n : Nat) (c : Chan) : (s.setChan n c).recs = s.recs := rfl
@[simp] theorem setChan_tm (s : Hub) (n : Nat) (c : Chan) : (s.setChan n c).tm = s.tm := rfl
@[simp] theorem setChan_codecs (s : Hub) (n : Nat) (c : Chan) : (s.setChan n c).codecs = s.codecs := rfl
@[simp] theorem setChan_flushes (s : Hub) (n : Nat) (c : Chan) : (s.setChan n c).flushes = s.flushes := rfl
@[simp] theorem setChan_lanes (s : Hub) (n : Nat) (c : Chan) : (s.setChan n c).lanes = s.lanes := rfl
@[simp] theorem setChan_msh (s : Hub) (n : Nat) (c : Chan) : (s.setChan n c).msh = s.msh := rfl
@[simp] theorem setChan_tx7 (s : Hub) (n : Nat) (c : Chan) : (s.setChan n c).tx7 = s.tx7 := rfl
@[simp] theorem setChan_pr (s : Hub) (n : Nat) (c : Chan) : (s.setChan n c).pr = s.pr := rfl
@[simp] theorem setChan_mon (s : Hub) (n : Nat) (c : Chan) : (s.setChan n c).mon = s.mon := rfl
@[simp] theorem setChan_led (s : Hub) (n : Nat) (c : Chan) : (s.setChan n c).led = s.led := rfl
@[simp] theorem setChan_mc (s : Hub) (n : Nat) (c : Chan) : (s.setChan n c).mc = s.mc := rfl
@[simp] theorem setChan_pw (s : Hub) (n : Nat) (c : Chan) : (s.setChan n c).pw = s.pw := rfl

@[simp] theorem setQuad_frame (s : Hub) (q : Nat) (x : Quad) : (s.setQuad q x).frame = s.frame := rfl
@[simp] theorem setQuad_xo (s : Hub) (q : Nat) (x : Quad) : (s.setQuad q x).xo = s.xo := rfl
@[simp] theorem setQuad_regs (s : Hub) (q : Nat) (x : Quad) : (s.setQuad q x).regs = s.regs := rfl
@[simp] theorem setQuad_act (s : Hub) (q : Nat) (x : Quad) : (s.setQuad q x).act = s.act := rfl
@[simp] theorem setQuad_mem (s : Hub) (q : Nat) (x : Quad) : (s.setQuad q x).mem = s.mem := rfl
@[simp] theorem setQuad_ecc (s : Hub) (q : Nat) (x : Quad) : (s.setQuad q x).ecc = s.ecc := rfl
@[simp] theorem setQuad_free (s : Hub) (q : Nat) (x : Quad) : (s.setQuad q x).free = s.free := rfl
@[simp] theorem setQuad_sid (s : Hub) (q : Nat) (x : Quad) : (s.setQuad q x).sid = s.sid := rfl
@[simp] theorem setQuad_held (s : Hub) (q : Nat) (x : Quad) : (s.setQuad q x).held = s.held := rfl
@[simp] theorem setQuad_mbx (s : Hub) (q : Nat) (x : Quad) : (s.setQuad q x).mbx = s.mbx := rfl
@[simp] theorem setQuad_tt (s : Hub) (q : Nat) (x : Quad) : (s.setQuad q x).tt = s.tt := rfl
@[simp] theorem setQuad_hist (s : Hub) (q : Nat) (x : Quad) : (s.setQuad q x).hist = s.hist := rfl
@[simp] theorem setQuad_chans (s : Hub) (q : Nat) (x : Quad) : (s.setQuad q x).chans = s.chans := rfl
@[simp] theorem setQuad_asy (s : Hub) (q : Nat) (x : Quad) : (s.setQuad q x).asy = s.asy := rfl
@[simp] theorem setQuad_calQ (s : Hub) (q : Nat) (x : Quad) : (s.setQuad q x).calQ = s.calQ := rfl
@[simp] theorem setQuad_flts (s : Hub) (q : Nat) (x : Quad) : (s.setQuad q x).flts = s.flts := rfl
@[simp] theorem setQuad_filtFrom (s : Hub) (q : Nat) (x : Quad) : (s.setQuad q x).filtFrom = s.filtFrom := rfl
@[simp] theorem setQuad_engines (s : Hub) (q : Nat) (x : Quad) : (s.setQuad q x).engines = s.engines := rfl
@[simp] theorem setQuad_staging (s : Hub) (q : Nat) (x : Quad) : (s.setQuad q x).staging = s.staging := rfl
@[simp] theorem setQuad_shadow (s : Hub) (q : Nat) (x : Quad) : (s.setQuad q x).shadow = s.shadow := rfl
@[simp] theorem setQuad_jct (s : Hub) (q : Nat) (x : Quad) : (s.setQuad q x).jct = s.jct := rfl
@[simp] theorem setQuad_tx6 (s : Hub) (q : Nat) (x : Quad) : (s.setQuad q x).tx6 = s.tx6 := rfl
@[simp] theorem setQuad_recs (s : Hub) (q : Nat) (x : Quad) : (s.setQuad q x).recs = s.recs := rfl
@[simp] theorem setQuad_tm (s : Hub) (q : Nat) (x : Quad) : (s.setQuad q x).tm = s.tm := rfl
@[simp] theorem setQuad_codecs (s : Hub) (q : Nat) (x : Quad) : (s.setQuad q x).codecs = s.codecs := rfl
@[simp] theorem setQuad_flushes (s : Hub) (q : Nat) (x : Quad) : (s.setQuad q x).flushes = s.flushes := rfl
@[simp] theorem setQuad_lanes (s : Hub) (q : Nat) (x : Quad) : (s.setQuad q x).lanes = s.lanes := rfl
@[simp] theorem setQuad_msh (s : Hub) (q : Nat) (x : Quad) : (s.setQuad q x).msh = s.msh := rfl
@[simp] theorem setQuad_tx7 (s : Hub) (q : Nat) (x : Quad) : (s.setQuad q x).tx7 = s.tx7 := rfl
@[simp] theorem setQuad_pr (s : Hub) (q : Nat) (x : Quad) : (s.setQuad q x).pr = s.pr := rfl
@[simp] theorem setQuad_mon (s : Hub) (q : Nat) (x : Quad) : (s.setQuad q x).mon = s.mon := rfl
@[simp] theorem setQuad_led (s : Hub) (q : Nat) (x : Quad) : (s.setQuad q x).led = s.led := rfl
@[simp] theorem setQuad_mc (s : Hub) (q : Nat) (x : Quad) : (s.setQuad q x).mc = s.mc := rfl
@[simp] theorem setQuad_pw (s : Hub) (q : Nat) (x : Quad) : (s.setQuad q x).pw = s.pw := rfl

@[simp] theorem setCalq_frame (s : Hub) (q : Nat) (x : CalQuad) : (s.setCalq q x).frame = s.frame := rfl
@[simp] theorem setCalq_xo (s : Hub) (q : Nat) (x : CalQuad) : (s.setCalq q x).xo = s.xo := rfl
@[simp] theorem setCalq_regs (s : Hub) (q : Nat) (x : CalQuad) : (s.setCalq q x).regs = s.regs := rfl
@[simp] theorem setCalq_act (s : Hub) (q : Nat) (x : CalQuad) : (s.setCalq q x).act = s.act := rfl
@[simp] theorem setCalq_mem (s : Hub) (q : Nat) (x : CalQuad) : (s.setCalq q x).mem = s.mem := rfl
@[simp] theorem setCalq_ecc (s : Hub) (q : Nat) (x : CalQuad) : (s.setCalq q x).ecc = s.ecc := rfl
@[simp] theorem setCalq_free (s : Hub) (q : Nat) (x : CalQuad) : (s.setCalq q x).free = s.free := rfl
@[simp] theorem setCalq_sid (s : Hub) (q : Nat) (x : CalQuad) : (s.setCalq q x).sid = s.sid := rfl
@[simp] theorem setCalq_held (s : Hub) (q : Nat) (x : CalQuad) : (s.setCalq q x).held = s.held := rfl
@[simp] theorem setCalq_mbx (s : Hub) (q : Nat) (x : CalQuad) : (s.setCalq q x).mbx = s.mbx := rfl
@[simp] theorem setCalq_tt (s : Hub) (q : Nat) (x : CalQuad) : (s.setCalq q x).tt = s.tt := rfl
@[simp] theorem setCalq_hist (s : Hub) (q : Nat) (x : CalQuad) : (s.setCalq q x).hist = s.hist := rfl
@[simp] theorem setCalq_chans (s : Hub) (q : Nat) (x : CalQuad) : (s.setCalq q x).chans = s.chans := rfl
@[simp] theorem setCalq_quads (s : Hub) (q : Nat) (x : CalQuad) : (s.setCalq q x).quads = s.quads := rfl
@[simp] theorem setCalq_asy (s : Hub) (q : Nat) (x : CalQuad) : (s.setCalq q x).asy = s.asy := rfl
@[simp] theorem setCalq_flts (s : Hub) (q : Nat) (x : CalQuad) : (s.setCalq q x).flts = s.flts := rfl
@[simp] theorem setCalq_filtFrom (s : Hub) (q : Nat) (x : CalQuad) : (s.setCalq q x).filtFrom = s.filtFrom := rfl
@[simp] theorem setCalq_engines (s : Hub) (q : Nat) (x : CalQuad) : (s.setCalq q x).engines = s.engines := rfl
@[simp] theorem setCalq_staging (s : Hub) (q : Nat) (x : CalQuad) : (s.setCalq q x).staging = s.staging := rfl
@[simp] theorem setCalq_shadow (s : Hub) (q : Nat) (x : CalQuad) : (s.setCalq q x).shadow = s.shadow := rfl
@[simp] theorem setCalq_jct (s : Hub) (q : Nat) (x : CalQuad) : (s.setCalq q x).jct = s.jct := rfl
@[simp] theorem setCalq_tx6 (s : Hub) (q : Nat) (x : CalQuad) : (s.setCalq q x).tx6 = s.tx6 := rfl
@[simp] theorem setCalq_recs (s : Hub) (q : Nat) (x : CalQuad) : (s.setCalq q x).recs = s.recs := rfl
@[simp] theorem setCalq_tm (s : Hub) (q : Nat) (x : CalQuad) : (s.setCalq q x).tm = s.tm := rfl
@[simp] theorem setCalq_codecs (s : Hub) (q : Nat) (x : CalQuad) : (s.setCalq q x).codecs = s.codecs := rfl
@[simp] theorem setCalq_flushes (s : Hub) (q : Nat) (x : CalQuad) : (s.setCalq q x).flushes = s.flushes := rfl
@[simp] theorem setCalq_lanes (s : Hub) (q : Nat) (x : CalQuad) : (s.setCalq q x).lanes = s.lanes := rfl
@[simp] theorem setCalq_msh (s : Hub) (q : Nat) (x : CalQuad) : (s.setCalq q x).msh = s.msh := rfl
@[simp] theorem setCalq_tx7 (s : Hub) (q : Nat) (x : CalQuad) : (s.setCalq q x).tx7 = s.tx7 := rfl
@[simp] theorem setCalq_pr (s : Hub) (q : Nat) (x : CalQuad) : (s.setCalq q x).pr = s.pr := rfl
@[simp] theorem setCalq_mon (s : Hub) (q : Nat) (x : CalQuad) : (s.setCalq q x).mon = s.mon := rfl
@[simp] theorem setCalq_led (s : Hub) (q : Nat) (x : CalQuad) : (s.setCalq q x).led = s.led := rfl
@[simp] theorem setCalq_mc (s : Hub) (q : Nat) (x : CalQuad) : (s.setCalq q x).mc = s.mc := rfl
@[simp] theorem setCalq_pw (s : Hub) (q : Nat) (x : CalQuad) : (s.setCalq q x).pw = s.pw := rfl

@[simp] theorem setFlt_frame (s : Hub) (g : Nat) (x : Flt) : (s.setFlt g x).frame = s.frame := rfl
@[simp] theorem setFlt_xo (s : Hub) (g : Nat) (x : Flt) : (s.setFlt g x).xo = s.xo := rfl
@[simp] theorem setFlt_regs (s : Hub) (g : Nat) (x : Flt) : (s.setFlt g x).regs = s.regs := rfl
@[simp] theorem setFlt_act (s : Hub) (g : Nat) (x : Flt) : (s.setFlt g x).act = s.act := rfl
@[simp] theorem setFlt_mem (s : Hub) (g : Nat) (x : Flt) : (s.setFlt g x).mem = s.mem := rfl
@[simp] theorem setFlt_ecc (s : Hub) (g : Nat) (x : Flt) : (s.setFlt g x).ecc = s.ecc := rfl
@[simp] theorem setFlt_free (s : Hub) (g : Nat) (x : Flt) : (s.setFlt g x).free = s.free := rfl
@[simp] theorem setFlt_sid (s : Hub) (g : Nat) (x : Flt) : (s.setFlt g x).sid = s.sid := rfl
@[simp] theorem setFlt_held (s : Hub) (g : Nat) (x : Flt) : (s.setFlt g x).held = s.held := rfl
@[simp] theorem setFlt_mbx (s : Hub) (g : Nat) (x : Flt) : (s.setFlt g x).mbx = s.mbx := rfl
@[simp] theorem setFlt_tt (s : Hub) (g : Nat) (x : Flt) : (s.setFlt g x).tt = s.tt := rfl
@[simp] theorem setFlt_hist (s : Hub) (g : Nat) (x : Flt) : (s.setFlt g x).hist = s.hist := rfl
@[simp] theorem setFlt_chans (s : Hub) (g : Nat) (x : Flt) : (s.setFlt g x).chans = s.chans := rfl
@[simp] theorem setFlt_quads (s : Hub) (g : Nat) (x : Flt) : (s.setFlt g x).quads = s.quads := rfl
@[simp] theorem setFlt_asy (s : Hub) (g : Nat) (x : Flt) : (s.setFlt g x).asy = s.asy := rfl
@[simp] theorem setFlt_calQ (s : Hub) (g : Nat) (x : Flt) : (s.setFlt g x).calQ = s.calQ := rfl
@[simp] theorem setFlt_engines (s : Hub) (g : Nat) (x : Flt) : (s.setFlt g x).engines = s.engines := rfl
@[simp] theorem setFlt_staging (s : Hub) (g : Nat) (x : Flt) : (s.setFlt g x).staging = s.staging := rfl
@[simp] theorem setFlt_shadow (s : Hub) (g : Nat) (x : Flt) : (s.setFlt g x).shadow = s.shadow := rfl
@[simp] theorem setFlt_jct (s : Hub) (g : Nat) (x : Flt) : (s.setFlt g x).jct = s.jct := rfl
@[simp] theorem setFlt_tx6 (s : Hub) (g : Nat) (x : Flt) : (s.setFlt g x).tx6 = s.tx6 := rfl
@[simp] theorem setFlt_recs (s : Hub) (g : Nat) (x : Flt) : (s.setFlt g x).recs = s.recs := rfl
@[simp] theorem setFlt_tm (s : Hub) (g : Nat) (x : Flt) : (s.setFlt g x).tm = s.tm := rfl
@[simp] theorem setFlt_codecs (s : Hub) (g : Nat) (x : Flt) : (s.setFlt g x).codecs = s.codecs := rfl
@[simp] theorem setFlt_flushes (s : Hub) (g : Nat) (x : Flt) : (s.setFlt g x).flushes = s.flushes := rfl
@[simp] theorem setFlt_lanes (s : Hub) (g : Nat) (x : Flt) : (s.setFlt g x).lanes = s.lanes := rfl
@[simp] theorem setFlt_msh (s : Hub) (g : Nat) (x : Flt) : (s.setFlt g x).msh = s.msh := rfl
@[simp] theorem setFlt_tx7 (s : Hub) (g : Nat) (x : Flt) : (s.setFlt g x).tx7 = s.tx7 := rfl
@[simp] theorem setFlt_pr (s : Hub) (g : Nat) (x : Flt) : (s.setFlt g x).pr = s.pr := rfl
@[simp] theorem setFlt_mon (s : Hub) (g : Nat) (x : Flt) : (s.setFlt g x).mon = s.mon := rfl
@[simp] theorem setFlt_led (s : Hub) (g : Nat) (x : Flt) : (s.setFlt g x).led = s.led := rfl
@[simp] theorem setFlt_mc (s : Hub) (g : Nat) (x : Flt) : (s.setFlt g x).mc = s.mc := rfl
@[simp] theorem setFlt_pw (s : Hub) (g : Nat) (x : Flt) : (s.setFlt g x).pw = s.pw := rfl

@[simp] theorem setEng_frame (s : Hub) (g : Nat) (x : Engine) : (s.setEng g x).frame = s.frame := rfl
@[simp] theorem setEng_xo (s : Hub) (g : Nat) (x : Engine) : (s.setEng g x).xo = s.xo := rfl
@[simp] theorem setEng_regs (s : Hub) (g : Nat) (x : Engine) : (s.setEng g x).regs = s.regs := rfl
@[simp] theorem setEng_act (s : Hub) (g : Nat) (x : Engine) : (s.setEng g x).act = s.act := rfl
@[simp] theorem setEng_mem (s : Hub) (g : Nat) (x : Engine) : (s.setEng g x).mem = s.mem := rfl
@[simp] theorem setEng_ecc (s : Hub) (g : Nat) (x : Engine) : (s.setEng g x).ecc = s.ecc := rfl
@[simp] theorem setEng_free (s : Hub) (g : Nat) (x : Engine) : (s.setEng g x).free = s.free := rfl
@[simp] theorem setEng_sid (s : Hub) (g : Nat) (x : Engine) : (s.setEng g x).sid = s.sid := rfl
@[simp] theorem setEng_held (s : Hub) (g : Nat) (x : Engine) : (s.setEng g x).held = s.held := rfl
@[simp] theorem setEng_mbx (s : Hub) (g : Nat) (x : Engine) : (s.setEng g x).mbx = s.mbx := rfl
@[simp] theorem setEng_tt (s : Hub) (g : Nat) (x : Engine) : (s.setEng g x).tt = s.tt := rfl
@[simp] theorem setEng_hist (s : Hub) (g : Nat) (x : Engine) : (s.setEng g x).hist = s.hist := rfl
@[simp] theorem setEng_chans (s : Hub) (g : Nat) (x : Engine) : (s.setEng g x).chans = s.chans := rfl
@[simp] theorem setEng_quads (s : Hub) (g : Nat) (x : Engine) : (s.setEng g x).quads = s.quads := rfl
@[simp] theorem setEng_asy (s : Hub) (g : Nat) (x : Engine) : (s.setEng g x).asy = s.asy := rfl
@[simp] theorem setEng_calQ (s : Hub) (g : Nat) (x : Engine) : (s.setEng g x).calQ = s.calQ := rfl
@[simp] theorem setEng_flts (s : Hub) (g : Nat) (x : Engine) : (s.setEng g x).flts = s.flts := rfl
@[simp] theorem setEng_filtFrom (s : Hub) (g : Nat) (x : Engine) : (s.setEng g x).filtFrom = s.filtFrom := rfl
@[simp] theorem setEng_staging (s : Hub) (g : Nat) (x : Engine) : (s.setEng g x).staging = s.staging := rfl
@[simp] theorem setEng_shadow (s : Hub) (g : Nat) (x : Engine) : (s.setEng g x).shadow = s.shadow := rfl
@[simp] theorem setEng_jct (s : Hub) (g : Nat) (x : Engine) : (s.setEng g x).jct = s.jct := rfl
@[simp] theorem setEng_tx6 (s : Hub) (g : Nat) (x : Engine) : (s.setEng g x).tx6 = s.tx6 := rfl
@[simp] theorem setEng_recs (s : Hub) (g : Nat) (x : Engine) : (s.setEng g x).recs = s.recs := rfl
@[simp] theorem setEng_tm (s : Hub) (g : Nat) (x : Engine) : (s.setEng g x).tm = s.tm := rfl
@[simp] theorem setEng_codecs (s : Hub) (g : Nat) (x : Engine) : (s.setEng g x).codecs = s.codecs := rfl
@[simp] theorem setEng_flushes (s : Hub) (g : Nat) (x : Engine) : (s.setEng g x).flushes = s.flushes := rfl
@[simp] theorem setEng_lanes (s : Hub) (g : Nat) (x : Engine) : (s.setEng g x).lanes = s.lanes := rfl
@[simp] theorem setEng_msh (s : Hub) (g : Nat) (x : Engine) : (s.setEng g x).msh = s.msh := rfl
@[simp] theorem setEng_tx7 (s : Hub) (g : Nat) (x : Engine) : (s.setEng g x).tx7 = s.tx7 := rfl
@[simp] theorem setEng_pr (s : Hub) (g : Nat) (x : Engine) : (s.setEng g x).pr = s.pr := rfl
@[simp] theorem setEng_mon (s : Hub) (g : Nat) (x : Engine) : (s.setEng g x).mon = s.mon := rfl
@[simp] theorem setEng_led (s : Hub) (g : Nat) (x : Engine) : (s.setEng g x).led = s.led := rfl
@[simp] theorem setEng_mc (s : Hub) (g : Nat) (x : Engine) : (s.setEng g x).mc = s.mc := rfl
@[simp] theorem setEng_pw (s : Hub) (g : Nat) (x : Engine) : (s.setEng g x).pw = s.pw := rfl

@[simp] theorem setEcc_frame (s : Hub) (w mask : Nat) : (s.setEcc w mask).frame = s.frame := rfl
@[simp] theorem setEcc_xo (s : Hub) (w mask : Nat) : (s.setEcc w mask).xo = s.xo := rfl
@[simp] theorem setEcc_regs (s : Hub) (w mask : Nat) : (s.setEcc w mask).regs = s.regs := rfl
@[simp] theorem setEcc_act (s : Hub) (w mask : Nat) : (s.setEcc w mask).act = s.act := rfl
@[simp] theorem setEcc_mem (s : Hub) (w mask : Nat) : (s.setEcc w mask).mem = s.mem := rfl
@[simp] theorem setEcc_free (s : Hub) (w mask : Nat) : (s.setEcc w mask).free = s.free := rfl
@[simp] theorem setEcc_sid (s : Hub) (w mask : Nat) : (s.setEcc w mask).sid = s.sid := rfl
@[simp] theorem setEcc_held (s : Hub) (w mask : Nat) : (s.setEcc w mask).held = s.held := rfl
@[simp] theorem setEcc_mbx (s : Hub) (w mask : Nat) : (s.setEcc w mask).mbx = s.mbx := rfl
@[simp] theorem setEcc_tt (s : Hub) (w mask : Nat) : (s.setEcc w mask).tt = s.tt := rfl
@[simp] theorem setEcc_hist (s : Hub) (w mask : Nat) : (s.setEcc w mask).hist = s.hist := rfl
@[simp] theorem setEcc_chans (s : Hub) (w mask : Nat) : (s.setEcc w mask).chans = s.chans := rfl
@[simp] theorem setEcc_quads (s : Hub) (w mask : Nat) : (s.setEcc w mask).quads = s.quads := rfl
@[simp] theorem setEcc_asy (s : Hub) (w mask : Nat) : (s.setEcc w mask).asy = s.asy := rfl
@[simp] theorem setEcc_calQ (s : Hub) (w mask : Nat) : (s.setEcc w mask).calQ = s.calQ := rfl
@[simp] theorem setEcc_flts (s : Hub) (w mask : Nat) : (s.setEcc w mask).flts = s.flts := rfl
@[simp] theorem setEcc_filtFrom (s : Hub) (w mask : Nat) : (s.setEcc w mask).filtFrom = s.filtFrom := rfl
@[simp] theorem setEcc_engines (s : Hub) (w mask : Nat) : (s.setEcc w mask).engines = s.engines := rfl
@[simp] theorem setEcc_staging (s : Hub) (w mask : Nat) : (s.setEcc w mask).staging = s.staging := rfl
@[simp] theorem setEcc_shadow (s : Hub) (w mask : Nat) : (s.setEcc w mask).shadow = s.shadow := rfl
@[simp] theorem setEcc_jct (s : Hub) (w mask : Nat) : (s.setEcc w mask).jct = s.jct := rfl
@[simp] theorem setEcc_tx6 (s : Hub) (w mask : Nat) : (s.setEcc w mask).tx6 = s.tx6 := rfl
@[simp] theorem setEcc_recs (s : Hub) (w mask : Nat) : (s.setEcc w mask).recs = s.recs := rfl
@[simp] theorem setEcc_tm (s : Hub) (w mask : Nat) : (s.setEcc w mask).tm = s.tm := rfl
@[simp] theorem setEcc_codecs (s : Hub) (w mask : Nat) : (s.setEcc w mask).codecs = s.codecs := rfl
@[simp] theorem setEcc_flushes (s : Hub) (w mask : Nat) : (s.setEcc w mask).flushes = s.flushes := rfl
@[simp] theorem setEcc_lanes (s : Hub) (w mask : Nat) : (s.setEcc w mask).lanes = s.lanes := rfl
@[simp] theorem setEcc_msh (s : Hub) (w mask : Nat) : (s.setEcc w mask).msh = s.msh := rfl
@[simp] theorem setEcc_tx7 (s : Hub) (w mask : Nat) : (s.setEcc w mask).tx7 = s.tx7 := rfl
@[simp] theorem setEcc_pr (s : Hub) (w mask : Nat) : (s.setEcc w mask).pr = s.pr := rfl
@[simp] theorem setEcc_mon (s : Hub) (w mask : Nat) : (s.setEcc w mask).mon = s.mon := rfl
@[simp] theorem setEcc_led (s : Hub) (w mask : Nat) : (s.setEcc w mask).led = s.led := rfl
@[simp] theorem setEcc_mc (s : Hub) (w mask : Nat) : (s.setEcc w mask).mc = s.mc := rfl
@[simp] theorem setEcc_pw (s : Hub) (w mask : Nat) : (s.setEcc w mask).pw = s.pw := rfl

/-! ### Registers read back -/

@[simp] theorem reg_setReg_same (s : Hub) (a v : Nat) : (s.setReg a v).reg a = v % 2 ^ 32 := by simp [Hub.reg, Hub.setReg]

theorem reg_setReg_ne (s : Hub) {a b : Nat} (v : Nat) (h : b ≠ a) : (s.setReg a v).reg b = s.reg b := by
  simp [Hub.reg, Hub.setReg, tget_tset_ne _ _ _ h]

theorem reg_setFld_ne (s : Hub) {a b : Nat} (hi lo v : Nat) (h : b ≠ a) : (s.setFld a hi lo v).reg b = s.reg b := reg_setReg_ne s _ h

theorem reg_setBit_ne (s : Hub) {a b : Nat} (i : Nat) (v : Bool) (h : b ≠ a) : (s.setBit a i v).reg b = s.reg b := reg_setReg_ne s _ h

/-- A read of a register uses the register file alone. -/
theorem reg_congr {s t : Hub} (h : s.regs = t.regs) (a : Nat) : s.reg a = t.reg a := by simp [Hub.reg, h]

/-- What a command or event answers: the hub that its meaning gives, and the queue as it was. -/
theorem lift_eq (f : Hub → Hub) (s : State) : lift f s = .next { s with toHub := f s.toHub } := rfl

end Sys2Proof.Machine
end

