-- ==== Sys2Proof/Laws/Queues.lean ====
section
/-! SUPPORT. Queueing an item, a response or an event leaves everything else of the hub alone. -/

namespace Sys2Proof.Machine

theorem Touches.refl (rs : List Nat) (s : Hub) : Touches rs s s := ⟨fun _ _ _ _ => rfl, fun _ _ => rfl, rfl⟩

theorem Touches.trans {rs : List Nat} {s t u : Hub} (h : Touches rs s t) (k : Touches rs t u) : Touches rs s u := by
  refine ⟨fun a h1 h2 h3 => (k.1 a h1 h2 h3).trans (h.1 a h1 h2 h3), fun a ha => (k.2.1 a ha).trans (h.2.1 a ha), ?_⟩
  have hk := k.2.2
  have hh := h.2.2
  unfold KeepsRest at *
  rw [← hk] at hh
  exact hh

theorem Touches.mono {rs rs' : List Nat} {s t : Hub} (h : Touches rs s t) (hs : ∀ a ∈ rs, a ∈ rs') : Touches rs' s t :=
  ⟨fun a h1 h2 h3 => h.1 a h1 h2 fun hm => h3 (hs a hm), h.2⟩

theorem Touches.ite {rs : List Nat} {s t u : Hub} {c : Prop} [Decidable c] (h : Touches rs s t) (k : Touches rs s u) :
    Touches rs s (if c then t else u) := by
  split <;> assumption

/-- Replacing sidings, descriptors, check bits or the mailbox keeps a change quiet. -/
theorem Touches.put {rs : List Nat} {s t : Hub} (h : Touches rs s t) (ecc : List (Nat × Nat)) (sid : List (Nat × List Item))
    (held : List (Nat × Item)) (mbx : Mbx) : Touches rs s { t with ecc := ecc, sid := sid, held := held, mbx := mbx } :=
  ⟨h.1, h.2.1, h.2.2⟩

theorem touches_setReg {rs : List Nat} (s : Hub) (a v : Nat) (h : 0x60000000 ≤ a ∨ a ∈ reportRegs ∨ a ∈ rs) : Touches rs s (s.setReg a v) := by
  refine ⟨fun b h1 h2 h3 => reg_setReg_ne s v ?_, fun _ _ => rfl, rfl⟩
  rintro rfl
  rcases h with h | h | h
  · omega
  · exact h2 h
  · exact h3 h

theorem touches_setFld {rs : List Nat} (s : Hub) (a hi lo v : Nat) (h : 0x60000000 ≤ a ∨ a ∈ reportRegs ∨ a ∈ rs) :
    Touches rs s (s.setFld a hi lo v) :=
  touches_setReg s a _ h

theorem touches_setBit {rs : List Nat} (s : Hub) (a i : Nat) (b : Bool) (h : 0x60000000 ≤ a ∨ a ∈ reportRegs ∨ a ∈ rs) :
    Touches rs s (s.setBit a i b) :=
  touches_setReg s a _ h

theorem sd_ge (n : Nat) : 0x60000000 ≤ SD_HEAD n ∧ 0x60000000 ≤ SD_TAIL n ∧ 0x60000000 ≤ SD_LEVEL n ∧ 0x60000000 ≤ SD_LOST n := by
  simp only [SD_HEAD, SD_TAIL, SD_LEVEL, SD_LOST]; omega

/-- Stored bytes are the only ones that change. -/
theorem tget_memPuts (bs : List Byte) : ∀ (m : List Host.Cell) (a b : Nat), (b < a ∨ a + bs.length ≤ b) →
    tget memDefault (memPuts m a bs) b = tget memDefault m b := by
  induction bs with
  | nil => intro m a b _; rfl
  | cons x bs ih =>
    intro m a b h
    simp only [List.length_cons] at h
    rw [memPuts, ih _ _ _ (by omega), memPut, tget_tset_ne _ _ _ (by omega)]

/-- What a write to one code word leaves behind. -/
theorem putCodeWord_cases (s : Hub) (a : Nat) (bs : List Byte) : (s.putCodeWord a bs).1 = s ∨
    ∃ w mask, (s.putCodeWord a bs).1 = ({ s with mem := memPuts s.mem a bs } : Hub).setEcc w mask ∨
      (s.putCodeWord a bs).1 = (({ s with mem := memPuts s.mem a bs } : Hub).setEcc w mask).setBit ECC_FLIP 31 false := by
  unfold Hub.putCodeWord
  split
  · exact Or.inl rfl
  · rename_i m width _
    dsimp only
    generalize (if bs.length < width then eccCheck (s.eccAt (a / width * width)) else .clean) = found
    by_cases hc : found = .uncorrectable
    · rw [if_pos hc]; exact Or.inl rfl
    · rw [if_neg hc]
      dsimp only
      unfold Hub.storeCode
      cases hm : Hub.flipFor { s with mem := memPuts s.mem a bs } m (a / width * width) width with
      | none => exact Or.inr ⟨_, _, Or.inl rfl⟩
      | some mask => exact Or.inr ⟨_, _, Or.inr rfl⟩

/-- Storing bytes in the sidings' rings. -/
theorem touches_memPuts {rs : List Nat} (s : Hub) (a : Nat) (bs : List Byte) (w mask : Nat) (h : 0x101F0000 ≤ a ∧ a + bs.length ≤ 0x10200000) :
    Touches rs s (({ s with mem := memPuts s.mem a bs } : Hub).setEcc w mask) := by
  refine ⟨fun _ _ _ _ => rfl, fun b hb => ?_, rfl⟩
  have key := tget_memPuts bs s.mem a b (by omega)
  simp only [Hub.byte, Hub.setEcc, key]

theorem touches_putCodeWord {rs : List Nat} (s : Hub) (a : Nat) (bs : List Byte) (h : 0x101F0000 ≤ a ∧ a + bs.length ≤ 0x10200000) :
    Touches rs s (s.putCodeWord a bs).1 := by
  rcases putCodeWord_cases s a bs with e | ⟨w, mask, e | e⟩ <;> rw [e]
  · exact Touches.refl rs s
  · exact touches_memPuts s a bs w mask h
  · exact (touches_memPuts s a bs w mask h).trans (touches_setBit _ _ _ _ (Or.inr (Or.inl (by simp [reportRegs]))))

theorem touches_writeMemFuel {rs : List Nat} (f : Nat) : ∀ (s : Hub) (a : Nat) (bs : List Byte), (0x101F0000 ≤ a ∧ a + bs.length ≤ 0x10200000) →
    Touches rs s (Hub.writeMemFuel f s a bs).1 := by
  induction f with
  | zero => intro s a bs _; exact Touches.refl rs s
  | succ f ih =>
    intro s a bs h
    cases bs with
    | nil => exact Touches.refl rs s
    | cons b bs =>
      simp only [Hub.writeMemFuel]
      generalize (match memoryAt a with | some (_, w) => w | none => 8) - a % (match memoryAt a with | some (_, w) => w | none => 8) = k
      simp only [List.length_cons] at h
      have hd : Touches rs s (s.putCodeWord a ((b :: bs).take k)).1 := touches_putCodeWord s a _ (by simp only [List.length_take, List.length_cons]; omega)
      by_cases hk : bs.length + 1 ≤ k
      · rw [List.drop_eq_nil_of_le (by simpa using hk)]
        cases f <;> exact hd
      · exact hd.trans (ih _ _ _ (by simp only [List.length_drop, List.length_cons]; omega))

theorem touches_writeMem {rs : List Nat} (s : Hub) (a : Nat) (bs : List Byte) (h : 0x101F0000 ≤ a ∧ a + bs.length ≤ 0x10200000) :
    Touches rs s (s.writeMem a bs) := touches_writeMemFuel _ s a bs h

theorem length_leBytes (n v : Nat) : (leBytes n v).length = n := by
  induction n generalizing v with
  | zero => rfl
  | succ n ih => simp [leBytes, ih]

theorem length_sidEntry (n t c : Nat) (it : Item) : (sidEntry n t c it).length ≤ 16 := by
  unfold sidEntry
  split
  · rw [List.length_take]; omega
  · dsimp only; simp [length_leBytes]

theorem touches_sidAppend {rs : List Nat} (s : Hub) (n : Nat) (it : Item) : Touches rs s (s.sidAppend n it) := by
  have hl := length_sidEntry n (s.fld (SD_TAIL n) 15 0) s.tt.crossing it
  have h0 : Touches rs s (s.writeMem (ringAddr n (s.fld (SD_TAIL n) 15 0)) (sidEntry n (s.fld (SD_TAIL n) 15 0) s.tt.crossing it)) :=
    touches_writeMem s _ _ (by unfold ringAddr; omega)
  have h1 := h0.trans (touches_setFld _ (SD_TAIL n) 15 0 (s.fld (SD_TAIL n) 15 0 + 1) (Or.inl (sd_ge n).2.1))
  unfold Hub.sidAppend
  dsimp only
  generalize Hub.setFld _ _ _ _ _ = u at h1 ⊢
  have h2 := h1.put u.ecc (tset (fun _ => []) u.sid n (u.items n ++ [it])) u.held u.mbx
  exact Touches.ite (h2.trans (touches_setFld _ (SD_LEVEL n) _ _ _ (Or.inl (sd_ge n).2.2.1))) h2

theorem touches_sidLose {rs : List Nat} (s : Hub) (n : Nat) : Touches rs s (s.sidLose n) := by
  have h : Touches rs s (s.addSat (SD_LOST n) 31 0 1) := touches_setFld _ _ _ _ _ (Or.inl (sd_ge n).2.2.2)
  exact h.put _ _ _ _

theorem touches_sidPush {rs : List Nat} (s : Hub) (n : Nat) (it : Item) : Touches rs s (s.sidPush n it).1 := by
  unfold Hub.sidPush
  split
  · exact touches_sidAppend s n it
  · split
    · exact ⟨fun _ _ _ _ => rfl, fun _ _ => rfl, rfl⟩
    · exact Touches.ite (touches_sidLose s n) (Touches.refl _ s)
    · exact Touches.refl _ s

/-- Queueing an item. -/
theorem touches_sidQueue {rs : List Nat} (s : Hub) (n : Nat) (it : Item) : Touches rs s (s.sidQueue n it) := touches_sidPush s n it

/-- Taking the oldest item out. -/
theorem touches_sidPop {rs : List Nat} (s : Hub) (n : Nat) : Touches rs s (s.sidPop n) := by
  unfold Hub.sidPop
  dsimp only
  split
  · exact Touches.refl _ s
  · have h1 : Touches rs s _ := touches_setFld s (SD_HEAD n) 15 0 (s.fld (SD_HEAD n) 15 0 + 1) (Or.inl (sd_ge n).1)
    generalize Hub.setFld _ _ _ _ _ = u at h1 ⊢
    have h2 := h1.put u.ecc (tset (fun _ => []) u.sid n ((u.items n).drop 1)) u.held u.mbx
    split
    · rename_i it rest _
      exact (h2.put _ _ rest _).trans (touches_sidAppend _ n it)
    · exact h2

theorem touches_dropGone {rs : List Nat} (n : Nat) (f : Nat) : ∀ s : Hub, Touches rs s (Hub.dropGone f s n) := by
  induction f with
  | zero => intro s; exact Touches.refl _ s
  | succ f ih => intro s; exact Touches.ite ((touches_sidPop s n).trans (ih _)) (Touches.refl _ s)

/-- Taking items out of their turn. -/
theorem touches_sidMark {rs : List Nat} (s : Hub) (n : Nat) (f : List Item → List Item) : Touches rs s (s.sidMark n f) :=
  ((Touches.refl rs s).put s.ecc _ s.held s.mbx).trans (touches_dropGone n _ _)

theorem touches_sidRemove {rs : List Nat} (s : Hub) (n : Nat) (p : Item → Bool) : Touches rs s (s.sidRemove n p) := touches_sidMark s n _

/-- Sending a response. -/
theorem touches_sendResp {rs : List Nat} (s : Hub) (r : Resp) : Touches rs s (s.sendResp r) :=
  have h0 : Touches rs s { s with mbx := { s.mbx with stamp := s.mbx.stamp + 1 } } := ⟨fun _ _ _ _ => rfl, fun _ _ => rfl, rfl⟩
  Touches.ite (h0.trans (touches_sidQueue _ _ _)) (h0.trans (touches_sidQueue _ _ _))

/-- Answering a command. -/
theorem touches_answer {rs : List Nat} (s : Hub) (h : Hdr) (op st : Nat) (p : List Byte) : Touches rs s (s.answer h op st p) :=
  ((Touches.refl rs s).put s.ecc s.sid s.held _).trans (touches_sendResp _ _)

/-- Emitting an event. -/
theorem touches_emit {rs : List Nat} (s : Hub) (code : Nat) (ws : List Nat) : Touches rs s (s.emit code ws) := by
  unfold Hub.emit
  split
  · exact Touches.refl _ s
  · dsimp only
    split
    · exact touches_setFld _ _ _ _ _ (by simp [reportRegs])
    · have h0 : Touches rs s (s.incWrap MBX_ESEQ 15 0) := touches_setFld _ _ _ _ _ (by simp [reportRegs])
      refine Touches.trans h0 ?_
      have h1 : ∀ t : Hub, Touches rs t { t with mbx := { t.mbx with stamp := t.mbx.stamp + 1 } } := fun t => ⟨fun _ _ _ _ => rfl, fun _ _ => rfl, rfl⟩
      split
      · exact Touches.trans (h1 _) (touches_sidQueue _ _ _)
      · exact Touches.trans (h1 _) (touches_sidQueue _ _ _)

/-- Writing an entry of the error log. -/
theorem touches_logErr {rs : List Nat} (s : Hub) (kind master memory detail addr : Nat) (e : LogEvent) :
    Touches rs s (s.logErr kind master memory detail addr e) :=
  touches_sidQueue _ _ _

/-! ### Counting and reading what the memories hold (R390-R393) -/

theorem each_touches {rs : List Nat} {α : Type} (f : Hub → α → Hub) (xs : List α) (hf : ∀ s, ∀ x ∈ xs, Touches rs s (f s x)) :
    ∀ s : Hub, Touches rs s (s.each xs f) := by
  induction xs with
  | nil => intro s; exact Touches.refl _ s
  | cons x xs ih => intro s; exact (hf s x (by simp)).trans (ih (fun s y hy => hf s y (by simp [hy])) _)

/-- Counting a corrected word of a memory (R392). -/
theorem touches_bucketAdd {rs : List Nat} (s : Hub) (m addr requester : Nat) (h1 : ECC_CNT m ∈ rs) (h2b : ECC_BEV m ∈ rs) (h3 : ECC_STATUS ∈ rs) :
    Touches rs s (s.bucketAdd m addr requester) := by
  have h0 : Touches rs s (s.incSat (ECC_CNT m) 31 16) := touches_setFld _ _ _ _ _ (Or.inr (Or.inr h1))
  unfold Hub.bucketAdd
  dsimp only
  generalize s.incSat (ECC_CNT m) 31 16 = u at h0 ⊢
  refine h0.trans (Touches.ite ?_ (touches_setFld _ _ _ _ _ (Or.inr (Or.inr h1))))
  have h2 : Touches rs u (u.setFld (ECC_CNT m) 7 0 0) := touches_setFld _ _ _ _ _ (Or.inr (Or.inr h1))
  have h4 := h2.trans (touches_logErr _ (if m = 15 then 5 else 1) requester m 0 addr
    { code := 0x1101, words := [m, (u.setFld (ECC_CNT m) 7 0 0).fld (ECC_CNT m) 31 16], rest := some [] })
  generalize Hub.logErr _ _ _ _ _ _ _ = w at h4 ⊢
  have h5 : Touches rs w (w.incSat (ECC_BEV m) 15 0) := touches_setFld _ _ _ _ _ (Or.inr (Or.inr h2b))
  exact (h4.trans h5).trans (touches_setBit _ _ _ _ (Or.inr (Or.inr h3)))

/-- Counting and logging an uncorrectable word of a memory (R393). -/
theorem touches_uncorrectable {rs : List Nat} (s : Hub) (m addr requester access : Nat) (extra : List Nat) (h1 : ECC_CNT m ∈ rs)
    (h3 : ECC_STATUS ∈ rs) : Touches rs s (s.uncorrectable m addr requester access extra) := by
  unfold Hub.uncorrectable
  dsimp only
  exact Touches.trans (Touches.trans (touches_setFld _ (ECC_CNT m) 15 8 _ (Or.inr (Or.inr h1))) (touches_setBit _ ECC_STATUS _ _ (Or.inr (Or.inr h3))))
    (touches_logErr _ _ _ _ _ _ _)

/-- A code word with no inverted bit is clean. -/
@[simp] theorem eccCheck_zero : eccCheck 0 = .clean := by simp [eccCheck, popCount]

/-- An entry whose two words carry no inverted bit reads without effect (R390). -/
theorem readEntry_clean (s : Hub) (n i requester : Nat) (h1 : eccCheck (s.eccAt (ringAddr n (s.fld (SD_HEAD n) 15 0 + i))) = .clean)
    (h2 : eccCheck (s.eccAt (ringAddr n (s.fld (SD_HEAD n) 15 0 + i) + 8)) = .clean) : s.readEntry n i requester = (true, s) := by
  unfold Hub.readEntry
  simp [Hub.each, h1, h2]

/-- In a clean ring every entry can be read. -/
theorem RingClean.readEntry {s : Hub} {n : Nat} (h : RingClean s n) (i requester : Nat) : s.readEntry n i requester = (true, s) :=
  readEntry_clean s n i requester (h.2 _).1 (h.2 _).2

/-- A hub whose inverted bits lie outside the sidings' rings and with no flip armed has clean rings. -/
theorem ringClean_of {s : Hub} (h : (s.ecc.all fun x => decide (x.1 < 0x101F0000) || decide (0x10200000 ≤ x.1)) = true) (hf : s.bit ECC_FLIP 31 = false)
    (n : Nat) : RingClean s n := by
  have e : ∀ w, 0x101F0000 ≤ w → w < 0x10200000 → eccCheck (s.eccAt w) = .clean := by
    intro w h1 h2
    unfold Hub.eccAt
    generalize s.ecc = t at h
    induction t with
    | nil => exact eccCheck_zero
    | cons x t ih =>
      simp only [List.all_cons, Bool.and_eq_true, Bool.or_eq_true, decide_eq_true_eq] at h
      rw [show tget (fun _ => 0) (x :: t) w = tget (fun _ => 0) t w from if_neg (by omega)]
      exact ih h.2
  exact ⟨hf, fun t => by constructor <;> apply e <;> unfold ringAddr <;> omega⟩

/-- A fold that changes nothing. -/
theorem each_same {α : Type} (s : Hub) (xs : List α) (f : Hub → α → Hub) (h : ∀ x ∈ xs, f s x = s) : s.each xs f = s := by
  unfold Hub.each
  induction xs with
  | nil => rfl
  | cons x xs ih => rw [List.foldl_cons, h x (by simp), ih fun y hy => h y (by simp [hy])]

/-- Reads of words that carry no inverted bit find nothing (R390). -/
theorem readWords_clean (s : Hub) (requester access : Nat) (as : List Nat) (h : ∀ a ∈ as, eccCheck (s.eccAt a) = .clean) :
    s.readWords requester access as = (true, s) := by
  have f : as.find? (fun a => eccCheck (s.eccAt a) = .uncorrectable) = none := by
    rw [List.find?_eq_none]; intro a ha; simp [h a ha]
  unfold Hub.readWords
  dsimp only
  rw [each_same _ _ _ fun a ha => if_neg (by simp [h a ha]), f]

/-- Starting a consumed command. -/
theorem touches_startCmd {rs : List Nat} (s : Hub) (c : Cmd) : Touches rs s (s.startCmd c) := by
  have h : Touches rs s (s.sidMark c.port (goneFirst (· == .cmd c))) := touches_sidMark s _ _
  exact h.put _ _ _ _

theorem touches_rejectUnknown {rs : List Nat} (f : Nat) : ∀ s : Hub, Touches rs s (Hub.rejectUnknown f s) := by
  induction f with
  | zero => intro s; exact Touches.refl _ s
  | succ f ih =>
    intro s
    simp only [Hub.rejectUnknown]
    split
    · exact Touches.refl _ s
    · refine Touches.trans (Touches.trans ?_ (touches_answer _ _ _ _ _)) (ih _)
      exact touches_startCmd s _

/-- Taking a command out of the waiting ones. -/
theorem touches_takeCmd {rs : List Nat} (s : Hub) (h : Hdr) (op : Nat) : Touches rs s (s.takeCmd h op) := by
  unfold Hub.takeCmd
  split
  · exact Touches.refl _ s
  · exact (touches_startCmd s _).trans (touches_rejectUnknown _ _)

end Sys2Proof.Machine
end

