-- ==== Sys2Proof/Laws/Commands.lean ====
section
/-! SUPPORT. What executing a host command comes to: its own meaning, then its answer. -/

namespace Sys2Proof.Machine

theorem mbx_putCodeWord (s : Hub) (a : Nat) (bs : List Byte) : (s.putCodeWord a bs).1.mbx = s.mbx := by
  have h1 : ∀ (t : Hub) (w mask : Nat), (({ t with mem := memPuts t.mem a bs } : Hub).setEcc w mask).mbx = t.mbx := fun _ _ _ => rfl
  have h2 : ∀ t : Hub, (t.setBit ECC_FLIP 31 false).mbx = t.mbx := fun t => setBit_mbx t _ _ _
  rcases putCodeWord_cases s a bs with e | ⟨w, mask, e | e⟩
  · rw [e]
  · rw [e, h1]
  · rw [e, h2, h1]

theorem mbx_writeMemFuel (f : Nat) : ∀ (s : Hub) (a : Nat) (bs : List Byte), (Hub.writeMemFuel f s a bs).1.mbx = s.mbx := by
  induction f with
  | zero => intro s a bs; rfl
  | succ f ih =>
    intro s a bs
    cases bs with
    | nil => rfl
    | cons b bs =>
      simp only [Hub.writeMemFuel]
      rw [ih, mbx_putCodeWord]

@[simp] theorem mbx_sidAppend (s : Hub) (n : Nat) (it : Item) : (s.sidAppend n it).mbx = s.mbx := by
  have h : (s.writeMem (ringAddr n (s.fld (SD_TAIL n) 15 0)) (sidEntry n (s.fld (SD_TAIL n) 15 0) s.tt.crossing it)).mbx = s.mbx := mbx_writeMemFuel _ _ _ _
  unfold Hub.sidAppend
  dsimp only
  split <;> exact h

/-- Queueing an item leaves the mailbox alone, but for the event and log sidings, whose losses it is to report (R388). -/
theorem mbx_sidQueue (s : Hub) (n : Nat) (it : Item) (hn : n ≠ 40 ∧ n ≠ 41) : (s.sidQueue n it).mbx = s.mbx := by
  unfold Hub.sidQueue Hub.sidPush
  split
  · exact mbx_sidAppend s n it
  · split
    · rfl
    · rw [if_neg (by omega)]
    · rfl

/-- Sending a response leaves the mailbox but its stamp alone. -/
theorem mbx_sendResp (s : Hub) (r : Resp) (h : r.src < 3) : (s.sendResp r).mbx = { s.mbx with stamp := s.mbx.stamp + 1 } := by
  unfold Hub.sendResp
  dsimp only
  split <;> rw [mbx_sidQueue _ _ _ (by omega)]

/-- Which commands wait, and which responses wait for the partner, does not change as a command is answered. -/
theorem both_answer (s : Hub) (h : Hdr) (op st : Nat) (p : List Byte) : (s.answer h op st p).mbx.both = s.mbx.both := by
  unfold Hub.answer
  rw [mbx_sendResp _ _ h.src.isLt]

/-- The answer is the last response kept. -/
theorem answered_answer (s : Hub) (h : Hdr) (op st : Nat) (p : List Byte) : Answered (s.answer h op st p) h op st p := by
  unfold Answered Hub.answer
  rw [mbx_sendResp _ _ h.src.isLt]
  simp

/-- What a register of the address map holds after the answer. -/
theorem reg_answer (s : Hub) (h : Hdr) (op st : Nat) (p : List Byte) {a : Nat} (ha : a < 0x60000000) (hr : a ∉ reportRegs) :
    (s.answer h op st p).reg a = s.reg a :=
  (touches_answer (rs := []) s h op st p).1 a ha hr (by simp)

/-- What a register of the address map holds as a command starts. -/
theorem reg_takeCmd (s : Hub) (h : Hdr) (op : Nat) {a : Nat} (ha : a < 0x60000000) (hr : a ∉ reportRegs) : (s.takeCmd h op).reg a = s.reg a :=
  (touches_takeCmd (rs := []) s h op).1 a ha hr (by simp)

theorem alone_takeCmd {s : Hub} (h : Hdr) (op : Nat) (ha : Alone s) : Alone (s.takeCmd h op) := by
  have e := reg_takeCmd s h op (a := PAIR_STATUS) (by decide) (by decide)
  unfold Alone Hub.joined Hub.leader Hub.fld Hub.bit at *
  rw [e]; exact ha

theorem respond_eq (s : Hub) (h : Hdr) (op st : Nat) (p : List Byte) (hb : ∀ b ∈ s.mbx.both, ¬ (b.hdr = h ∧ b.op = op)) :
    s.respond h op st p = s.answer h op st p := by
  unfold Hub.respond
  rw [if_neg]
  simp only [List.any_eq_true, not_exists, not_and]
  intro b hm hc
  simp only [Bool.and_eq_true, beq_iff_eq] at hc
  exact hb b hm ⟨hc.1.1, hc.1.2⟩

/-- A command that is accepted and answers at once. -/
theorem command_now {s : Hub} {op : Nat} {h : Hdr} {p : List Byte} {body : Hub → Reply × Hub} (hA : Accepts s h op)
    {st : Nat} {pl : List Byte} {t : Hub} (hb : body (s.takeCmd h op) = (.now st pl, t)) (hm : t.mbx.both = (s.takeCmd h op).mbx.both)
    (ho : Alone s ∨ bothCmd op = false ∨ st ≠ stOK) : s.command op h p body = t.answer h op st pl := by
  obtain ⟨h1, h2, h3, h4⟩ := hA
  unfold Hub.command
  rw [if_neg (by simp [h1])]
  dsimp only
  rw [h2]
  dsimp only
  rw [if_neg h3, hb]
  dsimp only
  have hn : ¬ ((((s.takeCmd h op).joined && (s.takeCmd h op).leader && bothCmd op) = true) ∧ st = stOK) := by
    rintro ⟨ha, hs⟩
    rcases ho with ho | ho | ho
    · have := alone_takeCmd h op ho
      unfold Alone at this
      simp [this] at ha
    · simp [ho] at ha
    · exact ho hs
  rw [if_neg hn]
  exact respond_eq _ _ _ _ _ (hm ▸ h4)

/-- A command that is accepted and whose response waits. -/
theorem command_later {s : Hub} {op : Nat} {h : Hdr} {p : List Byte} {body : Hub → Reply × Hub} (hA : Defers s h op)
    {arg : Nat} {t : Hub} (hb : body (s.takeCmd h op) = (.later arg, t)) (ho : Alone s ∨ bothCmd op = false) :
    s.command op h p body = t.defer h op arg p := by
  obtain ⟨⟨h1, h2, h3, h4⟩, h5⟩ := hA
  unfold Hub.command
  rw [if_neg (by simp [h1])]
  dsimp only
  rw [h2]
  dsimp only
  rw [if_neg h3, hb]
  dsimp only
  rw [if_neg (by omega)]
  rcases ho with ho | ho
  · have := alone_takeCmd h op ho
    unfold Alone at this
    simp [this]
  · simp [ho]

theorem waits_defer (s : Hub) (h : Hdr) (op arg : Nat) (p : List Byte) : Waits (s.defer h op arg p) h op arg p :=
  ⟨{ hdr := h, op := op, arg := arg, payload := p, since := s.xo }, by simp [Hub.defer], rfl, rfl, rfl, rfl⟩

/-- A command whose response always waits is let through only with room for one more (R419). -/
theorem defers_of_accepts {s : Hub} {op : Nat} {h : Hdr} (hA : Accepts s h op) (hd : deferrable op h.target.toNat = true) : Defers s h op := by
  refine ⟨hA, ?_⟩
  obtain ⟨-, h2, -, -⟩ := hA
  unfold Hub.generic at h2
  dsimp only at h2
  repeat' split at h2
  all_goals cases h2
  rename_i hn
  simp only [hd, true_and] at hn
  omega

/-- A command that cannot start changes nothing. -/
theorem command_not_started {s : Hub} {op : Nat} {h : Hdr} {p : List Byte} {body : Hub → Reply × Hub} (hn : s.mayStart h op = false) :
    s.command op h p body = s := by
  unfold Hub.command; rw [if_pos (by simp [hn])]

theorem touches_foldl {rs : List Nat} {α : Type} (f : Hub → α → Hub) (hf : ∀ s x, Touches rs s (f s x)) (xs : List α) :
    ∀ s : Hub, Touches rs s (xs.foldl f s) := by
  induction xs with
  | nil => intro s; exact Touches.refl _ s
  | cons x xs ih => intro s; exact (hf s x).trans (ih _)

theorem touches_answerLate {rs : List Nat} (s : Hub) (h : Hdr) (op st : Nat) (p : List Byte) : Touches rs s (s.answerLate h op st p) :=
  Touches.ite ((Touches.refl rs s).put s.ecc s.sid s.held _) (touches_answer _ _ _ _ _)

theorem touches_settleBoth {rs : List Nat} (s : Hub) : Touches rs s s.settleBoth := by
  unfold Hub.settleBoth
  dsimp only
  refine ((Touches.refl rs s).put s.ecc s.sid s.held _).trans (touches_foldl _ ?_ _ _)
  intro u b
  split
  · exact Touches.ite (touches_answerLate _ _ _ _ _) (touches_answerLate _ _ _ _ _)
  · exact Touches.refl _ _

theorem touches_respond {rs : List Nat} (s : Hub) (h : Hdr) (op st : Nat) (p : List Byte) : Touches rs s (s.respond h op st p) :=
  Touches.ite (((Touches.refl rs s).put s.ecc s.sid s.held _).trans (touches_settleBoth _)) (touches_answer _ _ _ _ _)

/-- Completing deferred commands. -/
theorem touches_completeAny {rs : List Nat} (s : Hub) (q : Def → Bool) (st : Nat) (p : List Byte) : Touches rs s (s.completeAny q st p) := by
  unfold Hub.completeAny
  dsimp only
  split
  · exact (Touches.refl rs s).put s.ecc s.sid s.held _
  · exact ((Touches.refl rs s).put s.ecc s.sid s.held _).trans (touches_foldl _ (fun _ _ => touches_respond _ _ _ _ _) _ _)

theorem touches_complete {rs : List Nat} (s : Hub) (q : Def → Bool) (st : Nat) (p : List Byte) : Touches rs s (s.complete q st p) :=
  touches_completeAny _ _ _ _

/-- An event or a register command runs as the change of the hub it is. -/
theorem runs_lift {i : Instr} {s : State} {f : Hub → Hub} {post : Hub → Prop} (e : exec i s = lift f s) (h : post (f s.toHub)) : Runs i s post :=
  ⟨{ s with toHub := f s.toHub }, e, rfl, h⟩

/-- A host command that is accepted and answers at once. -/
theorem runs_now {i : Instr} {s : State} {op : Nat} {h : Hdr} {p : List Byte} {body : Hub → Reply × Hub} {post : Hub → Prop}
    (e : exec i s = lift (fun u => u.command op h p body) s) (hA : Accepts s.toHub h op)
    {st : Nat} {pl : List Byte} {t : Hub} (hb : body (s.takeCmd h op) = (.now st pl, t)) (hm : t.mbx.both = (s.takeCmd h op).mbx.both)
    (ho : Alone s.toHub ∨ bothCmd op = false ∨ st ≠ stOK) (hp : post (t.answer h op st pl)) : Runs i s post :=
  runs_lift e (by rw [command_now hA hb hm ho]; exact hp)

/-- A host command that is accepted and whose response waits. -/
theorem runs_later {i : Instr} {s : State} {op : Nat} {h : Hdr} {p : List Byte} {body : Hub → Reply × Hub} {post : Hub → Prop}
    (e : exec i s = lift (fun u => u.command op h p body) s) (hA : Defers s.toHub h op)
    {arg : Nat} {t : Hub} (hb : body (s.takeCmd h op) = (.later arg, t)) (ho : Alone s.toHub ∨ bothCmd op = false)
    (hp : post (t.defer h op arg p)) : Runs i s post :=
  runs_lift e (by rw [command_later hA hb ho]; exact hp)

/-- A response that waits leaves everything but the mailbox alone. -/
theorem touches_defer {rs : List Nat} (s : Hub) (h : Hdr) (op arg : Nat) (p : List Byte) : Touches rs s (s.defer h op arg p) :=
  (Touches.refl rs s).put s.ecc s.sid s.held _

/-! ### Checks, payload fields and folds -/

/-- A command whose checks all pass does its work. -/
theorem guarded_pass {cs : List (Bool × Nat)} {s : Hub} {f : Hub → Reply × Hub} (h : ∀ c ∈ cs, c.1 = false) : guarded cs s f = f s := by
  have e : checks cs = none := by
    induction cs with
    | nil => rfl
    | cons c cs ih =>
      obtain ⟨b, st⟩ := c
      have hb : b = false := h (b, st) (by simp)
      subst hb
      exact ih fun c hc => h c (by simp [hc])
  unfold guarded; rw [e]

theorem modeIn_takeCmd (s : Hub) (h : Hdr) (op : Nat) (ms : List Nat) : (s.takeCmd h op).modeIn ms = s.modeIn ms := by
  unfold Hub.modeIn Hub.mode Hub.fld; rw [reg_takeCmd _ _ _ (by decide) (by decide)]

theorem leNat_lt (bs : List Byte) : leNat bs < 256 ^ bs.length := by
  induction bs with
  | nil => simp [leNat]
  | cons b bs ih => simp only [leNat, List.length_cons, Nat.pow_succ]; have := b.isLt; omega

/-- A payload field fits its bytes. -/
theorem pl_lt (p : List Byte) (o n : Nat) : pl p o n < 256 ^ n := by
  refine Nat.lt_of_lt_of_le (leNat_lt _) (Nat.pow_le_pow_right (by omega) (by rw [List.length_take]; omega))

theorem mbx_foldl {α : Type} (f : Hub → α → Hub) (hf : ∀ s x, (f s x).mbx = s.mbx) (xs : List α) : ∀ s : Hub, (xs.foldl f s).mbx = s.mbx := by
  induction xs with
  | nil => intro s; rfl
  | cons x xs ih => intro s; rw [List.foldl_cons, ih, hf]

theorem touches_foldl_mem {rs : List Nat} {α : Type} (f : Hub → α → Hub) (xs : List α) (hf : ∀ s, ∀ x ∈ xs, Touches rs s (f s x)) :
    ∀ s : Hub, Touches rs s (xs.foldl f s) := by
  induction xs with
  | nil => intro s; exact Touches.refl _ s
  | cons x xs ih => intro s; exact (hf s x (by simp)).trans (ih (fun s y hy => hf s y (by simp [hy])) _)

/-- A register that a fold of register writes does not name. -/
theorem reg_foldl_setReg_ne {α : Type} (A : α → Nat) (V : Hub → α → Nat) (xs : List α) : ∀ (s : Hub) (a : Nat), (∀ y ∈ xs, a ≠ A y) →
    (xs.foldl (fun s x => s.setReg (A x) (V s x)) s).reg a = s.reg a := by
  induction xs with
  | nil => intro s a _; rfl
  | cons y ys ih => intro s a h; rw [List.foldl_cons, ih _ _ (fun z hz => h z (by simp [hz])), reg_setReg_ne _ _ (h y (by simp))]

/-- A fold that sets one register for each element, all different. -/
theorem reg_foldl_setReg {α : Type} (A : α → Nat) (V : α → Nat) (xs : List α) (hn : xs.Pairwise (fun x y => A x ≠ A y)) : ∀ (s : Hub) (x : α), x ∈ xs →
    (xs.foldl (fun s x => s.setReg (A x) (V x)) s).reg (A x) = V x % 2 ^ 32 := by
  induction xs with
  | nil => intro s x hx; simp at hx
  | cons y ys ih =>
    intro s x hx
    rw [List.pairwise_cons] at hn
    rw [List.foldl_cons]
    rcases List.mem_cons.mp hx with e | e
    · subst e; rw [reg_foldl_setReg_ne A (fun _ x => V x) _ _ _ (fun z hz => hn.1 z hz), reg_setReg_same]
    · exact ih hn.2 _ _ e

end Sys2Proof.Machine
end

