-- ==== Sys2Proof/Laws/Fields.lean ====
section
/-! SUPPORT. Fields of a word, and fields of a register, read back. -/

namespace Sys2Proof.Machine

/-- A word with a field replaced, as what lies above the field, the field and what lies below it. -/
theorem putBits_eq (x hi lo v : Nat) : putBits x hi lo v =
    x / 2 ^ lo / 2 ^ (hi + 1 - lo) * 2 ^ (hi + 1 - lo) * 2 ^ lo + v % 2 ^ (hi + 1 - lo) * 2 ^ lo + x % 2 ^ lo := by
  unfold putBits bits
  have h1 := Nat.div_add_mod x (2 ^ lo)
  have h2 := Nat.div_add_mod (x / 2 ^ lo) (2 ^ (hi + 1 - lo))
  generalize 2 ^ (hi + 1 - lo) = w at *
  generalize 2 ^ lo = l at *
  generalize x / l = q at *
  have h3 : l * q = l * (w * (q / w)) + l * (q % w) := by rw [← Nat.mul_add, h2]
  have e1 : q / w * w * l = l * (w * (q / w)) := by rw [Nat.mul_comm (q / w) w, Nat.mul_comm]
  have e2 : q % w * l = l * (q % w) := Nat.mul_comm _ _
  omega

theorem bits_lt (x hi lo : Nat) : bits x hi lo < 2 ^ (hi + 1 - lo) := Nat.mod_lt _ (Nat.two_pow_pos _)

/-- The bits of a word with a field replaced. -/
theorem testBit_putBits (x hi lo v i : Nat) (hl : lo ≤ hi) :
    (putBits x hi lo v).testBit i = if lo ≤ i ∧ i ≤ hi then v.testBit (i - lo) else x.testBit i := by
  rw [putBits_eq]
  have e : x / 2 ^ lo / 2 ^ (hi + 1 - lo) * 2 ^ (hi + 1 - lo) * 2 ^ lo + v % 2 ^ (hi + 1 - lo) * 2 ^ lo + x % 2 ^ lo =
      2 ^ lo * (2 ^ (hi + 1 - lo) * (x / 2 ^ lo / 2 ^ (hi + 1 - lo)) + v % 2 ^ (hi + 1 - lo)) + x % 2 ^ lo := by
    rw [← Nat.add_mul, Nat.mul_comm _ (2 ^ lo), Nat.mul_comm _ (2 ^ (hi + 1 - lo))]
  rw [e, Nat.testBit_two_pow_mul_add _ (Nat.mod_lt _ (Nat.two_pow_pos _)), Nat.testBit_two_pow_mul_add _ (Nat.mod_lt _ (Nat.two_pow_pos _))]
  by_cases h1 : i < lo
  · rw [if_pos h1, if_neg (by omega), Nat.testBit_mod_two_pow]; simp [h1]
  · rw [if_neg h1]
    by_cases h2 : i - lo < hi + 1 - lo
    · rw [if_pos h2, if_pos (by omega), Nat.testBit_mod_two_pow]; simp [h2]
    · rw [if_neg h2, if_neg (by omega), Nat.testBit_div_two_pow, Nat.testBit_div_two_pow]
      congr 1; omega

theorem testBit_bits (x hi lo i : Nat) : (bits x hi lo).testBit i = (decide (i < hi + 1 - lo) && x.testBit (lo + i)) := by
  unfold bits
  rw [Nat.testBit_mod_two_pow, Nat.testBit_div_two_pow, Nat.add_comm i lo]

theorem bits_mod (x hi lo : Nat) {n : Nat} (h : hi < n) : bits (x % 2 ^ n) hi lo = bits x hi lo := by
  apply Nat.eq_of_testBit_eq
  intro i
  rw [testBit_bits, testBit_bits, Nat.testBit_mod_two_pow]
  by_cases hi' : i < hi + 1 - lo
  · simp [hi', show lo + i < n by omega]
  · simp [hi']

theorem bits_putBits_same (x hi lo v : Nat) (hl : lo ≤ hi) : bits (putBits x hi lo v) hi lo = v % 2 ^ (hi + 1 - lo) := by
  apply Nat.eq_of_testBit_eq
  intro i
  rw [testBit_bits, testBit_putBits _ _ _ _ _ hl, Nat.testBit_mod_two_pow]
  by_cases hi' : i < hi + 1 - lo
  · rw [if_pos (by omega)]; simp [hi']
  · simp [hi']

theorem bits_putBits_ne (x hi lo v : Nat) {hi' lo' : Nat} (hl : lo ≤ hi) (hd : hi' < lo ∨ hi < lo') :
    bits (putBits x hi lo v) hi' lo' = bits x hi' lo' := by
  apply Nat.eq_of_testBit_eq
  intro i
  rw [testBit_bits, testBit_bits, testBit_putBits _ _ _ _ _ hl]
  by_cases h : i < hi' + 1 - lo'
  · rw [if_neg (by omega)]
  · simp [h]

/-- A field of a register reads back what was put into it. -/
theorem fld_setFld_same (s : Hub) (a hi lo v : Nat) (h : lo ≤ hi ∧ hi < 32) : (s.setFld a hi lo v).fld a hi lo = v % 2 ^ (hi + 1 - lo) := by
  unfold Hub.fld Hub.setFld
  rw [reg_setReg_same, bits_mod _ _ _ h.2, bits_putBits_same _ _ _ _ h.1]

/-- Putting a field leaves the register's other fields alone. -/
theorem fld_setFld_disjoint (s : Hub) (a hi lo v hi' lo' : Nat) (h : lo ≤ hi ∧ hi' < 32) (hd : hi' < lo ∨ hi < lo') :
    (s.setFld a hi lo v).fld a hi' lo' = s.fld a hi' lo' := by
  unfold Hub.fld Hub.setFld
  rw [reg_setReg_same, bits_mod _ _ _ h.2, bits_putBits_ne _ _ _ _ h.1 hd]

/-- Putting a field leaves other registers' fields alone. -/
theorem fld_setFld_ne (s : Hub) {a b : Nat} (hi lo v hi' lo' : Nat) (hb : b ≠ a) : (s.setFld a hi lo v).fld b hi' lo' = s.fld b hi' lo' := by
  unfold Hub.fld; rw [reg_setFld_ne s hi lo v hb]

theorem bitAt_eq (x i : Nat) : bitAt x i = (bits x i i == 1) := by
  unfold bitAt bits; simp

theorem bit_setBit_same (s : Hub) (a i : Nat) (b : Bool) (h : i < 32) : (s.setBit a i b).bit a i = b := by
  unfold Hub.bit Hub.setBit
  rw [bitAt_eq]
  have := fld_setFld_same s a i i (b2n b) ⟨Nat.le_refl _, h⟩
  unfold Hub.fld at this
  rw [this]; cases b <;> simp [b2n]

theorem bit_setFld_disjoint (s : Hub) (a hi lo v i : Nat) (h : lo ≤ hi ∧ i < 32) (hd : i < lo ∨ hi < i) : (s.setFld a hi lo v).bit a i = s.bit a i := by
  unfold Hub.bit
  rw [bitAt_eq, bitAt_eq]
  have := fld_setFld_disjoint s a hi lo v i i h hd
  unfold Hub.fld at this
  rw [this]

theorem bit_setBit_disjoint (s : Hub) (a i : Nat) (b : Bool) (j : Nat) (h : j < 32) (hd : j ≠ i) : (s.setBit a i b).bit a j = s.bit a j :=
  bit_setFld_disjoint s a i i _ j ⟨Nat.le_refl _, h⟩ (by omega)

theorem bit_setBit_ne (s : Hub) {a c : Nat} (i : Nat) (b : Bool) (j : Nat) (hc : c ≠ a) : (s.setBit a i b).bit c j = s.bit c j := by
  unfold Hub.bit; rw [reg_setBit_ne s i b hc]

end Sys2Proof.Machine
end

