-- ==== Sys2Proof/Laws/Memory.lean ====
section
/-! SUPPORT. Memory: every operation keeps the canonical form, a byte just written reads back, and what queueing an item adds. -/

namespace Sys2Proof.Machine

theorem memWf_memPut {m : List Host.Cell} (h : memWf m = true) (a : Nat) (b : Byte) : memWf (memPut m a b) = true := twf_tset memDefault h a b

theorem memWf_memPuts (bs : List Byte) : ∀ {m : List Host.Cell} (_ : memWf m = true) (a : Nat), memWf (memPuts m a bs) = true := by
  induction bs with
  | nil => intro m h _; exact h
  | cons b bs ih => intro m h a; exact ih (memWf_memPut h a b) (a + 1)

/-- Read after write. -/
theorem tget_memPuts_inside (bs : List Byte) : ∀ (m : List Host.Cell) (a i : Nat), i < bs.length →
    tget memDefault (memPuts m a bs) (a + i) = bs.getD i 0 := by
  induction bs with
  | nil => intro m a i h; simp at h
  | cons b bs ih =>
    intro m a i h
    cases i with
    | zero => rw [memPuts, tget_memPuts _ _ _ _ (Or.inl (by omega)), memPut]; simp
    | succ i =>
      simp only [List.length_cons] at h
      rw [memPuts, show a + (i + 1) = a + 1 + i by omega, ih _ _ _ (by omega)]; simp

theorem memWf_putCodeWord {s : Hub} (h : memWf s.mem = true) (a : Nat) (bs : List Byte) : memWf (s.putCodeWord a bs).1.mem = true := by
  rcases putCodeWord_cases s a bs with e | ⟨w, mask, e | e⟩ <;> rw [e]
  · exact h
  · exact memWf_memPuts bs h a
  · exact memWf_memPuts bs h a

theorem memWf_writeMemFuel (f : Nat) : ∀ {s : Hub} (_ : memWf s.mem = true) (a : Nat) (bs : List Byte), memWf (Hub.writeMemFuel f s a bs).1.mem = true := by
  induction f with
  | zero => intro s h a bs; exact h
  | succ f ih =>
    intro s h a bs
    cases bs with
    | nil => exact h
    | cons b bs => exact ih (memWf_putCodeWord h _ _) _ _

/-- A write of memory keeps the canonical form. -/
theorem memWf_writeMem {s : Hub} (h : memWf s.mem = true) (a : Nat) (bs : List Byte) : memWf (s.writeMem a bs).mem = true :=
  memWf_writeMemFuel _ h a bs

theorem memWf_sidAppend {s : Hub} (h : memWf s.mem = true) (n : Nat) (it : Item) : memWf (s.sidAppend n it).mem = true := by
  unfold Hub.sidAppend
  dsimp only
  split
  · exact memWf_writeMem h _ _
  · exact memWf_writeMem h _ _

theorem memWf_sidLose {s : Hub} (h : memWf s.mem = true) (n : Nat) : memWf (s.sidLose n).mem = true := h

theorem memWf_sidPush {s : Hub} (h : memWf s.mem = true) (n : Nat) (it : Item) : memWf (s.sidPush n it).1.mem = true := by
  unfold Hub.sidPush
  split
  · exact memWf_sidAppend h n it
  · split
    · exact h
    · split
      · exact memWf_sidLose h n
      · exact h
    · exact h

/-- Queueing an item keeps the canonical form. -/
theorem memWf_sidQueue {s : Hub} (h : memWf s.mem = true) (n : Nat) (it : Item) : memWf (s.sidQueue n it).mem = true := memWf_sidPush h n it

theorem memWf_sidPop {s : Hub} (h : memWf s.mem = true) (n : Nat) : memWf (s.sidPop n).mem = true := by
  unfold Hub.sidPop
  dsimp only
  have fld : memWf (s.setFld (SD_HEAD n) 15 0 (s.fld (SD_HEAD n) 15 0 + 1)).mem = true := by simpa using h
  generalize s.setFld (SD_HEAD n) 15 0 (s.fld (SD_HEAD n) 15 0 + 1) = u at fld ⊢
  split
  · exact h
  · split
    · refine memWf_sidAppend ?_ _ _
      exact fld
    · exact fld

theorem memWf_sidMark {s : Hub} (h : memWf s.mem = true) (n : Nat) (f : List Item → List Item) : memWf (s.sidMark n f).mem = true := by
  have key : ∀ (k : Nat) (u : Hub), memWf u.mem = true → memWf (Hub.dropGone k u n).mem = true := by
    intro k
    induction k with
    | zero => intro u hu; exact hu
    | succ k ih =>
      intro u hu
      simp only [Hub.dropGone]
      split
      · exact ih _ (memWf_sidPop hu n)
      · exact hu
  exact key _ _ h

theorem memWf_sidRemove {s : Hub} (h : memWf s.mem = true) (n : Nat) (p : Item → Bool) : memWf (s.sidRemove n p).mem = true := memWf_sidMark h n _

/-- Emitting an event keeps the canonical form. -/
theorem memWf_emit {s : Hub} (h : memWf s.mem = true) (code : Nat) (ws : List Nat) : memWf (s.emit code ws).mem = true := by
  have keep : ∀ (u : Hub) (mb : Mbx), memWf u.mem = true → memWf ({ u with mbx := mb } : Hub).mem = true := fun _ _ hu => hu
  have inc : memWf (s.incWrap MBX_ESEQ 15 0).mem = true := by simpa [Hub.incWrap] using h
  have sat : memWf (s.incSat MBX_CNT2 31 16).mem = true := by simpa [Hub.incSat] using h
  unfold Hub.emit
  dsimp only
  generalize s.incWrap MBX_ESEQ 15 0 = u at inc ⊢
  generalize s.incSat MBX_CNT2 31 16 = v at sat ⊢
  split
  · exact h
  · split
    · exact sat
    · split <;> exact memWf_sidQueue (keep _ _ inc) _ _

theorem memWf_logErr {s : Hub} (h : memWf s.mem = true) (kind master memory detail addr : Nat) (e : LogEvent) :
    memWf (s.logErr kind master memory detail addr e).mem = true := memWf_sidQueue h _ _

theorem memWf_sendResp {s : Hub} (h : memWf s.mem = true) (r : Resp) : memWf (s.sendResp r).mem = true := by
  unfold Hub.sendResp
  dsimp only
  split
  · exact memWf_sidQueue (by exact h) _ _
  · exact memWf_sidQueue (by exact h) _ _

/-- Answering a command keeps the canonical form. -/
theorem memWf_answer {s : Hub} (h : memWf s.mem = true) (hd : Hdr) (op st : Nat) (p : List Byte) : memWf (s.answer hd op st p).mem = true :=
  memWf_sendResp (by exact h) _

theorem memWf_settleBoth {s : Hub} (h : memWf s.mem = true) : memWf s.settleBoth.mem = true := by
  unfold Hub.settleBoth
  dsimp only
  generalize (List.partition _ s.mbx.both).1 = xs
  have key : ∀ (f : Hub → Both → Hub), (∀ u b, memWf u.mem = true → memWf (f u b).mem = true) → ∀ (xs : List Both) (u : Hub),
      memWf u.mem = true → memWf (xs.foldl f u).mem = true := by
    intro f hf xs
    induction xs with
    | nil => intro u hu; exact hu
    | cons x xs ih => intro u hu; exact ih _ (hf _ _ hu)
  refine key _ (fun u b hu => ?_) xs _ (by exact h)
  have late : ∀ (hd : Hdr) (op st : Nat) (p : List Byte), memWf (u.answerLate hd op st p).mem = true := by
    intro hd op st p
    unfold Hub.answerLate
    split
    · exact hu
    · exact memWf_answer hu _ _ _ _
  split
  · split <;> exact late _ _ _ _
  · exact hu

/-- A fold over changes that keep the form keeps it. -/
theorem memWf_each {α : Type} (f : Hub → α → Hub) (hf : ∀ u x, memWf u.mem = true → memWf (f u x).mem = true) (xs : List α) :
    ∀ s : Hub, memWf s.mem = true → memWf (s.each xs f).mem = true := by
  induction xs with
  | nil => intro s h; exact h
  | cons x xs ih => intro s h; exact ih _ (hf _ _ h)

theorem memWf_bucketAdd {s : Hub} (h : memWf s.mem = true) (m addr requester : Nat) : memWf (s.bucketAdd m addr requester).mem = true := by
  have inc : memWf (s.incSat (ECC_CNT m) 31 16).mem = true := h
  unfold Hub.bucketAdd
  dsimp only
  generalize s.incSat (ECC_CNT m) 31 16 = u at inc ⊢
  split
  · have log := memWf_logErr (s := u.setFld (ECC_CNT m) 7 0 0) inc (if m = 15 then 5 else 1) requester m 0 addr
      { code := 0x1101, words := [m, (u.setFld (ECC_CNT m) 7 0 0).fld (ECC_CNT m) 31 16], rest := some [] }
    exact log
  · exact inc

theorem memWf_uncorrectable {s : Hub} (h : memWf s.mem = true) (m addr requester access : Nat) (extra : List Nat) :
    memWf (s.uncorrectable m addr requester access extra).mem = true :=
  memWf_logErr (s := (s.incSat (ECC_CNT m) 15 8).setBit ECC_STATUS m true) h _ _ _ _ _ _

theorem memWf_countFound {s : Hub} (h : memWf s.mem = true) (requester : Nat) (extra : List Nat) (found : List (Nat × EccOutcome)) :
    memWf (s.countFound requester extra found).mem = true := by
  refine memWf_each _ (fun u x hu => ?_) found s h
  split
  · exact hu
  · split
    · exact memWf_bucketAdd hu _ _ _
    · exact memWf_uncorrectable hu _ _ _ _ _

/-- A requester's write keeps the form, whether or not all of it is written. -/
theorem memWf_tryStore {s : Hub} (h : memWf s.mem = true) (requester : Nat) (extra : List Nat) (a : Nat) (bs : List Byte) :
    memWf (s.tryStore requester extra a bs).2.mem = true :=
  memWf_countFound (memWf_writeMemFuel _ h a bs) _ _ _

theorem memWf_storeMem {s : Hub} (h : memWf s.mem = true) (requester a : Nat) (bs : List Byte) : memWf (s.storeMem requester a bs).mem = true :=
  memWf_tryStore h requester [] a bs

/-- A consumer's read of an entry keeps the form. -/
theorem memWf_readEntry {s : Hub} (h : memWf s.mem = true) (n i requester : Nat) : memWf (s.readEntry n i requester).2.mem = true := by
  unfold Hub.readEntry
  dsimp only
  generalize ringAddr n (s.fld (SD_HEAD n) 15 0 + i) = a
  have hu : memWf (s.each [a, a + 8] fun s w => if eccCheck (s.eccAt w) = .corrected then s.bucketAdd 0 w requester else s).mem = true := by
    refine memWf_each _ (fun u x hu => ?_) _ s h
    split
    · exact memWf_bucketAdd hu _ _ _
    · exact hu
  generalize (s.each [a, a + 8] fun s w => if eccCheck (s.eccAt w) = .corrected then s.bucketAdd 0 w requester else s) = u at hu ⊢
  split
  · exact hu
  · exact memWf_uncorrectable (by exact memWf_sidMark hu n _) _ _ _ _ _

theorem memWf_takeItems (n requester f : Nat) : ∀ s : Hub, memWf s.mem = true → memWf (Hub.takeItems f s n requester).2.mem = true := by
  induction f with
  | zero => intro s h; simpa only [Hub.takeItems] using h
  | succ f ih =>
    intro s h
    have hr := memWf_readEntry h n 0 requester
    simp only [Hub.takeItems]
    split
    · exact h
    · revert hr
      rcases s.readEntry n 0 requester with ⟨b, u⟩
      intro hr
      cases b
      · exact ih _ hr
      · exact ih _ (memWf_sidPop hr n)

/-- An item that passes a siding keeps the form. -/
theorem memWf_passSiding {s : Hub} (h : memWf s.mem = true) (n requester : Nat) (it : Item) : memWf (s.passSiding n requester it).2.mem = true :=
  memWf_takeItems n requester 66 _ (memWf_sidQueue h n it)

theorem memWf_readWords {s : Hub} (h : memWf s.mem = true) (requester access : Nat) (as : List Nat) :
    memWf (s.readWords requester access as).2.mem = true := by
  unfold Hub.readWords
  dsimp only
  generalize hu : (s.each as fun s a => if eccCheck (s.eccAt a) = .corrected then
    s.bucketAdd (match memoryAt a with | some (m, _) => m | none => 0) a requester else s) = u
  have hm : memWf u.mem = true := by
    rw [← hu]
    refine memWf_each _ (fun u x hu => ?_) as s h
    split
    · exact memWf_bucketAdd hu _ _ _
    · exact hu
  split
  · exact memWf_uncorrectable hm _ _ _ _ _
  · exact hm

/-- Firmware's reading of the error log keeps the form. -/
theorem memWf_takeLog (f : Nat) : ∀ s : Hub, memWf s.mem = true → memWf (Hub.takeLog f s).mem = true := by
  induction f with
  | zero => intro s h; simpa only [Hub.takeLog] using h
  | succ f ih =>
    intro s h
    have hr := memWf_readEntry h 41 0 0
    simp only [Hub.takeLog]
    split
    · exact h
    · revert hr
      rcases s.readEntry 41 0 0 with ⟨b, u⟩
      intro hr
      cases b
      · exact ih u.fwFails hr
      · refine ih _ ?_
        have hp := memWf_sidPop hr 41
        split
        · exact hp
        · exact memWf_emit hp _ _
        · exact hp

theorem memWf_drainLog {s : Hub} (h : memWf s.mem = true) : memWf s.drainLog.mem = true := memWf_takeLog 128 s h

/-- The firewall's check keeps the form. -/
theorem memWf_violate {s : Hub} (h : memWf s.mem = true) (k a acc : Nat) : memWf (s.violate k a acc).mem = true := by
  have log := memWf_logErr (s := (s.setBit FW_STATUS k true).incSat FW_VIOLATIONS 31 0) h 0 k 0xFF acc a { code := 0x1103, words := [k, a, acc], rest := some [] }
  unfold Hub.violate
  dsimp only
  split
  · exact log
  · exact log

theorem memWf_reach {s : Hub} (h : memWf s.mem = true) (k a n acc : Nat) : memWf (s.reach k a n acc).2.mem = true := by
  unfold Hub.reach
  split
  · exact memWf_violate h _ _ _
  · exact h

/-- Two equal copies outvote the third (R398). -/
theorem majority_self (v x : Nat) : majority v v x = v := by
  unfold majority
  apply Nat.eq_of_testBit_eq
  intro i
  simp only [Nat.testBit_or, Nat.testBit_and]
  cases v.testBit i <;> cases x.testBit i <;> rfl

/-- The state after reset has the form. -/
theorem memWf_reset : memWf State.reset.mem = true := rfl

/-- The register file keeps its canonical form. -/
theorem twf_setReg {s : Hub} (h : twf regReset s.regs = true) (a v : Nat) : twf regReset (s.setReg a v).regs = true := twf_tset regReset h a _

/-- A siding with room takes the item at its end. -/
theorem items_sidQueue (s : Hub) (n : Nat) (it : Item) (h : s.count n < 64) :
    (s.sidQueue n it).items n =
      (s.writeMem (ringAddr n (s.fld (SD_TAIL n) 15 0)) (sidEntry n (s.fld (SD_TAIL n) 15 0) s.tt.crossing it)).items n ++ [it] := by
  unfold Hub.sidQueue Hub.sidPush Hub.sidAppend
  rw [if_pos h]
  dsimp only
  split <;> simp [Hub.items, Hub.setFld, Hub.setReg]

end Sys2Proof.Machine
end

