-- ==== Sys2Proof/Tests/Slice0.lean ====
section
/-! SUPPORT. Tests: for every statement that has hypotheses a state and operands that meet them, clause by clause; the terms that
WellFormed refuses; engine words written out from the spec's formats; and the values of the spec's worked examples. -/

namespace Sys2Proof.Tests

open Sys2Proof Sys2Proof.Machine

set_option maxRecDepth 4000
set_option Elab.async false
set_option linter.unusedVariables false

/-! ### Small states -/

/-- A header of source CSPI, and a run of engine 0 at its first instruction in frame 9. -/
def hd : Hdr := ⟨1, 1, 0, 0⟩
def tickIn : TickIn := { xo := 1, sub := 0, blank := false, trigIn := false, sealEn := false, partner := 0 }
def zeros (n : Nat) : List Byte := List.replicate n 0
def st (u : Hub) : State := { toHub := u }

/-- A hub in mode `m` with every domain up, the Assay engine ready, and these registers set. -/
def hub (m : Nat) (rs : List (Nat × Nat)) : Hub :=
  let u := ({ asy := { engine := 2 } } : Hub)
  rs.foldl (fun s (r : Nat × Nat) => s.setReg r.1 r.2) ((u.setReg RP_PD_STATUS 0x03FF03FF).setReg SYS_MODE m)

def gd0 : Guard := { p := 0, neg := false }
def run0 : FeRun := { n := 9, pc := 0, preds := [(1, true)] }

/-- A hub whose engine 0 is about to issue `ins` in the run `r`. -/
def engSt (ins : FeIns) (r : FeRun) : State :=
  let u : Hub := { hub 4 [(FE_COUNT 0, 2), (FE_STATE 0, 2)] with frame := 9, hist := [{ n := 9, mode := 4, samp := [(36, { lin := 50 }), (37, { lin := -7 })] }] }
  st ({ u with mem := memPuts [] 0x38000000 (leBytes 4 (feEncode ins)) }.setEng 0 { run := some r, v := [(1, 77), (17, -2147483648)] })
def cmd9 : Cmd := { port := 34, src := 1, seq := 9, op := 0x0101, flags := 0, target := 0, crc := 0, payload := [] }
def resp0 : Resp := { src := 1, seq := 9, op := 0x0101, status := 0, target := 0, crc := 0, disp := 0, payload := [] }
def dispSt : State := st { hub 4 [(LN_STATUS 2, 7)] with msh := { again := [{ typ := 2, bytes := [1, 2, 3, 4] }] } }
def dispItem : TxItem := { typ := 2, bytes := [1, 2, 3, 4] }
def dispNext : Hub := { dispSt.toHub with msh := {} }
def car : Car := { typ := 0, tm := false, ptr := 0, cseq := 0, payload := zeros 184 }
def carLevels : BitVec 1600 := BitVec.ofNat 1600 (packLevels (precode 0 (toLevels car.encode)))
/-- The SHA-256 of no bytes, and an unsigned image of two empty sections: its header with the CRC of R461, and its table. -/
def emptyDigest : List Byte := [227, 176, 196, 66, 152, 252, 28, 20, 154, 251, 244, 200, 153, 111, 185, 36, 39, 174, 65, 228, 100, 155, 147, 76, 164, 149, 153, 27, 120, 82, 184, 85]
def ulipaEntry (kind : Nat) (dest : Nat) : List Byte := leBytes 4 kind ++ leBytes 4 dest ++ leBytes 4 192 ++ zeros 20 ++ emptyDigest
def ulipa : List Byte := leBytes 4 0x41504C55 ++ leBytes 2 1 ++ leBytes 2 2 ++ leBytes 4 192 ++ zeros 48 ++ leBytes 4 3375704901 ++
  ulipaEntry 1 0x10000000 ++ ulipaEntry 2 0x38009000
def ulipaSection (index kind dest : Nat) : Section :=
  { index := index, kind := kind, packed := false, dest := dest, offset := 192, stored := 0, units := 0, digest := emptyDigest }
/-- A calibration run of quadrant 1 that has measured enough of channel 70 in range 1. -/
def calRunX : CalRun := { start := 5, named := true, stepFree := false, auto := false, phase := 3, ctrl := 0x3C103007, tStart := 3, tSum := 70, tCnt := 7 }
def calSt : State := st ((hub 4 []).setCalq 1 { run := some calRunX })
/-- Sixteen instructions: fifteen LDW, which cost two cycles each, and END. -/
def bigProg : List (Nat × Nat) := ((List.range 15).map fun i => (4 * i + 3, 0x14)) ++ [(63, 0xFC)]

/-- How an image's check is decided: the answer is this error, or these sections. -/
theorem error_of {x : Except ImageError (List Section)} {e : ImageError} (h : (match x with | .error y => decide (y = e) | .ok _ => false) = true) :
    x = .error e := by
  cases x <;> simp_all
theorem ok_of {x : Except ImageError (List Section)} {xs : List Section} (h : (match x with | .ok y => decide (y = xs) | .error _ => false) = true) :
    x = .ok xs := by
  cases x <;> simp_all

theorem refused_of {x : Except Nat Nat} {e : Nat} (h : (match x with | .error y => y == e | .ok _ => false) = true) : x = .error e := by
  cases x <;> simp_all

/-! ### Hypotheses that are met -/

theorem witness_QueueIsServedInOrder :
    ∃ (s : State), (s.pending = []) :=
  ⟨st (hub 2 []), by decide +kernel⟩

theorem witness_ResetLeavesTheSpecsValues :
    (∃ (n : Nat), (n < 256)) ∧
    (∃ (n : Nat), (n < 11)) ∧
    (∃ (g : Nat), (g < 8)) ∧
    (∃ (n : Nat), (n < 64)) :=
  ⟨⟨5, by decide +kernel⟩,
   ⟨5, by decide +kernel⟩,
   ⟨5, by decide +kernel⟩,
   ⟨5, by decide +kernel⟩⟩

theorem witness_FrameTickAdvancesCounters :
    (∃ (s : State) (h : Hdr) (p : List Byte), (Accepts s.toHub h 0x0305) ∧ (Alone s.toHub) ∧ (s.modeIn ttTurnModes = true) ∧ (p.length = 4) ∧ (plZero p 2 2 = true) ∧ (64 ≤ pl p 0 2)) ∧
    (∃ (s : State) (h : Hdr) (p : List Byte), (Accepts s.toHub h 0x0305) ∧ (Alone s.toHub) ∧ (s.modeIn ttTurnModes = true) ∧ (p.length = 4) ∧ (plZero p 2 2 = true) ∧ (pl p 0 2 < 64)) ∧
    (∃ (s : Hub) (i : TickIn), ((∀ m ∈ s.tt.markers, m.1 ≠ s.frame + 1)) ∧ (s.tt.crossing + 1 < s.turnLen)) ∧
    (∃ (s : Hub) (i : TickIn), ((∀ m ∈ s.tt.markers, m.1 ≠ s.frame + 1)) ∧ (s.turnLen ≤ s.tt.crossing + 1)) :=
  ⟨⟨st (hub 2 []), hd, [64, 0, 0, 0], by decide +kernel⟩,
   ⟨st (hub 2 []), hd, [63, 0, 0, 0], by decide +kernel⟩,
   ⟨(hub 2 []), tickIn, by decide +kernel⟩,
   ⟨{ hub 2 [] with tt := { crossing := 3199 } }, tickIn, by decide +kernel⟩⟩

theorem witness_FrameTicksAndMarkers :
    (∃ (s : State) (i : TickIn), (s.mode ≠ mDORMANT) ∧ (s.bit RP_PD_STATUS 1 = false)) ∧
    (∃ (s : State) (i : TickIn), (s.mode = mDORMANT)) ∧
    (∃ (s : State) (i : TickIn), (s.mode ≠ mDORMANT) ∧ (s.bit RP_PD_STATUS 1 = true)) ∧
    (∃ (s : State) (l : Fin 11) (n : BitVec 32), (s.clockLane = some l.val)) ∧
    (∃ (s : State) (l : Fin 11) (n : BitVec 32), (s.clockLane ≠ some l.val)) :=
  ⟨⟨st (hub 2 [(RP_PD_STATUS, 0)]), tickIn, by decide +kernel⟩,
   ⟨st (hub 0 []), tickIn, by decide +kernel⟩,
   ⟨st (hub 2 []), tickIn, by decide +kernel⟩,
   ⟨st (hub 2 []), 8, 5, by decide +kernel⟩,
   ⟨st (hub 2 []), 10, 5, by decide +kernel⟩⟩

theorem witness_TimetableCommands :
    (∃ (s : State) (h : Hdr) (p : List Byte), (Accepts s.toHub h 0x0301) ∧ (s.modeIn ttBankModes = true) ∧ (p.length = 4 + 4 * pl p 1 1) ∧ (1 ≤ pl p 1 1) ∧ (pl p 0 1 + pl p 1 1 ≤ 64) ∧ (plZero p 2 2 = true) ∧ ((∀ i < pl p 1 1, pl p (4 + 4 * i) 4 &&& slotMask = pl p (4 + 4 * i) 4 ∧ breaksR45 (pl p (4 + 4 * i) 4) = false))) ∧
    (∃ (s : State) (h : Hdr) (p : List Byte), (Accepts s.toHub h 0x0302) ∧ (s.modeIn ttBankModes = true) ∧ (p.length = 12) ∧ (pl p 0 1 ≤ 15) ∧ (plZero p 1 3 = true) ∧ (pl p 4 2 ≤ pl p 6 2) ∧ (pl p 8 4 &&& 0x80F7FF1F = pl p 8 4) ∧ (breaksR45 (pl p 8 4) = false)) ∧
    (∃ (s : State) (h : Hdr) (p : List Byte), (Accepts s.toHub h 0x0306) ∧ (Alone s.toHub) ∧ (s.modeIn ttBankModes = true) ∧ (p.length = 4) ∧ (plZero p 1 3 = true) ∧ ((if s.joined then 24 else 18) ≤ pl p 0 1) ∧ (pl p 0 1 ≤ 48)) ∧
    (∃ (s : State) (h : Hdr) (p : List Byte), (Accepts s.toHub h 0x0307) ∧ (s.modeIn ttClockModes = true) ∧ (p.length = 8) ∧ (plZero p 2 2 = true) ∧ (pl p 0 1 ≤ 2) ∧ (pl p 1 1 ≤ 1) ∧ (0x99999A ≤ pl p 4 4) ∧ (pl p 4 4 ≤ 0x1000000)) ∧
    (∃ (s : State) (h : Hdr) (p : List Byte), (Accepts s.toHub h 0x0304) ∧ (p.length = 4) ∧ (plZero p 3 1 = true) ∧ (pl p 0 1 ≤ 1) ∧ (1 ≤ pl p 2 1) ∧ (pl p 1 1 + pl p 2 1 ≤ 64)) ∧
    (∃ (s : State) (h : Hdr), (Accepts s.toHub h 0x0308)) :=
  ⟨⟨st (hub 2 []), hd, [62, 2, 0, 0, 21, 255, 7, 0, 3, 0, 0, 0], by decide +kernel⟩,
   ⟨st (hub 2 []), hd, [15, 0, 0, 0, 10, 0, 20, 0, 23, 255, 247, 128], by decide +kernel⟩,
   ⟨st (hub 2 []), hd, [18, 0, 0, 0], by decide +kernel⟩,
   ⟨st (hub 2 []), hd, [2, 1, 0, 0, 0, 0, 0, 1], by decide +kernel⟩,
   ⟨st (hub 2 []), hd, [1, 62, 2, 0], by decide +kernel⟩,
   ⟨st (hub 2 []), hd, by decide +kernel⟩⟩

theorem witness_PulseWithProveIsRefused :
    (∃ (s : State) (h : Hdr) (p : List Byte), (Accepts s.toHub h 0x0301) ∧ (p.length = 4 + 4 * pl p 1 1) ∧ ((∃ i < pl p 1 1, breaksR45 (pl p (4 + 4 * i) 4) = true))) ∧
    (∃ (s : State) (h : Hdr) (p : List Byte), (Accepts s.toHub h 0x0302) ∧ (p.length = 12) ∧ (breaksR45 (pl p 8 4) = true)) :=
  ⟨⟨st (hub 2 []), hd, [0, 2, 0, 0, 1, 0, 0, 0, 12, 0, 0, 0], by decide +kernel⟩,
   ⟨st (hub 2 []), hd, (List.replicate 8 0 ++ [12, 0, 0, 128]), by decide +kernel⟩⟩

theorem witness_TimetableSwap :
    (∃ (s : State) (h : Hdr), (Accepts s.toHub h 0x0303) ∧ (Alone s.toHub) ∧ (s.modeIn ttBankModes = true) ∧ (s.bit TT_STATUS 1 = false)) ∧
    (∃ (s : State), (s.modeIn ttBankModes = true)) ∧
    (∃ (s : State), (s.bit TT_STATUS 1 = true) ∧ (s.tt.crossing = 0) ∧ (s.tt.swapAsk < s.frame) ∧ (s.anyWinBad = false)) ∧
    (∃ (s : State), (s.bit TT_STATUS 1 = true) ∧ (s.tt.crossing = 0) ∧ (s.tt.swapAsk < s.frame) ∧ (s.anyWinBad = true)) ∧
    (∃ (s : State), (s.bit TT_STATUS 1 = false ∨ s.tt.crossing ≠ 0 ∨ s.frame ≤ s.tt.swapAsk)) :=
  ⟨⟨st (hub 2 []), hd, by decide +kernel⟩,
   ⟨st (hub 2 []), by decide +kernel⟩,
   ⟨st { hub 2 [(TT_STATUS, 2), (TT_SLOT 0, 5), (TT_WIN_RANGE 3, 0x100000)] with frame := 9 }, by decide +kernel⟩,
   ⟨st { hub 2 [(TT_STATUS, 2), (TT_WIN_RANGE 0, 5), (TT_WIN_ACT 0, 0x80000001)] with frame := 9 }, by decide +kernel⟩,
   ⟨st (hub 2 []), by decide +kernel⟩⟩

theorem witness_EffectiveAction :
    ∃ (s : Hub) (c t i : Nat), let slot := fun k => s.reg (if s.swapsNow then TT_SLOT k else TT_ACT_SLOT k); let range := fun k => s.reg (if s.swapsNow then TT_WIN_RANGE k else TT_ACT_WIN_RANGE k); let act := fun k => s.reg (if s.swapsNow then TT_WIN_ACT k else TT_ACT_WIN_ACT k); (bitAt slotMask i = true) :=
  ⟨(hub 5 [(TT_ACT_SLOT 1, 1), (TT_ACT_WIN_RANGE 2, 0x00500040), (TT_ACT_WIN_ACT 2, 0x80100006)]), 65, 4, 1, by decide +kernel⟩

theorem witness_ChannelSettings :
    (∃ (s : State) (h : Hdr) (p : List Byte), (Accepts s.toHub h 0x0401) ∧ (Alone s.toHub) ∧ (s.asy.engine = 2) ∧ (p.length = 68) ∧ (maskHigh p = 0) ∧ (pl p 64 1 ≤ 1) ∧ (plZero p 65 3 = true)) ∧
    (∃ (s : State) (h : Hdr) (p : List Byte), (Accepts s.toHub h 0x0402) ∧ (Alone s.toHub) ∧ (s.asy.engine = 2) ∧ (p.length = 4 + pl p 2 2) ∧ (1 ≤ pl p 2 2) ∧ (pl p 0 2 + pl p 2 2 ≤ 256)) ∧
    (∃ (s : State) (h : Hdr) (p : List Byte), (Accepts s.toHub h 0x0404) ∧ (Alone s.toHub) ∧ (s.asy.engine = 2) ∧ (p.length = 68) ∧ (maskHigh p = 0) ∧ ((pl p 64 1 = 0 ∨ pl p 64 1 = 4 ∨ pl p 64 1 = 5 ∨ pl p 64 1 = 6)) ∧ (plZero p 65 3 = true) ∧ (s.modeIn [mRUN, mPULSE] = false)) ∧
    (∃ (s : State) (h : Hdr) (p : List Byte), (Accepts s.toHub h 0x0406) ∧ (s.asy.engine = 2) ∧ (p.length = 4) ∧ (1 ≤ pl p 0 1) ∧ (pl p 0 1 ≤ 15) ∧ (1 ≤ pl p 1 1) ∧ (pl p 1 1 ≤ 8) ∧ (1 ≤ pl p 2 1) ∧ (pl p 2 1 ≤ 15) ∧ (1 ≤ pl p 3 1) ∧ (s.modeIn [mRUN, mPULSE] = false)) ∧
    (∃ (s : State) (h : Hdr) (p : List Byte), (Accepts s.toHub h 0x0403) ∧ (Alone s.toHub) ∧ (s.asy.engine = 2) ∧ (p.length = 4 + pl p 2 2) ∧ (1 ≤ pl p 2 2) ∧ (pl p 0 2 + pl p 2 2 ≤ 256) ∧ ((∀ i < pl p 2 2, -32 ≤ toS 8 (pl p (4 + i) 1) ∧ toS 8 (pl p (4 + i) 1) ≤ 31)) ∧ (s.modeIn [mRUN, mPULSE] = false)) :=
  ⟨⟨st (hub 2 []), hd, ([9] ++ List.replicate 24 0 ++ [1] ++ List.replicate 42 0), by decide +kernel⟩,
   ⟨st (hub 2 []), hd, [254, 0, 2, 0, 100, 200], by decide +kernel⟩,
   ⟨st (hub 2 []), hd, ([9] ++ List.replicate 24 0 ++ [1] ++ List.replicate 38 0 ++ [6, 0, 0, 0]), by decide +kernel⟩,
   ⟨st (hub 2 []), hd, [15, 8, 15, 255], by decide +kernel⟩,
   ⟨st (hub 2 []), hd, [0, 0, 2, 0, 224, 31], by decide +kernel⟩⟩

theorem witness_ChannelResetAndReads :
    (∃ (s : State) (h : Hdr) (p : List Byte), (Accepts s.toHub h 0x0405) ∧ (Alone s.toHub) ∧ (s.asy.engine = 2) ∧ (p.length = 68) ∧ (maskHigh p = 0) ∧ (1 ≤ pl p 64 1) ∧ (pl p 64 1 ≤ 8) ∧ (plZero p 65 3 = true) ∧ (s.mode ≠ mIDLE)) ∧
    (∃ (s : State) (h : Hdr) (p : List Byte), (Accepts s.toHub h 0x0407) ∧ (Alone s.toHub) ∧ (p.length = 4) ∧ (1 ≤ pl p 2 2) ∧ (pl p 0 2 + pl p 2 2 ≤ 256)) ∧
    (∃ (s : State) (h : Hdr), (Accepts s.toHub h 0x0408)) :=
  ⟨⟨st (hub 7 []), hd, ([9] ++ List.replicate 24 0 ++ [1] ++ List.replicate 38 0 ++ [8, 0, 0, 0]), by decide +kernel⟩,
   ⟨st (hub 2 []), hd, [10, 0, 2, 0], by decide +kernel⟩,
   ⟨st (hub 2 []), hd, by decide +kernel⟩⟩

theorem witness_ChannelEvents :
    (∃ (s : State) (n : Fin 256), (1 ≤ (s.chan n.val).h) ∧ (1 ≤ (s.chan n.val).dn) ∧ (s.afld AFE_CTRL 3 0 ≤ (s.chan n.val).dn)) ∧
    (∃ (s : State) (n : Fin 256), (s.bit (AFE_CH_STAT n.val) 18 = true) ∧ ((s.chan n.val).closeTo ≤ s.frame)) ∧
    (∃ (s : State) (n : Fin 256), ((s.chan n.val).enTo ≠ 0) ∧ ((s.chan n.val).enTo ≤ s.frame)) ∧
    (∃ (s : State) (n : Fin 256) (f : Nat), ((s.chan n.val).rampNext = some f) ∧ (f ≤ s.frame) ∧ (s.bit PAIR_STATUS 15 = false) ∧ (s.fld (AFE_CH_STAT n.val) 31 24 ≠ s.fld (AFE_CH_CFG n.val) 15 8)) :=
  ⟨⟨st { hub 4 [] with chans := [(3, { h := 2, dn := 15 })] }, 3, by decide +kernel⟩,
   ⟨st { hub 4 [(AFE_CH_STAT 3, 0x40000)] with frame := 50, chans := [(3, { closeTo := 50 })] }, 3, by decide +kernel⟩,
   ⟨st { hub 4 [] with frame := 50, chans := [(3, { enTo := 50 })] }, 3, by decide +kernel⟩,
   ⟨st { hub 4 [(AFE_CH_CFG 3, 0x8101), (AFE_CH_STAT 3, 0x7F000000)] with frame := 50, chans := [(3, { rampNext := some 50 })] }, 3, 50, by decide +kernel⟩⟩

theorem witness_ConversionMarksEveryChannel :
    ∃ (s : State) (k : Fin 4) (xs : List SampleIn), (s.hist ≠ []) :=
  ⟨st { hub 4 [] with hist := [{}], quads := [(0, { on := true })], act := [(AFE_CH_CFG 2, 0x8000)] }, 1, [quietIn 0, quietIn 2], by decide +kernel⟩

theorem witness_RangeSelection :
    (∃ (s : Hub) (n k : Nat) (x : SampleIn) (m : Nat), let v := s.convert n k x; (s.fixedRange n = none) ∧ (s.forcedRange n = none) ∧ (inMinRange x = some m)) ∧
    (∃ (s : Hub) (n k : Nat) (x : SampleIn) (m : Nat), let v := s.convert n k x; ∃ (r : Nat), (s.fixedRange n = none) ∧ (s.forcedRange n = none) ∧ (inMinRange x = some m) ∧ (r < m)) ∧
    (∃ (s : Hub) (n k : Nat) (x : SampleIn) (m : Nat), let v := s.convert n k x; (s.fixedRange n = none) ∧ (s.forcedRange n = none) ∧ (inMinRange x = some m) ∧ (v.samp.mark = 7)) ∧
    (∃ (s : Hub) (n k : Nat) (x : SampleIn) (m : Nat), let v := s.convert n k x; (s.fixedRange n = none) ∧ (s.forcedRange n = none) ∧ (inMinRange x = some m) ∧ (v.samp.mark ≠ 7)) :=
  ⟨⟨{ hub 4 [] with hist := [{}], quads := [(0, { on := true })] }, 3, 1, { ch := 3, held := (5, 5, 5), code := (9000, 8300, 8200), other := (8192, 8192, 8192) }, 0, by decide +kernel⟩,
   ⟨{ hub 4 [] with hist := [{}], quads := [(0, { on := true })] }, 3, 1, { ch := 3, held := (40000, 5, 5), code := (9000, 8300, 8200), other := (8192, 8192, 8192) }, 1, 0, by decide +kernel⟩,
   ⟨{ hub 4 [] with hist := [{}], quads := [(0, { on := true })] }, 3, 1, { ch := 3, held := (5, 5, 5), code := (9000, 8300, 8200), other := (8192, 8192, 8192) }, 0, by decide +kernel⟩,
   ⟨{ hub 4 [] with hist := [{ blank := true, mode := 4 }], quads := [(0, { on := true })] }, 3, 1, { ch := 3, held := (5, 5, 5), code := (9000, 8300, 8200), other := (8192, 8192, 8192) }, 0, by decide +kernel⟩⟩

theorem witness_SpareAdcHandover :
    (∃ (s : State) (q : Fin 4), ((s.quad q.val).on = true) ∧ ((s.quad q.val).conn = none) ∧ ((s.quad q.val).calDone = true) ∧ (s.bit CAL_CTRL 1 = true) ∧ (s.bit (AFE_ADC_MAP q.val) 15 = false) ∧ (s.calRunning q.val = false) ∧ (s.now.warn = false) ∧ (1024 * (s.quad q.val).period ≤ (s.quad q.val).timer)) ∧
    (∃ (s : State) (q : Fin 4), ((s.quad q.val).conn.isSome = true) ∧ (64 ≤ (s.quad q.val).agree) ∧ (s.resting q.val < 64) ∧ (s.bit (AFE_ADC_MAP q.val) 7 = false)) ∧
    (∃ (s : State) (q : Fin 4), ((s.quad q.val).conn.isSome = true) ∧ (64 ≤ (s.quad q.val).agree) ∧ (1 ≤ s.resting q.val) ∧ (s.resting q.val ≤ 64) ∧ (s.bit (AFE_ADC_MAP q.val) 7 = true)) ∧
    (∃ (s : State) (q : Fin 4) (f : Nat), ((s.quad q.val).conn = some f) ∧ ((s.quad q.val).agree < 64) ∧ (f + 1024 ≤ s.frame)) ∧
    (∃ (s : State) (q : Fin 4) (r : AdcCalIn) (f : Nat), let ofs := rdiv (16 * ((r.codes : Int) - 4096 * 8192)) 4096; ((s.quad q.val).calStart = some f) ∧ ((s.quad q.val).on = true) ∧ ((s.quad q.val).calDone = false) ∧ (f + 40960 ≤ s.frame) ∧ (s.bit (AFE_ADC_MAP q.val) 15 = false) ∧ ((∃ g ∈ r.gains, g.natAbs ≤ imgGet s.asy.imgAct 0x320 2)) ∧ (ofsPlausible ofs = true) ∧ ((ofs - ofsOf s.asy.imgAct q.val (s.resting q.val)).natAbs ≤ imgGet s.asy.imgAct 0x31E 2)) ∧
    (∃ (s : State) (q : Fin 4) (r : AdcCalIn), (s.bit (AFE_ADC_MAP q.val) 15 = true)) :=
  ⟨⟨st { hub 4 [(CAL_CTRL, 0x3C103007), (RP_SUPPLY, 0x100)] with frame := 70, quads := [(1, { on := true, calDone := true, timer := 65536 })] }, 1, by decide +kernel⟩,
   ⟨st { hub 4 [(AFE_ADC_MAP 1, 5)] with frame := 70, quads := [(1, { on := true, conn := some 5, agree := 64 })] }, 1, by decide +kernel⟩,
   ⟨st { hub 4 [(AFE_ADC_MAP 1, 0x85)] with frame := 70, quads := [(1, { on := true, conn := some 4, agree := 64 })] }, 1, by decide +kernel⟩,
   ⟨st { hub 4 [] with frame := 1200, quads := [(1, { on := true, conn := some 5, agree := 3 })] }, 1, 5, by decide +kernel⟩,
   ⟨st { hub 4 [] with frame := 50000, quads := [(1, { on := true, calStart := some 5 })] }, 1, { offsets := [], dnl := [], gains := [0], codes := 33556992 }, 5, by decide +kernel⟩,
   ⟨st (hub 4 [(AFE_ADC_MAP 1, 0x8000)]), 1, { offsets := [], dnl := [], gains := [0], codes := 33556992 }, by decide +kernel⟩⟩

theorem witness_AssayReads :
    (∃ (s : State) (h : Hdr), (Accepts s.toHub h 0x1001) ∧ (s.asy.engine = 2)) ∧
    (∃ (s : State) (h : Hdr) (p : List Byte), (Accepts s.toHub h 0x1001) ∧ (p ≠ [])) ∧
    (∃ (s : State) (h : Hdr), (Accepts s.toHub h 0x1002) ∧ (s.asy.engine = 2)) ∧
    (∃ (s : State) (h : Hdr) (p : List Byte), (Accepts s.toHub h 0x1007) ∧ (s.asy.engine = 2) ∧ (s.asy.storing = none) ∧ (p.length = 6) ∧ (pl p 0 1 ≤ 1) ∧ (plZero p 1 1 = true) ∧ (1 ≤ pl p 4 2) ∧ (pl p 4 2 ≤ 1024) ∧ (pl p 2 2 + pl p 4 2 ≤ 0x1738)) ∧
    (∃ (s : State) (h : Hdr) (b : Nat), (Accepts s.toHub h 0x1008) ∧ (s.asy.engine = 2) ∧ (s.asy.bankInUse = some b)) :=
  ⟨⟨st (hub 2 []), hd, by decide +kernel⟩,
   ⟨st (hub 2 []), hd, [1], by decide +kernel⟩,
   ⟨st (hub 2 []), hd, by decide +kernel⟩,
   ⟨st (hub 2 []), hd, [1, 0, 48, 23, 8, 0], by decide +kernel⟩,
   ⟨st { hub 2 [] with asy := { engine := 2, bankInUse := some 1 } }, hd, 1, by decide +kernel⟩⟩

theorem witness_SealOpensAndCloses :
    (∃ (s : State) (h : Hdr) (p : List Byte), (Accepts s.toHub h 0x1003) ∧ (s.asy.engine = 2) ∧ (p.length = 128) ∧ (2 ≤ s.asy.sealEnRun) ∧ (s.asy.sealSt ≠ 1) ∧ (s.asy.otp < 32) ∧ (s.modeIn [mIDLE, mPREPARE, mHOLD, mTEST] = true)) ∧
    (∃ (s : State) (h : Hdr) (p : List Byte), (Accepts s.toHub h 0x1003) ∧ (s.asy.engine = 2) ∧ (p.length = 128) ∧ (s.asy.sealEnRun < 2)) ∧
    (∃ (s : State) (h : Hdr), (Accepts s.toHub h 0x1004) ∧ (s.asy.engine = 2) ∧ (s.asy.sealSt = 1) ∧ (s.asy.storing = none) ∧ (s.bit RP_SUPPLY 8 = false)) ∧
    (∃ (s : State), (s.mode = mLOADING)) ∧
    (∃ (s : State), (s.mode ≠ mLOADING) ∧ (s.asy.sealSt = 1) ∧ (s.asy.sealEn = false)) ∧
    (∃ (s : State) (n t0 otp : Nat), (s.asy.nonce = some (n, (t0, otp))) ∧ (t0 + 40000000 ≤ s.xo)) :=
  ⟨⟨st { hub 2 [] with asy := { engine := 2, sealEnRun := 2, sealSt := 0 } }, hd, zeros 128, by decide +kernel⟩,
   ⟨st { hub 2 [] with asy := { engine := 2, sealEnRun := 1, sealSt := 0 } }, hd, zeros 128, by decide +kernel⟩,
   ⟨st { hub 2 [] with asy := { engine := 2, sealSt := 1 } }, hd, by decide +kernel⟩,
   ⟨st (hub 1 []), by decide +kernel⟩,
   ⟨st { hub 2 [] with asy := { engine := 2, sealSt := 1 } }, by decide +kernel⟩,
   ⟨st { hub 2 [] with xo := 40000000, asy := { engine := 2, nonce := some (5, (0, 3)) } }, 5, 0, 3, by decide +kernel⟩⟩

theorem witness_ReferenceBlockWrites :
    (∃ (s : State) (h : Hdr) (p : List Byte), (Accepts s.toHub h 0x1005) ∧ (s.asy.engine = 2) ∧ (p.length = 4 + pl p 2 2) ∧ (1 ≤ pl p 2 2) ∧ (pl p 0 2 + pl p 2 2 ≤ 1024) ∧ (s.asy.sealSt = 1)) ∧
    (∃ (s : State) (h : Hdr) (p : List Byte), (Accepts s.toHub h 0x1005) ∧ (s.asy.engine = 2) ∧ (p.length = 4 + pl p 2 2) ∧ (1 ≤ pl p 2 2) ∧ (pl p 0 2 + pl p 2 2 ≤ 1024) ∧ (s.asy.sealSt ≠ 1)) ∧
    (∃ (s : State) (h : Hdr) (p : List Byte), (Defers s.toHub h 0x1005) ∧ (s.asy.engine ≠ 2) ∧ (p.length = 4 + pl p 2 2)) ∧
    (∃ (s : State) (i : Fin 256) (w : BitVec 32), (s.mode ≠ mLOADING) ∧ (s.asy.engine = 2) ∧ (s.asy.sealSt = 1)) ∧
    (∃ (s : State) (i : Fin 256) (w : BitVec 32), (s.asy.sealSt ≠ 1 ∨ s.mode = mLOADING ∨ s.asy.engine ≠ 2)) :=
  ⟨⟨st { hub 2 [] with asy := { engine := 2, sealSt := 1 } }, hd, [254, 3, 2, 0, 7, 8], by decide +kernel⟩,
   ⟨st { hub 2 [] with asy := { engine := 2, sealSt := 0 } }, hd, [254, 3, 2, 0, 7, 8], by decide +kernel⟩,
   ⟨st { hub 2 [] with asy := { engine := 3, sealSt := 1 } }, hd, [254, 3, 2, 0, 7, 8], by decide +kernel⟩,
   ⟨st { hub 2 [] with asy := { engine := 2, sealSt := 1 } }, 255, 0x12345678, by decide +kernel⟩,
   ⟨st { hub 2 [] with asy := { engine := 3, sealSt := 1 } }, 255, 0x12345678, by decide +kernel⟩⟩

theorem witness_AssayStores :
    (∃ (s : State) (h : Hdr), (Accepts s.toHub h 0x1006) ∧ (s.asy.engine = 2) ∧ (s.storeDeferred = false)) ∧
    (∃ (s : State), (s.mode ≠ mLOADING) ∧ (s.asy.pending = true) ∧ (s.storeDeferred = false)) ∧
    (∃ (s : State) (x : Store), (s.mode ≠ mLOADING) ∧ (s.asy.storing = some x)) ∧
    (∃ (s : State) (x : Store), (s.mode ≠ mLOADING) ∧ (s.asy.storing = some x) ∧ (x.retried = false)) ∧
    (∃ (s : State) (x : Store), (s.mode ≠ mLOADING) ∧ (s.asy.storing = some x) ∧ (x.retried = true)) ∧
    (∃ (s : State) (d : Def), (s.mbx.deferred = [d]) ∧ (waitsAssay d = true) ∧ (d.since + 40000 ≤ s.xo) ∧ (s.bit PAIR_STATUS 15 = false) ∧ (s.mbx.both = [])) :=
  ⟨⟨st (hub 2 []), hd, by decide +kernel⟩,
   ⟨st { hub 2 [] with asy := { engine := 2, pending := true } }, by decide +kernel⟩,
   ⟨st { hub 2 [] with asy := { engine := 2, storing := some { kind := 1, bank := 1, seq := 3, image := [(0, 5)], retried := false } } }, { kind := 1, bank := 1, seq := 3, image := [(0, 5)], retried := false }, by decide +kernel⟩,
   ⟨st { hub 2 [] with asy := { engine := 2, storing := some { kind := 0, bank := 1, seq := 3, image := [(0, 5)], retried := false } } }, { kind := 0, bank := 1, seq := 3, image := [(0, 5)], retried := false }, by decide +kernel⟩,
   ⟨st { hub 2 [] with asy := { engine := 2, storing := some { kind := 0, bank := 1, seq := 3, image := [(0, 5)], retried := true } } }, { kind := 0, bank := 1, seq := 3, image := [(0, 5)], retried := true }, by decide +kernel⟩,
   ⟨st { hub 2 [] with xo := 40000, mbx := { deferred := [{ hdr := hd, op := 0x1006, arg := 1, payload := [], since := 0 }] } }, { hdr := hd, op := 0x1006, arg := 1, payload := [], since := 0 }, by decide +kernel⟩⟩

theorem witness_Calibration :
    (∃ (s : State) (h : Hdr) (p : List Byte), (Accepts s.toHub h 0x1201) ∧ (s.asy.engine = 2) ∧ (p.length = 4) ∧ (1 ≤ pl p 0 1) ∧ (pl p 0 1 ≤ 15) ∧ (pl p 1 1 ≤ 1) ∧ (plZero p 2 2 = true) ∧ ((∀ q < 4, bitAt (pl p 0 1) q = true → (s.calq q).run = none)) ∧ (s.modeIn calModes = true)) ∧
    (∃ (s : State) (h : Hdr) (p : List Byte), (Accepts s.toHub h 0x1202) ∧ (s.asy.engine = 2) ∧ (p.length = 4) ∧ (pl p 0 1 ≤ 15) ∧ (plZero p 1 3 = true)) ∧
    (∃ (s : State) (h : Hdr) (p : List Byte), (Accepts s.toHub h 0x1203) ∧ (s.asy.engine = 2) ∧ (p.length = 8) ∧ (8 ≤ pl p 0 1) ∧ (1 ≤ pl p 1 1) ∧ (pl p 1 1 ≤ 31) ∧ (48 ≤ pl p 6 2) ∧ (pl p 2 1 ≤ 7)) ∧
    (∃ (s : State) (h : Hdr), (Accepts s.toHub h 0x1204)) ∧
    (∃ (s : State), (s.modeIn calModes = true) ∧ ((∀ q < 4, (s.calq q).run = none)) ∧ ((∃ q < 4, s.calStarts q = true))) ∧
    (∃ (s : State) (q : Fin 4) (r : CalRun), ((s.calq q.val).run = some r) ∧ (3 ≤ r.phase ∨ r.ended.isSome = true)) ∧
    (∃ (s : State) (q : Fin 4) (r : CalRun), ((s.calq q.val).run = some r) ∧ (r.phase < 3) ∧ (r.ended = none) ∧ (r.start + 2 ^ 20 ≤ s.frame)) ∧
    (∃ (s : State) (q : Fin 4) (x : CalRun), let fails := ((s.calChannels q.val).filter fun n => !s.calPasses x n).length; ((s.calq q.val).run = some x) ∧ (3 ≤ x.phase) ∧ (x.ended = none)) :=
  ⟨⟨st (hub 4 []), hd, [5, 1, 0, 0], by decide +kernel⟩,
   ⟨st (hub 4 []), hd, [15, 0, 0, 0], by decide +kernel⟩,
   ⟨st (hub 4 []), hd, [8, 31, 7, 3, 0, 1, 48, 0], by decide +kernel⟩,
   ⟨st (hub 2 []), hd, by decide +kernel⟩,
   ⟨st { hub 4 [] with quads := [(1, { on := true })], calQ := [(1, { asked := some true })] }, by decide +kernel⟩,
   ⟨st { hub 4 [] with calQ := [(1, { run := some { start := 5, named := true, stepFree := false, auto := false, tStart := 3, ended := some 1 } })] }, 1, { start := 5, named := true, stepFree := false, auto := false, tStart := 3, ended := some 1 }, by decide +kernel⟩,
   ⟨st { hub 4 [] with frame := 2000000, calQ := [(1, { run := some { start := 5, named := true, stepFree := false, auto := false, tStart := 3 } })] }, 1, { start := 5, named := true, stepFree := false, auto := false, tStart := 3 }, by decide +kernel⟩,
   ⟨calSt, 1, calRunX, by decide +kernel⟩⟩

theorem witness_FilterCommands :
    (∃ (s : State) (h : Hdr) (p : List Byte), (Accepts s.toHub h 0x0501) ∧ (p.length = 4) ∧ (pl p 0 1 ≠ 0) ∧ (pl p 1 1 ≤ 1) ∧ (pl p 2 1 ≤ 2) ∧ (pl p 3 1 ≤ 2) ∧ (s.modeIn [mLOADING, mRUN, mPULSE] = false) ∧ ((∀ g < 8, bitAt (pl p 0 1) g = true → s.bit FLT_STATUS (16 + g) = false)) ∧ ((s.rateRises (pl p 0 1) (pl p 1 1) = false ∨ s.admitsRate (pl p 0 1) (pl p 1 1) = true))) ∧
    (∃ (s : State) (h : Hdr) (p : List Byte), let n := if pl p 2 1 = 0 then 6 else 3; let base := (if pl p 1 1 = 0 then 0 else 9) + (if pl p 2 1 = 0 then 0 else 6); (Accepts s.toHub h 0x0502) ∧ (pl p 0 1 ≠ 0) ∧ (pl p 1 1 ≤ 1) ∧ (pl p 2 1 ≤ 1) ∧ (plZero p 3 1 = true) ∧ (p.length = 4 + 4 * n) ∧ ((∀ i < n, -131072 ≤ toS 32 (pl p (4 + 4 * i) 4) ∧ toS 32 (pl p (4 + 4 * i) 4) ≤ 131071)) ∧ (s.bankBusy (pl p 0 1) = false)) ∧
    (∃ (s : State) (h : Hdr) (p : List Byte), (Accepts s.toHub h 0x0503) ∧ (p.length = 68) ∧ (pl p 0 1 ≠ 0) ∧ (plZero p 2 2 = true) ∧ ((∀ i < 16, -131072 ≤ toS 32 (pl p (4 + 4 * i) 4) ∧ toS 32 (pl p (4 + 4 * i) 4) ≤ 131071)) ∧ (s.bankBusy (pl p 0 1) = false)) ∧
    (∃ (s : State) (h : Hdr) (p : List Byte), (Accepts s.toHub h 0x0504) ∧ (p.length = 4) ∧ (pl p 0 1 ≠ 0) ∧ (plZero p 1 3 = true) ∧ (s.modeIn swapModes = true) ∧ (s.bankBusy (pl p 0 1) = false)) ∧
    (∃ (s : State) (m : BitVec 8), (m ≠ 0) ∧ (s.modeIn swapModes = true) ∧ (s.bankBusy m.toNat = false)) ∧
    (∃ (s : State) (g : Nat), (g < 8) ∧ ((s.flt g).swapAt = some s.frame) ∧ ((∀ k < 8, k ≠ g → (s.flt k).swapAt = none)) ∧ ((s.crossAt (s.frame - 4)).1 < 65536)) ∧
    (∃ (s : State) (g w f : Nat), (g < 8) ∧ ((s.flt g).cfgAt = some (w, f)) ∧ (f ≤ s.frame) ∧ ((∀ k < 8, k ≠ g → (s.flt k).cfgAt = none))) ∧
    (∃ (s : State) (h : Hdr) (p : List Byte), (Accepts s.toHub h 0x0505) ∧ (p.length = 4) ∧ (pl p 0 1 ≤ 7) ∧ (pl p 1 1 ≤ 1) ∧ (plZero p 2 2 = true)) ∧
    (∃ (s : State) (h : Hdr), (Accepts s.toHub h 0x0506)) :=
  ⟨⟨st (hub 2 []), hd, [3, 1, 2, 2], by decide +kernel⟩,
   ⟨st (hub 2 []), hd, [2, 1, 1, 0, 5, 0, 0, 0, 0, 0, 254, 255, 255, 255, 1, 0], by decide +kernel⟩,
   ⟨st (hub 2 []), hd, [129, 9, 0, 0, 1, 0, 0, 0, 2, 0, 0, 0, 3, 0, 0, 0, 4, 0, 0, 0, 5, 0, 0, 0, 6, 0, 0, 0, 7, 0, 0, 0, 8, 0, 0, 0, 9, 0, 0, 0, 10, 0, 0, 0, 11, 0, 0, 0, 12, 0, 0, 0, 13, 0, 0, 0, 14, 0, 0, 0, 15, 0, 0, 0, 16, 0, 0, 0], by decide +kernel⟩,
   ⟨st (hub 2 []), hd, [5, 0, 0, 0], by decide +kernel⟩,
   ⟨st (hub 2 []), 5, by decide +kernel⟩,
   ⟨st { hub 6 [(FLT_STATUS, 4)] with frame := 50, flts := [(2, { swapAt := some 50 })] }, 2, by decide +kernel⟩,
   ⟨st { hub 6 [(FLT_STATUS, 0x40000)] with frame := 50, flts := [(2, { cfgAt := some (0x25, 50) })] }, 2, 0x25, 50, by decide +kernel⟩,
   ⟨st (hub 2 []), hd, [7, 1, 0, 0], by decide +kernel⟩,
   ⟨st (hub 2 []), hd, by decide +kernel⟩⟩

theorem witness_AdmissionRule :
    (∃ (turnLen lanes : Nat) (rate allow : Nat → Nat), (turnLen ≠ 0)) ∧
    (∃ (lanes : Nat), (lanes % 64 ≠ 0)) ∧
    (∃ (turnLen lanes : Nat) (rate allow : Nat → Nat), ((∀ g < 8, rate g = 0 ∧ allow g = 0)) ∧ (turnLen ≠ 0)) :=
  ⟨⟨3200, 63, fun g => g % 2, fun g => 3 * g, by decide +kernel⟩,
   ⟨44, by decide +kernel⟩,
   ⟨3200, 63, fun _ => 0, fun _ => 0, by decide +kernel⟩⟩

theorem witness_EngineSaturatingResults :
    (∃ (s : State) (g : Fin 8) (r : FeRun) (gd : Guard) (d : Fin 16) (a b : FeSrc) (imm : BitVec 13) (sh : Fin 32), let x := fun l => s.feSrc g.val l (s.eng g.val) r a; let y := fun l => s.feSrc g.val l (s.eng g.val) r b; (Issues s.toHub g.val r (.add gd d a b))) ∧
    (∃ (s : State) (g : Fin 8) (r : FeRun) (gd : Guard) (d : Fin 16) (a b : FeSrc) (imm : BitVec 13) (sh : Fin 32), let x := fun l => s.feSrc g.val l (s.eng g.val) r a; let y := fun l => s.feSrc g.val l (s.eng g.val) r b; (Issues s.toHub g.val r (.sub gd d a b))) ∧
    (∃ (s : State) (g : Fin 8) (r : FeRun) (gd : Guard) (d : Fin 16) (a b : FeSrc) (imm : BitVec 13) (sh : Fin 32), let x := fun l => s.feSrc g.val l (s.eng g.val) r a; let y := fun l => s.feSrc g.val l (s.eng g.val) r b; (Issues s.toHub g.val r (.addi gd d a imm))) ∧
    (∃ (s : State) (g : Fin 8) (r : FeRun) (gd : Guard) (d : Fin 16) (a b : FeSrc) (imm : BitVec 13) (sh : Fin 32), let x := fun l => s.feSrc g.val l (s.eng g.val) r a; let y := fun l => s.feSrc g.val l (s.eng g.val) r b; (Issues s.toHub g.val r (.mul gd d a b))) ∧
    (∃ (s : State) (g : Fin 8) (r : FeRun) (gd : Guard) (d : Fin 16) (a b : FeSrc) (imm : BitVec 13) (sh : Fin 32), let x := fun l => s.feSrc g.val l (s.eng g.val) r a; let y := fun l => s.feSrc g.val l (s.eng g.val) r b; (Issues s.toHub g.val r (.mulsh gd d a b sh))) ∧
    (∃ (s : State) (g : Fin 8) (r : FeRun) (gd : Guard) (d : Fin 16) (a b : FeSrc) (imm : BitVec 13) (sh : Fin 32), let x := fun l => s.feSrc g.val l (s.eng g.val) r a; let y := fun l => s.feSrc g.val l (s.eng g.val) r b; (Issues s.toHub g.val r (.abs gd d a))) ∧
    (∃ (s : State) (g : Fin 8) (r : FeRun) (gd : Guard) (d : Fin 16) (a b : FeSrc) (imm : BitVec 13) (sh : Fin 32), let x := fun l => s.feSrc g.val l (s.eng g.val) r a; let y := fun l => s.feSrc g.val l (s.eng g.val) r b; (Issues s.toHub g.val r (.shl gd d a sh))) ∧
    (∃ (s : State) (g : Fin 8) (r : FeRun) (gd : Guard) (d : Fin 16) (a b : FeSrc) (imm m : BitVec 13) (imm18 : BitVec 18) (k : Fin 252) (j slot : Fin 16) (i sh first cnt : Fin 32) (edge tv : Bool) (pd pa pb ts : Fin 8) (fn uq : Fin 4) (n : BitVec 8), let x := fun l => s.feSrc g.val l (s.eng g.val) r a; let y := fun l => s.feSrc g.val l (s.eng g.val) r b; let w := fun l i => s.window (32 * g.val + l) r.n i; let never := fun (_ : Nat) => false; let past := fun (v : Nat → Int) (l : Nat) => decide (v l < -2147483648) || decide (2147483647 < v l); let reads := fun ins => ∀ a ∈ feReads g.val r ins, eccCheck (s.eccAt a) ≠ .uncorrectable; let pair := fun l i => match w l (i + 1), w l i with | some p, some q => interpPair (x l) p q edge | _, _ => none; (FetchesNext s.toHub g.val r) ∧ (Issues s.toHub g.val r (.mov gd d a))) ∧
    (∃ (s : State) (g : Fin 8) (r : FeRun) (gd : Guard) (d : Fin 16) (a b : FeSrc) (imm m : BitVec 13) (imm18 : BitVec 18) (k : Fin 252) (j slot : Fin 16) (i sh first cnt : Fin 32) (edge tv : Bool) (pd pa pb ts : Fin 8) (fn uq : Fin 4) (n : BitVec 8), let x := fun l => s.feSrc g.val l (s.eng g.val) r a; let y := fun l => s.feSrc g.val l (s.eng g.val) r b; let w := fun l i => s.window (32 * g.val + l) r.n i; let never := fun (_ : Nat) => false; let past := fun (v : Nat → Int) (l : Nat) => decide (v l < -2147483648) || decide (2147483647 < v l); let reads := fun ins => ∀ a ∈ feReads g.val r ins, eccCheck (s.eccAt a) ≠ .uncorrectable; let pair := fun l i => match w l (i + 1), w l i with | some p, some q => interpPair (x l) p q edge | _, _ => none; (FetchesNext s.toHub g.val r) ∧ (Issues s.toHub g.val r (.movi gd d imm18))) ∧
    (∃ (s : State) (g : Fin 8) (r : FeRun) (gd : Guard) (d : Fin 16) (a b : FeSrc) (imm m : BitVec 13) (imm18 : BitVec 18) (k : Fin 252) (j slot : Fin 16) (i sh first cnt : Fin 32) (edge tv : Bool) (pd pa pb ts : Fin 8) (fn uq : Fin 4) (n : BitVec 8), let x := fun l => s.feSrc g.val l (s.eng g.val) r a; let y := fun l => s.feSrc g.val l (s.eng g.val) r b; let w := fun l i => s.window (32 * g.val + l) r.n i; let never := fun (_ : Nat) => false; let past := fun (v : Nat → Int) (l : Nat) => decide (v l < -2147483648) || decide (2147483647 < v l); let reads := fun ins => ∀ a ∈ feReads g.val r ins, eccCheck (s.eccAt a) ≠ .uncorrectable; let pair := fun l i => match w l (i + 1), w l i with | some p, some q => interpPair (x l) p q edge | _, _ => none; (FetchesNext s.toHub g.val r) ∧ (Issues s.toHub g.val r (.ldk gd d k)) ∧ (reads (.ldk gd d k))) ∧
    (∃ (s : State) (g : Fin 8) (r : FeRun) (gd : Guard) (d : Fin 16) (a b : FeSrc) (imm m : BitVec 13) (imm18 : BitVec 18) (k : Fin 252) (j slot : Fin 16) (i sh first cnt : Fin 32) (edge tv : Bool) (pd pa pb ts : Fin 8) (fn uq : Fin 4) (n : BitVec 8), let x := fun l => s.feSrc g.val l (s.eng g.val) r a; let y := fun l => s.feSrc g.val l (s.eng g.val) r b; let w := fun l i => s.window (32 * g.val + l) r.n i; let never := fun (_ : Nat) => false; let past := fun (v : Nat → Int) (l : Nat) => decide (v l < -2147483648) || decide (2147483647 < v l); let reads := fun ins => ∀ a ∈ feReads g.val r ins, eccCheck (s.eccAt a) ≠ .uncorrectable; let pair := fun l i => match w l (i + 1), w l i with | some p, some q => interpPair (x l) p q edge | _, _ => none; (FetchesNext s.toHub g.val r) ∧ (Issues s.toHub g.val r (.ldl gd d j)) ∧ (reads (.ldl gd d j))) ∧
    (∃ (s : State) (g : Fin 8) (r : FeRun) (gd : Guard) (d : Fin 16) (a b : FeSrc) (imm m : BitVec 13) (imm18 : BitVec 18) (k : Fin 252) (j slot : Fin 16) (i sh first cnt : Fin 32) (edge tv : Bool) (pd pa pb ts : Fin 8) (fn uq : Fin 4) (n : BitVec 8), let x := fun l => s.feSrc g.val l (s.eng g.val) r a; let y := fun l => s.feSrc g.val l (s.eng g.val) r b; let w := fun l i => s.window (32 * g.val + l) r.n i; let never := fun (_ : Nat) => false; let past := fun (v : Nat → Int) (l : Nat) => decide (v l < -2147483648) || decide (2147483647 < v l); let reads := fun ins => ∀ a ∈ feReads g.val r ins, eccCheck (s.eccAt a) ≠ .uncorrectable; let pair := fun l i => match w l (i + 1), w l i with | some p, some q => interpPair (x l) p q edge | _, _ => none; (FetchesNext s.toHub g.val r) ∧ (Issues s.toHub g.val r (.ldw gd d a))) ∧
    (∃ (s : State) (g : Fin 8) (r : FeRun) (gd : Guard) (d : Fin 16) (a b : FeSrc) (imm m : BitVec 13) (imm18 : BitVec 18) (k : Fin 252) (j slot : Fin 16) (i sh first cnt : Fin 32) (edge tv : Bool) (pd pa pb ts : Fin 8) (fn uq : Fin 4) (n : BitVec 8), let x := fun l => s.feSrc g.val l (s.eng g.val) r a; let y := fun l => s.feSrc g.val l (s.eng g.val) r b; let w := fun l i => s.window (32 * g.val + l) r.n i; let never := fun (_ : Nat) => false; let past := fun (v : Nat → Int) (l : Nat) => decide (v l < -2147483648) || decide (2147483647 < v l); let reads := fun ins => ∀ a ∈ feReads g.val r ins, eccCheck (s.eccAt a) ≠ .uncorrectable; let pair := fun l i => match w l (i + 1), w l i with | some p, some q => interpPair (x l) p q edge | _, _ => none; (FetchesNext s.toHub g.val r) ∧ (Issues s.toHub g.val r (.ldwi gd d i))) ∧
    (∃ (s : State) (g : Fin 8) (r : FeRun) (gd : Guard) (d : Fin 16) (a b : FeSrc) (imm m : BitVec 13) (imm18 : BitVec 18) (k : Fin 252) (j slot : Fin 16) (i sh first cnt : Fin 32) (edge tv : Bool) (pd pa pb ts : Fin 8) (fn uq : Fin 4) (n : BitVec 8), let x := fun l => s.feSrc g.val l (s.eng g.val) r a; let y := fun l => s.feSrc g.val l (s.eng g.val) r b; let w := fun l i => s.window (32 * g.val + l) r.n i; let never := fun (_ : Nat) => false; let past := fun (v : Nat → Int) (l : Nat) => decide (v l < -2147483648) || decide (2147483647 < v l); let reads := fun ins => ∀ a ∈ feReads g.val r ins, eccCheck (s.eccAt a) ≠ .uncorrectable; let pair := fun l i => match w l (i + 1), w l i with | some p, some q => interpPair (x l) p q edge | _, _ => none; (FetchesNext s.toHub g.val r) ∧ (Issues s.toHub g.val r (.add gd d a b))) ∧
    (∃ (s : State) (g : Fin 8) (r : FeRun) (gd : Guard) (d : Fin 16) (a b : FeSrc) (imm m : BitVec 13) (imm18 : BitVec 18) (k : Fin 252) (j slot : Fin 16) (i sh first cnt : Fin 32) (edge tv : Bool) (pd pa pb ts : Fin 8) (fn uq : Fin 4) (n : BitVec 8), let x := fun l => s.feSrc g.val l (s.eng g.val) r a; let y := fun l => s.feSrc g.val l (s.eng g.val) r b; let w := fun l i => s.window (32 * g.val + l) r.n i; let never := fun (_ : Nat) => false; let past := fun (v : Nat → Int) (l : Nat) => decide (v l < -2147483648) || decide (2147483647 < v l); let reads := fun ins => ∀ a ∈ feReads g.val r ins, eccCheck (s.eccAt a) ≠ .uncorrectable; let pair := fun l i => match w l (i + 1), w l i with | some p, some q => interpPair (x l) p q edge | _, _ => none; (FetchesNext s.toHub g.val r) ∧ (Issues s.toHub g.val r (.sub gd d a b))) ∧
    (∃ (s : State) (g : Fin 8) (r : FeRun) (gd : Guard) (d : Fin 16) (a b : FeSrc) (imm m : BitVec 13) (imm18 : BitVec 18) (k : Fin 252) (j slot : Fin 16) (i sh first cnt : Fin 32) (edge tv : Bool) (pd pa pb ts : Fin 8) (fn uq : Fin 4) (n : BitVec 8), let x := fun l => s.feSrc g.val l (s.eng g.val) r a; let y := fun l => s.feSrc g.val l (s.eng g.val) r b; let w := fun l i => s.window (32 * g.val + l) r.n i; let never := fun (_ : Nat) => false; let past := fun (v : Nat → Int) (l : Nat) => decide (v l < -2147483648) || decide (2147483647 < v l); let reads := fun ins => ∀ a ∈ feReads g.val r ins, eccCheck (s.eccAt a) ≠ .uncorrectable; let pair := fun l i => match w l (i + 1), w l i with | some p, some q => interpPair (x l) p q edge | _, _ => none; (FetchesNext s.toHub g.val r) ∧ (Issues s.toHub g.val r (.addi gd d a imm))) ∧
    (∃ (s : State) (g : Fin 8) (r : FeRun) (gd : Guard) (d : Fin 16) (a b : FeSrc) (imm m : BitVec 13) (imm18 : BitVec 18) (k : Fin 252) (j slot : Fin 16) (i sh first cnt : Fin 32) (edge tv : Bool) (pd pa pb ts : Fin 8) (fn uq : Fin 4) (n : BitVec 8), let x := fun l => s.feSrc g.val l (s.eng g.val) r a; let y := fun l => s.feSrc g.val l (s.eng g.val) r b; let w := fun l i => s.window (32 * g.val + l) r.n i; let never := fun (_ : Nat) => false; let past := fun (v : Nat → Int) (l : Nat) => decide (v l < -2147483648) || decide (2147483647 < v l); let reads := fun ins => ∀ a ∈ feReads g.val r ins, eccCheck (s.eccAt a) ≠ .uncorrectable; let pair := fun l i => match w l (i + 1), w l i with | some p, some q => interpPair (x l) p q edge | _, _ => none; (FetchesNext s.toHub g.val r) ∧ (Issues s.toHub g.val r (.mul gd d a b))) ∧
    (∃ (s : State) (g : Fin 8) (r : FeRun) (gd : Guard) (d : Fin 16) (a b : FeSrc) (imm m : BitVec 13) (imm18 : BitVec 18) (k : Fin 252) (j slot : Fin 16) (i sh first cnt : Fin 32) (edge tv : Bool) (pd pa pb ts : Fin 8) (fn uq : Fin 4) (n : BitVec 8), let x := fun l => s.feSrc g.val l (s.eng g.val) r a; let y := fun l => s.feSrc g.val l (s.eng g.val) r b; let w := fun l i => s.window (32 * g.val + l) r.n i; let never := fun (_ : Nat) => false; let past := fun (v : Nat → Int) (l : Nat) => decide (v l < -2147483648) || decide (2147483647 < v l); let reads := fun ins => ∀ a ∈ feReads g.val r ins, eccCheck (s.eccAt a) ≠ .uncorrectable; let pair := fun l i => match w l (i + 1), w l i with | some p, some q => interpPair (x l) p q edge | _, _ => none; (FetchesNext s.toHub g.val r) ∧ (Issues s.toHub g.val r (.mulsh gd d a b sh))) ∧
    (∃ (s : State) (g : Fin 8) (r : FeRun) (gd : Guard) (d : Fin 16) (a b : FeSrc) (imm m : BitVec 13) (imm18 : BitVec 18) (k : Fin 252) (j slot : Fin 16) (i sh first cnt : Fin 32) (edge tv : Bool) (pd pa pb ts : Fin 8) (fn uq : Fin 4) (n : BitVec 8), let x := fun l => s.feSrc g.val l (s.eng g.val) r a; let y := fun l => s.feSrc g.val l (s.eng g.val) r b; let w := fun l i => s.window (32 * g.val + l) r.n i; let never := fun (_ : Nat) => false; let past := fun (v : Nat → Int) (l : Nat) => decide (v l < -2147483648) || decide (2147483647 < v l); let reads := fun ins => ∀ a ∈ feReads g.val r ins, eccCheck (s.eccAt a) ≠ .uncorrectable; let pair := fun l i => match w l (i + 1), w l i with | some p, some q => interpPair (x l) p q edge | _, _ => none; (FetchesNext s.toHub g.val r) ∧ (Issues s.toHub g.val r (.max gd d a b))) ∧
    (∃ (s : State) (g : Fin 8) (r : FeRun) (gd : Guard) (d : Fin 16) (a b : FeSrc) (imm m : BitVec 13) (imm18 : BitVec 18) (k : Fin 252) (j slot : Fin 16) (i sh first cnt : Fin 32) (edge tv : Bool) (pd pa pb ts : Fin 8) (fn uq : Fin 4) (n : BitVec 8), let x := fun l => s.feSrc g.val l (s.eng g.val) r a; let y := fun l => s.feSrc g.val l (s.eng g.val) r b; let w := fun l i => s.window (32 * g.val + l) r.n i; let never := fun (_ : Nat) => false; let past := fun (v : Nat → Int) (l : Nat) => decide (v l < -2147483648) || decide (2147483647 < v l); let reads := fun ins => ∀ a ∈ feReads g.val r ins, eccCheck (s.eccAt a) ≠ .uncorrectable; let pair := fun l i => match w l (i + 1), w l i with | some p, some q => interpPair (x l) p q edge | _, _ => none; (FetchesNext s.toHub g.val r) ∧ (Issues s.toHub g.val r (.min gd d a b))) ∧
    (∃ (s : State) (g : Fin 8) (r : FeRun) (gd : Guard) (d : Fin 16) (a b : FeSrc) (imm m : BitVec 13) (imm18 : BitVec 18) (k : Fin 252) (j slot : Fin 16) (i sh first cnt : Fin 32) (edge tv : Bool) (pd pa pb ts : Fin 8) (fn uq : Fin 4) (n : BitVec 8), let x := fun l => s.feSrc g.val l (s.eng g.val) r a; let y := fun l => s.feSrc g.val l (s.eng g.val) r b; let w := fun l i => s.window (32 * g.val + l) r.n i; let never := fun (_ : Nat) => false; let past := fun (v : Nat → Int) (l : Nat) => decide (v l < -2147483648) || decide (2147483647 < v l); let reads := fun ins => ∀ a ∈ feReads g.val r ins, eccCheck (s.eccAt a) ≠ .uncorrectable; let pair := fun l i => match w l (i + 1), w l i with | some p, some q => interpPair (x l) p q edge | _, _ => none; (FetchesNext s.toHub g.val r) ∧ (Issues s.toHub g.val r (.abs gd d a))) ∧
    (∃ (s : State) (g : Fin 8) (r : FeRun) (gd : Guard) (d : Fin 16) (a b : FeSrc) (imm m : BitVec 13) (imm18 : BitVec 18) (k : Fin 252) (j slot : Fin 16) (i sh first cnt : Fin 32) (edge tv : Bool) (pd pa pb ts : Fin 8) (fn uq : Fin 4) (n : BitVec 8), let x := fun l => s.feSrc g.val l (s.eng g.val) r a; let y := fun l => s.feSrc g.val l (s.eng g.val) r b; let w := fun l i => s.window (32 * g.val + l) r.n i; let never := fun (_ : Nat) => false; let past := fun (v : Nat → Int) (l : Nat) => decide (v l < -2147483648) || decide (2147483647 < v l); let reads := fun ins => ∀ a ∈ feReads g.val r ins, eccCheck (s.eccAt a) ≠ .uncorrectable; let pair := fun l i => match w l (i + 1), w l i with | some p, some q => interpPair (x l) p q edge | _, _ => none; (FetchesNext s.toHub g.val r) ∧ (Issues s.toHub g.val r (.shl gd d a sh))) ∧
    (∃ (s : State) (g : Fin 8) (r : FeRun) (gd : Guard) (d : Fin 16) (a b : FeSrc) (imm m : BitVec 13) (imm18 : BitVec 18) (k : Fin 252) (j slot : Fin 16) (i sh first cnt : Fin 32) (edge tv : Bool) (pd pa pb ts : Fin 8) (fn uq : Fin 4) (n : BitVec 8), let x := fun l => s.feSrc g.val l (s.eng g.val) r a; let y := fun l => s.feSrc g.val l (s.eng g.val) r b; let w := fun l i => s.window (32 * g.val + l) r.n i; let never := fun (_ : Nat) => false; let past := fun (v : Nat → Int) (l : Nat) => decide (v l < -2147483648) || decide (2147483647 < v l); let reads := fun ins => ∀ a ∈ feReads g.val r ins, eccCheck (s.eccAt a) ≠ .uncorrectable; let pair := fun l i => match w l (i + 1), w l i with | some p, some q => interpPair (x l) p q edge | _, _ => none; (FetchesNext s.toHub g.val r) ∧ (Issues s.toHub g.val r (.shr gd d a sh))) ∧
    (∃ (s : State) (g : Fin 8) (r : FeRun) (gd : Guard) (d : Fin 16) (a b : FeSrc) (imm m : BitVec 13) (imm18 : BitVec 18) (k : Fin 252) (j slot : Fin 16) (i sh first cnt : Fin 32) (edge tv : Bool) (pd pa pb ts : Fin 8) (fn uq : Fin 4) (n : BitVec 8), let x := fun l => s.feSrc g.val l (s.eng g.val) r a; let y := fun l => s.feSrc g.val l (s.eng g.val) r b; let w := fun l i => s.window (32 * g.val + l) r.n i; let never := fun (_ : Nat) => false; let past := fun (v : Nat → Int) (l : Nat) => decide (v l < -2147483648) || decide (2147483647 < v l); let reads := fun ins => ∀ a ∈ feReads g.val r ins, eccCheck (s.eccAt a) ≠ .uncorrectable; let pair := fun l i => match w l (i + 1), w l i with | some p, some q => interpPair (x l) p q edge | _, _ => none; (FetchesNext s.toHub g.val r) ∧ (Issues s.toHub g.val r (.and gd d a b))) ∧
    (∃ (s : State) (g : Fin 8) (r : FeRun) (gd : Guard) (d : Fin 16) (a b : FeSrc) (imm m : BitVec 13) (imm18 : BitVec 18) (k : Fin 252) (j slot : Fin 16) (i sh first cnt : Fin 32) (edge tv : Bool) (pd pa pb ts : Fin 8) (fn uq : Fin 4) (n : BitVec 8), let x := fun l => s.feSrc g.val l (s.eng g.val) r a; let y := fun l => s.feSrc g.val l (s.eng g.val) r b; let w := fun l i => s.window (32 * g.val + l) r.n i; let never := fun (_ : Nat) => false; let past := fun (v : Nat → Int) (l : Nat) => decide (v l < -2147483648) || decide (2147483647 < v l); let reads := fun ins => ∀ a ∈ feReads g.val r ins, eccCheck (s.eccAt a) ≠ .uncorrectable; let pair := fun l i => match w l (i + 1), w l i with | some p, some q => interpPair (x l) p q edge | _, _ => none; (FetchesNext s.toHub g.val r) ∧ (Issues s.toHub g.val r (.or gd d a b))) ∧
    (∃ (s : State) (g : Fin 8) (r : FeRun) (gd : Guard) (d : Fin 16) (a b : FeSrc) (imm m : BitVec 13) (imm18 : BitVec 18) (k : Fin 252) (j slot : Fin 16) (i sh first cnt : Fin 32) (edge tv : Bool) (pd pa pb ts : Fin 8) (fn uq : Fin 4) (n : BitVec 8), let x := fun l => s.feSrc g.val l (s.eng g.val) r a; let y := fun l => s.feSrc g.val l (s.eng g.val) r b; let w := fun l i => s.window (32 * g.val + l) r.n i; let never := fun (_ : Nat) => false; let past := fun (v : Nat → Int) (l : Nat) => decide (v l < -2147483648) || decide (2147483647 < v l); let reads := fun ins => ∀ a ∈ feReads g.val r ins, eccCheck (s.eccAt a) ≠ .uncorrectable; let pair := fun l i => match w l (i + 1), w l i with | some p, some q => interpPair (x l) p q edge | _, _ => none; (FetchesNext s.toHub g.val r) ∧ (Issues s.toHub g.val r (.xor gd d a b))) ∧
    (∃ (s : State) (g : Fin 8) (r : FeRun) (gd : Guard) (d : Fin 16) (a b : FeSrc) (imm m : BitVec 13) (imm18 : BitVec 18) (k : Fin 252) (j slot : Fin 16) (i sh first cnt : Fin 32) (edge tv : Bool) (pd pa pb ts : Fin 8) (fn uq : Fin 4) (n : BitVec 8), let x := fun l => s.feSrc g.val l (s.eng g.val) r a; let y := fun l => s.feSrc g.val l (s.eng g.val) r b; let w := fun l i => s.window (32 * g.val + l) r.n i; let never := fun (_ : Nat) => false; let past := fun (v : Nat → Int) (l : Nat) => decide (v l < -2147483648) || decide (2147483647 < v l); let reads := fun ins => ∀ a ∈ feReads g.val r ins, eccCheck (s.eccAt a) ≠ .uncorrectable; let pair := fun l i => match w l (i + 1), w l i with | some p, some q => interpPair (x l) p q edge | _, _ => none; (FetchesNext s.toHub g.val r) ∧ (Issues s.toHub g.val r (.wsum gd d first cnt))) ∧
    (∃ (s : State) (g : Fin 8) (r : FeRun) (gd : Guard) (d : Fin 16) (a b : FeSrc) (imm m : BitVec 13) (imm18 : BitVec 18) (k : Fin 252) (j slot : Fin 16) (i sh first cnt : Fin 32) (edge tv : Bool) (pd pa pb ts : Fin 8) (fn uq : Fin 4) (n : BitVec 8), let x := fun l => s.feSrc g.val l (s.eng g.val) r a; let y := fun l => s.feSrc g.val l (s.eng g.val) r b; let w := fun l i => s.window (32 * g.val + l) r.n i; let never := fun (_ : Nat) => false; let past := fun (v : Nat → Int) (l : Nat) => decide (v l < -2147483648) || decide (2147483647 < v l); let reads := fun ins => ∀ a ∈ feReads g.val r ins, eccCheck (s.eccAt a) ≠ .uncorrectable; let pair := fun l i => match w l (i + 1), w l i with | some p, some q => interpPair (x l) p q edge | _, _ => none; (FetchesNext s.toHub g.val r) ∧ (Issues s.toHub g.val r (.wpeak gd d first cnt))) ∧
    (∃ (s : State) (g : Fin 8) (r : FeRun) (gd : Guard) (d : Fin 16) (a b : FeSrc) (imm m : BitVec 13) (imm18 : BitVec 18) (k : Fin 252) (j slot : Fin 16) (i sh first cnt : Fin 32) (edge tv : Bool) (pd pa pb ts : Fin 8) (fn uq : Fin 4) (n : BitVec 8), let x := fun l => s.feSrc g.val l (s.eng g.val) r a; let y := fun l => s.feSrc g.val l (s.eng g.val) r b; let w := fun l i => s.window (32 * g.val + l) r.n i; let never := fun (_ : Nat) => false; let past := fun (v : Nat → Int) (l : Nat) => decide (v l < -2147483648) || decide (2147483647 < v l); let reads := fun ins => ∀ a ∈ feReads g.val r ins, eccCheck (s.eccAt a) ≠ .uncorrectable; let pair := fun l i => match w l (i + 1), w l i with | some p, some q => interpPair (x l) p q edge | _, _ => none; (FetchesNext s.toHub g.val r) ∧ (Issues s.toHub g.val r (.wmin gd d first cnt))) ∧
    (∃ (s : State) (g : Fin 8) (r : FeRun) (gd : Guard) (d : Fin 16) (a b : FeSrc) (imm m : BitVec 13) (imm18 : BitVec 18) (k : Fin 252) (j slot : Fin 16) (i sh first cnt : Fin 32) (edge tv : Bool) (pd pa pb ts : Fin 8) (fn uq : Fin 4) (n : BitVec 8), let x := fun l => s.feSrc g.val l (s.eng g.val) r a; let y := fun l => s.feSrc g.val l (s.eng g.val) r b; let w := fun l i => s.window (32 * g.val + l) r.n i; let never := fun (_ : Nat) => false; let past := fun (v : Nat → Int) (l : Nat) => decide (v l < -2147483648) || decide (2147483647 < v l); let reads := fun ins => ∀ a ∈ feReads g.val r ins, eccCheck (s.eccAt a) ≠ .uncorrectable; let pair := fun l i => match w l (i + 1), w l i with | some p, some q => interpPair (x l) p q edge | _, _ => none; (FetchesNext s.toHub g.val r) ∧ (Issues s.toHub g.val r (.interp gd d a first edge cnt))) ∧
    (∃ (s : State) (g : Fin 8) (r : FeRun) (gd : Guard) (d : Fin 16) (a b : FeSrc) (imm m : BitVec 13) (imm18 : BitVec 18) (k : Fin 252) (j slot : Fin 16) (i sh first cnt : Fin 32) (edge tv : Bool) (pd pa pb ts : Fin 8) (fn uq : Fin 4) (n : BitVec 8), let x := fun l => s.feSrc g.val l (s.eng g.val) r a; let y := fun l => s.feSrc g.val l (s.eng g.val) r b; let w := fun l i => s.window (32 * g.val + l) r.n i; let never := fun (_ : Nat) => false; let past := fun (v : Nat → Int) (l : Nat) => decide (v l < -2147483648) || decide (2147483647 < v l); let reads := fun ins => ∀ a ∈ feReads g.val r ins, eccCheck (s.eccAt a) ≠ .uncorrectable; let pair := fun l i => match w l (i + 1), w l i with | some p, some q => interpPair (x l) p q edge | _, _ => none; (FetchesNext s.toHub g.val r) ∧ (Issues s.toHub g.val r (.nop gd))) ∧
    (∃ (s : State) (g : Fin 8) (r : FeRun) (gd : Guard) (d : Fin 16) (a b : FeSrc) (imm m : BitVec 13) (imm18 : BitVec 18) (k : Fin 252) (j slot : Fin 16) (i sh first cnt : Fin 32) (edge tv : Bool) (pd pa pb ts : Fin 8) (fn uq : Fin 4) (n : BitVec 8), let x := fun l => s.feSrc g.val l (s.eng g.val) r a; let y := fun l => s.feSrc g.val l (s.eng g.val) r b; let w := fun l i => s.window (32 * g.val + l) r.n i; let never := fun (_ : Nat) => false; let past := fun (v : Nat → Int) (l : Nat) => decide (v l < -2147483648) || decide (2147483647 < v l); let reads := fun ins => ∀ a ∈ feReads g.val r ins, eccCheck (s.eccAt a) ≠ .uncorrectable; let pair := fun l i => match w l (i + 1), w l i with | some p, some q => interpPair (x l) p q edge | _, _ => none; (FetchesNext s.toHub g.val r) ∧ (Issues s.toHub g.val r (.cmpgt gd pd a b))) ∧
    (∃ (s : State) (g : Fin 8) (r : FeRun) (gd : Guard) (d : Fin 16) (a b : FeSrc) (imm m : BitVec 13) (imm18 : BitVec 18) (k : Fin 252) (j slot : Fin 16) (i sh first cnt : Fin 32) (edge tv : Bool) (pd pa pb ts : Fin 8) (fn uq : Fin 4) (n : BitVec 8), let x := fun l => s.feSrc g.val l (s.eng g.val) r a; let y := fun l => s.feSrc g.val l (s.eng g.val) r b; let w := fun l i => s.window (32 * g.val + l) r.n i; let never := fun (_ : Nat) => false; let past := fun (v : Nat → Int) (l : Nat) => decide (v l < -2147483648) || decide (2147483647 < v l); let reads := fun ins => ∀ a ∈ feReads g.val r ins, eccCheck (s.eccAt a) ≠ .uncorrectable; let pair := fun l i => match w l (i + 1), w l i with | some p, some q => interpPair (x l) p q edge | _, _ => none; (FetchesNext s.toHub g.val r) ∧ (Issues s.toHub g.val r (.cmpge gd pd a b))) ∧
    (∃ (s : State) (g : Fin 8) (r : FeRun) (gd : Guard) (d : Fin 16) (a b : FeSrc) (imm m : BitVec 13) (imm18 : BitVec 18) (k : Fin 252) (j slot : Fin 16) (i sh first cnt : Fin 32) (edge tv : Bool) (pd pa pb ts : Fin 8) (fn uq : Fin 4) (n : BitVec 8), let x := fun l => s.feSrc g.val l (s.eng g.val) r a; let y := fun l => s.feSrc g.val l (s.eng g.val) r b; let w := fun l i => s.window (32 * g.val + l) r.n i; let never := fun (_ : Nat) => false; let past := fun (v : Nat → Int) (l : Nat) => decide (v l < -2147483648) || decide (2147483647 < v l); let reads := fun ins => ∀ a ∈ feReads g.val r ins, eccCheck (s.eccAt a) ≠ .uncorrectable; let pair := fun l i => match w l (i + 1), w l i with | some p, some q => interpPair (x l) p q edge | _, _ => none; (FetchesNext s.toHub g.val r) ∧ (Issues s.toHub g.val r (.cmpeq gd pd a b))) ∧
    (∃ (s : State) (g : Fin 8) (r : FeRun) (gd : Guard) (d : Fin 16) (a b : FeSrc) (imm m : BitVec 13) (imm18 : BitVec 18) (k : Fin 252) (j slot : Fin 16) (i sh first cnt : Fin 32) (edge tv : Bool) (pd pa pb ts : Fin 8) (fn uq : Fin 4) (n : BitVec 8), let x := fun l => s.feSrc g.val l (s.eng g.val) r a; let y := fun l => s.feSrc g.val l (s.eng g.val) r b; let w := fun l i => s.window (32 * g.val + l) r.n i; let never := fun (_ : Nat) => false; let past := fun (v : Nat → Int) (l : Nat) => decide (v l < -2147483648) || decide (2147483647 < v l); let reads := fun ins => ∀ a ∈ feReads g.val r ins, eccCheck (s.eccAt a) ≠ .uncorrectable; let pair := fun l i => match w l (i + 1), w l i with | some p, some q => interpPair (x l) p q edge | _, _ => none; (FetchesNext s.toHub g.val r) ∧ (Issues s.toHub g.val r (.ptst gd pd a m))) ∧
    (∃ (s : State) (g : Fin 8) (r : FeRun) (gd : Guard) (d : Fin 16) (a b : FeSrc) (imm m : BitVec 13) (imm18 : BitVec 18) (k : Fin 252) (j slot : Fin 16) (i sh first cnt : Fin 32) (edge tv : Bool) (pd pa pb ts : Fin 8) (fn uq : Fin 4) (n : BitVec 8), let x := fun l => s.feSrc g.val l (s.eng g.val) r a; let y := fun l => s.feSrc g.val l (s.eng g.val) r b; let w := fun l i => s.window (32 * g.val + l) r.n i; let never := fun (_ : Nat) => false; let past := fun (v : Nat → Int) (l : Nat) => decide (v l < -2147483648) || decide (2147483647 < v l); let reads := fun ins => ∀ a ∈ feReads g.val r ins, eccCheck (s.eccAt a) ≠ .uncorrectable; let pair := fun l i => match w l (i + 1), w l i with | some p, some q => interpPair (x l) p q edge | _, _ => none; (FetchesNext s.toHub g.val r) ∧ (Issues s.toHub g.val r (.plog gd pd pa pb fn))) ∧
    (∃ (s : State) (g : Fin 8) (r : FeRun) (gd : Guard) (d : Fin 16) (a b : FeSrc) (imm m : BitVec 13) (imm18 : BitVec 18) (k : Fin 252) (j slot : Fin 16) (i sh first cnt : Fin 32) (edge tv : Bool) (pd pa pb ts : Fin 8) (fn uq : Fin 4) (n : BitVec 8), let x := fun l => s.feSrc g.val l (s.eng g.val) r a; let y := fun l => s.feSrc g.val l (s.eng g.val) r b; let w := fun l i => s.window (32 * g.val + l) r.n i; let never := fun (_ : Nat) => false; let past := fun (v : Nat → Int) (l : Nat) => decide (v l < -2147483648) || decide (2147483647 < v l); let reads := fun ins => ∀ a ∈ feReads g.val r ins, eccCheck (s.eccAt a) ≠ .uncorrectable; let pair := fun l i => match w l (i + 1), w l i with | some p, some q => interpPair (x l) p q edge | _, _ => none; (FetchesNext s.toHub g.val r) ∧ (Issues s.toHub g.val r (.feat gd slot a))) ∧
    (∃ (s : State) (g : Fin 8) (r : FeRun) (gd : Guard) (d : Fin 16) (a b : FeSrc) (imm m : BitVec 13) (imm18 : BitVec 18) (k : Fin 252) (j slot : Fin 16) (i sh first cnt : Fin 32) (edge tv : Bool) (pd pa pb ts : Fin 8) (fn uq : Fin 4) (n : BitVec 8), let x := fun l => s.feSrc g.val l (s.eng g.val) r a; let y := fun l => s.feSrc g.val l (s.eng g.val) r b; let w := fun l i => s.window (32 * g.val + l) r.n i; let never := fun (_ : Nat) => false; let past := fun (v : Nat → Int) (l : Nat) => decide (v l < -2147483648) || decide (2147483647 < v l); let reads := fun ins => ∀ a ∈ feReads g.val r ins, eccCheck (s.eccAt a) ≠ .uncorrectable; let pair := fun l i => match w l (i + 1), w l i with | some p, some q => interpPair (x l) p q edge | _, _ => none; (FetchesNext s.toHub g.val r) ∧ (Issues s.toHub g.val r (.tower gd a uq))) ∧
    (∃ (s : State) (g : Fin 8) (r : FeRun) (gd : Guard) (d : Fin 16) (a b : FeSrc) (imm m : BitVec 13) (imm18 : BitVec 18) (k : Fin 252) (j slot : Fin 16) (i sh first cnt : Fin 32) (edge tv : Bool) (pd pa pb ts : Fin 8) (fn uq : Fin 4) (n : BitVec 8), let x := fun l => s.feSrc g.val l (s.eng g.val) r a; let y := fun l => s.feSrc g.val l (s.eng g.val) r b; let w := fun l i => s.window (32 * g.val + l) r.n i; let never := fun (_ : Nat) => false; let past := fun (v : Nat → Int) (l : Nat) => decide (v l < -2147483648) || decide (2147483647 < v l); let reads := fun ins => ∀ a ∈ feReads g.val r ins, eccCheck (s.eccAt a) ≠ .uncorrectable; let pair := fun l i => match w l (i + 1), w l i with | some p, some q => interpPair (x l) p q edge | _, _ => none; (FetchesNext s.toHub g.val r) ∧ (Issues s.toHub g.val r (.trig gd tv ts))) ∧
    (∃ (s : State) (g : Fin 8) (r : FeRun) (gd : Guard) (d : Fin 16) (a b : FeSrc) (imm m : BitVec 13) (imm18 : BitVec 18) (k : Fin 252) (j slot : Fin 16) (i sh first cnt : Fin 32) (edge tv : Bool) (pd pa pb ts : Fin 8) (fn uq : Fin 4) (n : BitVec 8), let x := fun l => s.feSrc g.val l (s.eng g.val) r a; let y := fun l => s.feSrc g.val l (s.eng g.val) r b; let w := fun l i => s.window (32 * g.val + l) r.n i; let never := fun (_ : Nat) => false; let past := fun (v : Nat → Int) (l : Nat) => decide (v l < -2147483648) || decide (2147483647 < v l); let reads := fun ins => ∀ a ∈ feReads g.val r ins, eccCheck (s.eccAt a) ≠ .uncorrectable; let pair := fun l i => match w l (i + 1), w l i with | some p, some q => interpPair (x l) p q edge | _, _ => none; (FetchesNext s.toHub g.val r) ∧ (Issues s.toHub g.val r (.skipz gd pd n))) :=
  ⟨⟨engSt (.add gd0 5 1 19) run0, 0, run0, gd0, 5, 1, 19, 7, 3, by decide +kernel⟩,
   ⟨engSt (.sub gd0 5 1 19) run0, 0, run0, gd0, 5, 1, 19, 7, 3, by decide +kernel⟩,
   ⟨engSt (.addi gd0 5 1 7) run0, 0, run0, gd0, 5, 1, 19, 7, 3, by decide +kernel⟩,
   ⟨engSt (.mul gd0 5 1 19) run0, 0, run0, gd0, 5, 1, 19, 7, 3, by decide +kernel⟩,
   ⟨engSt (.mulsh gd0 5 1 19 3) run0, 0, run0, gd0, 5, 1, 19, 7, 3, by decide +kernel⟩,
   ⟨engSt (.abs gd0 5 1) run0, 0, run0, gd0, 5, 1, 19, 7, 3, by decide +kernel⟩,
   ⟨engSt (.shl gd0 5 1 3) run0, 0, run0, gd0, 5, 1, 19, 7, 3, by decide +kernel⟩,
   ⟨engSt (.mov gd0 4 1) run0, 0, run0, gd0, 4, 1, 19, 7, 7, 7, 3, 2, 2, 4, 3, 0, 3, true, true, 2, 1, 3, 5, 2, 2, 4, by decide +kernel⟩,
   ⟨engSt (.movi gd0 4 7) run0, 0, run0, gd0, 4, 1, 19, 7, 7, 7, 3, 2, 2, 4, 3, 0, 3, true, true, 2, 1, 3, 5, 2, 2, 4, by decide +kernel⟩,
   ⟨engSt (.ldk gd0 4 3) run0, 0, run0, gd0, 4, 1, 19, 7, 7, 7, 3, 2, 2, 4, 3, 0, 3, true, true, 2, 1, 3, 5, 2, 2, 4, by decide +kernel⟩,
   ⟨engSt (.ldl gd0 4 2) run0, 0, run0, gd0, 4, 1, 19, 7, 7, 7, 3, 2, 2, 4, 3, 0, 3, true, true, 2, 1, 3, 5, 2, 2, 4, by decide +kernel⟩,
   ⟨engSt (.ldw gd0 4 1) run0, 0, run0, gd0, 4, 1, 19, 7, 7, 7, 3, 2, 2, 4, 3, 0, 3, true, true, 2, 1, 3, 5, 2, 2, 4, by decide +kernel⟩,
   ⟨engSt (.ldwi gd0 4 4) run0, 0, run0, gd0, 4, 1, 19, 7, 7, 7, 3, 2, 2, 4, 3, 0, 3, true, true, 2, 1, 3, 5, 2, 2, 4, by decide +kernel⟩,
   ⟨engSt (.add gd0 4 1 19) run0, 0, run0, gd0, 4, 1, 19, 7, 7, 7, 3, 2, 2, 4, 3, 0, 3, true, true, 2, 1, 3, 5, 2, 2, 4, by decide +kernel⟩,
   ⟨engSt (.sub gd0 4 1 19) run0, 0, run0, gd0, 4, 1, 19, 7, 7, 7, 3, 2, 2, 4, 3, 0, 3, true, true, 2, 1, 3, 5, 2, 2, 4, by decide +kernel⟩,
   ⟨engSt (.addi gd0 4 1 7) run0, 0, run0, gd0, 4, 1, 19, 7, 7, 7, 3, 2, 2, 4, 3, 0, 3, true, true, 2, 1, 3, 5, 2, 2, 4, by decide +kernel⟩,
   ⟨engSt (.mul gd0 4 1 19) run0, 0, run0, gd0, 4, 1, 19, 7, 7, 7, 3, 2, 2, 4, 3, 0, 3, true, true, 2, 1, 3, 5, 2, 2, 4, by decide +kernel⟩,
   ⟨engSt (.mulsh gd0 4 1 19 3) run0, 0, run0, gd0, 4, 1, 19, 7, 7, 7, 3, 2, 2, 4, 3, 0, 3, true, true, 2, 1, 3, 5, 2, 2, 4, by decide +kernel⟩,
   ⟨engSt (.max gd0 4 1 19) run0, 0, run0, gd0, 4, 1, 19, 7, 7, 7, 3, 2, 2, 4, 3, 0, 3, true, true, 2, 1, 3, 5, 2, 2, 4, by decide +kernel⟩,
   ⟨engSt (.min gd0 4 1 19) run0, 0, run0, gd0, 4, 1, 19, 7, 7, 7, 3, 2, 2, 4, 3, 0, 3, true, true, 2, 1, 3, 5, 2, 2, 4, by decide +kernel⟩,
   ⟨engSt (.abs gd0 4 1) run0, 0, run0, gd0, 4, 1, 19, 7, 7, 7, 3, 2, 2, 4, 3, 0, 3, true, true, 2, 1, 3, 5, 2, 2, 4, by decide +kernel⟩,
   ⟨engSt (.shl gd0 4 1 3) run0, 0, run0, gd0, 4, 1, 19, 7, 7, 7, 3, 2, 2, 4, 3, 0, 3, true, true, 2, 1, 3, 5, 2, 2, 4, by decide +kernel⟩,
   ⟨engSt (.shr gd0 4 1 3) run0, 0, run0, gd0, 4, 1, 19, 7, 7, 7, 3, 2, 2, 4, 3, 0, 3, true, true, 2, 1, 3, 5, 2, 2, 4, by decide +kernel⟩,
   ⟨engSt (.and gd0 4 1 19) run0, 0, run0, gd0, 4, 1, 19, 7, 7, 7, 3, 2, 2, 4, 3, 0, 3, true, true, 2, 1, 3, 5, 2, 2, 4, by decide +kernel⟩,
   ⟨engSt (.or gd0 4 1 19) run0, 0, run0, gd0, 4, 1, 19, 7, 7, 7, 3, 2, 2, 4, 3, 0, 3, true, true, 2, 1, 3, 5, 2, 2, 4, by decide +kernel⟩,
   ⟨engSt (.xor gd0 4 1 19) run0, 0, run0, gd0, 4, 1, 19, 7, 7, 7, 3, 2, 2, 4, 3, 0, 3, true, true, 2, 1, 3, 5, 2, 2, 4, by decide +kernel⟩,
   ⟨engSt (.wsum gd0 4 0 3) run0, 0, run0, gd0, 4, 1, 19, 7, 7, 7, 3, 2, 2, 4, 3, 0, 3, true, true, 2, 1, 3, 5, 2, 2, 4, by decide +kernel⟩,
   ⟨engSt (.wpeak gd0 4 0 3) run0, 0, run0, gd0, 4, 1, 19, 7, 7, 7, 3, 2, 2, 4, 3, 0, 3, true, true, 2, 1, 3, 5, 2, 2, 4, by decide +kernel⟩,
   ⟨engSt (.wmin gd0 4 0 3) run0, 0, run0, gd0, 4, 1, 19, 7, 7, 7, 3, 2, 2, 4, 3, 0, 3, true, true, 2, 1, 3, 5, 2, 2, 4, by decide +kernel⟩,
   ⟨engSt (.interp gd0 4 1 0 true 3) run0, 0, run0, gd0, 4, 1, 19, 7, 7, 7, 3, 2, 2, 4, 3, 0, 3, true, true, 2, 1, 3, 5, 2, 2, 4, by decide +kernel⟩,
   ⟨engSt (.nop gd0) run0, 0, run0, gd0, 4, 1, 19, 7, 7, 7, 3, 2, 2, 4, 3, 0, 3, true, true, 2, 1, 3, 5, 2, 2, 4, by decide +kernel⟩,
   ⟨engSt (.cmpgt gd0 2 1 19) run0, 0, run0, gd0, 4, 1, 19, 7, 7, 7, 3, 2, 2, 4, 3, 0, 3, true, true, 2, 1, 3, 5, 2, 2, 4, by decide +kernel⟩,
   ⟨engSt (.cmpge gd0 2 1 19) run0, 0, run0, gd0, 4, 1, 19, 7, 7, 7, 3, 2, 2, 4, 3, 0, 3, true, true, 2, 1, 3, 5, 2, 2, 4, by decide +kernel⟩,
   ⟨engSt (.cmpeq gd0 2 1 19) run0, 0, run0, gd0, 4, 1, 19, 7, 7, 7, 3, 2, 2, 4, 3, 0, 3, true, true, 2, 1, 3, 5, 2, 2, 4, by decide +kernel⟩,
   ⟨engSt (.ptst gd0 2 1 7) run0, 0, run0, gd0, 4, 1, 19, 7, 7, 7, 3, 2, 2, 4, 3, 0, 3, true, true, 2, 1, 3, 5, 2, 2, 4, by decide +kernel⟩,
   ⟨engSt (.plog gd0 2 1 3 2) run0, 0, run0, gd0, 4, 1, 19, 7, 7, 7, 3, 2, 2, 4, 3, 0, 3, true, true, 2, 1, 3, 5, 2, 2, 4, by decide +kernel⟩,
   ⟨engSt (.feat gd0 2 1) run0, 0, run0, gd0, 4, 1, 19, 7, 7, 7, 3, 2, 2, 4, 3, 0, 3, true, true, 2, 1, 3, 5, 2, 2, 4, by decide +kernel⟩,
   ⟨engSt (.tower gd0 1 2) run0, 0, run0, gd0, 4, 1, 19, 7, 7, 7, 3, 2, 2, 4, 3, 0, 3, true, true, 2, 1, 3, 5, 2, 2, 4, by decide +kernel⟩,
   ⟨engSt (.trig gd0 true 5) run0, 0, run0, gd0, 4, 1, 19, 7, 7, 7, 3, 2, 2, 4, 3, 0, 3, true, true, 2, 1, 3, 5, 2, 2, 4, by decide +kernel⟩,
   ⟨engSt (.skipz gd0 2 4) run0, 0, run0, gd0, 4, 1, 19, 7, 7, 7, 3, 2, 2, 4, 3, 0, 3, true, true, 2, 1, 3, 5, 2, 2, 4, by decide +kernel⟩⟩

theorem witness_EngineMovesSpansAndTests :
    (∃ (s : State) (g : Fin 8) (r : FeRun) (gd : Guard) (d : Fin 16) (a b : FeSrc) (imm : BitVec 18) (k : Fin 252) (j : Fin 16) (i sh : Fin 32), let x := fun l => s.feSrc g.val l (s.eng g.val) r a; let y := fun l => s.feSrc g.val l (s.eng g.val) r b; let w := fun l i => (s.window (32 * g.val + l) r.n i).getD 0; let reads := fun ins => ∀ a ∈ feReads g.val r ins, eccCheck (s.eccAt a) ≠ .uncorrectable; let faults := fun i => Runs i s fun t => (t.eng g.val).run = none ∧ (t.eng g.val).v = (s.eng g.val).v ∧ t.feState g.val = 3 ∧ t.fld (FE_STATE g.val) 11 8 = 2; (Issues s.toHub g.val r (.mov gd d a))) ∧
    (∃ (s : State) (g : Fin 8) (r : FeRun) (gd : Guard) (d : Fin 16) (a b : FeSrc) (imm : BitVec 18) (k : Fin 252) (j : Fin 16) (i sh : Fin 32), let x := fun l => s.feSrc g.val l (s.eng g.val) r a; let y := fun l => s.feSrc g.val l (s.eng g.val) r b; let w := fun l i => (s.window (32 * g.val + l) r.n i).getD 0; let reads := fun ins => ∀ a ∈ feReads g.val r ins, eccCheck (s.eccAt a) ≠ .uncorrectable; let faults := fun i => Runs i s fun t => (t.eng g.val).run = none ∧ (t.eng g.val).v = (s.eng g.val).v ∧ t.feState g.val = 3 ∧ t.fld (FE_STATE g.val) 11 8 = 2; (Issues s.toHub g.val r (.movi gd d imm))) ∧
    (∃ (s : State) (g : Fin 8) (r : FeRun) (gd : Guard) (d : Fin 16) (a b : FeSrc) (imm : BitVec 18) (k : Fin 252) (j : Fin 16) (i sh : Fin 32), let x := fun l => s.feSrc g.val l (s.eng g.val) r a; let y := fun l => s.feSrc g.val l (s.eng g.val) r b; let w := fun l i => (s.window (32 * g.val + l) r.n i).getD 0; let reads := fun ins => ∀ a ∈ feReads g.val r ins, eccCheck (s.eccAt a) ≠ .uncorrectable; let faults := fun i => Runs i s fun t => (t.eng g.val).run = none ∧ (t.eng g.val).v = (s.eng g.val).v ∧ t.feState g.val = 3 ∧ t.fld (FE_STATE g.val) 11 8 = 2; (Issues s.toHub g.val r (.ldk gd d k)) ∧ (¬ reads (.ldk gd d k))) ∧
    (∃ (s : State) (g : Fin 8) (r : FeRun) (gd : Guard) (d : Fin 16) (a b : FeSrc) (imm : BitVec 18) (k : Fin 252) (j : Fin 16) (i sh : Fin 32), let x := fun l => s.feSrc g.val l (s.eng g.val) r a; let y := fun l => s.feSrc g.val l (s.eng g.val) r b; let w := fun l i => (s.window (32 * g.val + l) r.n i).getD 0; let reads := fun ins => ∀ a ∈ feReads g.val r ins, eccCheck (s.eccAt a) ≠ .uncorrectable; let faults := fun i => Runs i s fun t => (t.eng g.val).run = none ∧ (t.eng g.val).v = (s.eng g.val).v ∧ t.feState g.val = 3 ∧ t.fld (FE_STATE g.val) 11 8 = 2; (Issues s.toHub g.val r (.ldl gd d j)) ∧ (¬ reads (.ldl gd d j))) ∧
    (∃ (s : State) (g : Fin 8) (r : FeRun) (gd : Guard) (d : Fin 16) (a b : FeSrc) (imm : BitVec 18) (k : Fin 252) (j : Fin 16) (i sh : Fin 32), let x := fun l => s.feSrc g.val l (s.eng g.val) r a; let y := fun l => s.feSrc g.val l (s.eng g.val) r b; let w := fun l i => (s.window (32 * g.val + l) r.n i).getD 0; let reads := fun ins => ∀ a ∈ feReads g.val r ins, eccCheck (s.eccAt a) ≠ .uncorrectable; let faults := fun i => Runs i s fun t => (t.eng g.val).run = none ∧ (t.eng g.val).v = (s.eng g.val).v ∧ t.feState g.val = 3 ∧ t.fld (FE_STATE g.val) 11 8 = 2; (Issues s.toHub g.val r (.ldk gd d k)) ∧ (reads (.ldk gd d k))) ∧
    (∃ (s : State) (g : Fin 8) (r : FeRun) (gd : Guard) (d : Fin 16) (a b : FeSrc) (imm : BitVec 18) (k : Fin 252) (j : Fin 16) (i sh : Fin 32), let x := fun l => s.feSrc g.val l (s.eng g.val) r a; let y := fun l => s.feSrc g.val l (s.eng g.val) r b; let w := fun l i => (s.window (32 * g.val + l) r.n i).getD 0; let reads := fun ins => ∀ a ∈ feReads g.val r ins, eccCheck (s.eccAt a) ≠ .uncorrectable; let faults := fun i => Runs i s fun t => (t.eng g.val).run = none ∧ (t.eng g.val).v = (s.eng g.val).v ∧ t.feState g.val = 3 ∧ t.fld (FE_STATE g.val) 11 8 = 2; (Issues s.toHub g.val r (.ldl gd d j)) ∧ (reads (.ldl gd d j))) ∧
    (∃ (s : State) (g : Fin 8) (r : FeRun) (gd : Guard) (d : Fin 16) (a b : FeSrc) (imm : BitVec 18) (k : Fin 252) (j : Fin 16) (i sh : Fin 32), let x := fun l => s.feSrc g.val l (s.eng g.val) r a; let y := fun l => s.feSrc g.val l (s.eng g.val) r b; let w := fun l i => (s.window (32 * g.val + l) r.n i).getD 0; let reads := fun ins => ∀ a ∈ feReads g.val r ins, eccCheck (s.eccAt a) ≠ .uncorrectable; let faults := fun i => Runs i s fun t => (t.eng g.val).run = none ∧ (t.eng g.val).v = (s.eng g.val).v ∧ t.feState g.val = 3 ∧ t.fld (FE_STATE g.val) 11 8 = 2; (Issues s.toHub g.val r (.ldw gd d a))) ∧
    (∃ (s : State) (g : Fin 8) (r : FeRun) (gd : Guard) (d : Fin 16) (a b : FeSrc) (imm : BitVec 18) (k : Fin 252) (j : Fin 16) (i sh : Fin 32), let x := fun l => s.feSrc g.val l (s.eng g.val) r a; let y := fun l => s.feSrc g.val l (s.eng g.val) r b; let w := fun l i => (s.window (32 * g.val + l) r.n i).getD 0; let reads := fun ins => ∀ a ∈ feReads g.val r ins, eccCheck (s.eccAt a) ≠ .uncorrectable; let faults := fun i => Runs i s fun t => (t.eng g.val).run = none ∧ (t.eng g.val).v = (s.eng g.val).v ∧ t.feState g.val = 3 ∧ t.fld (FE_STATE g.val) 11 8 = 2; (Issues s.toHub g.val r (.ldwi gd d i))) ∧
    (∃ (s : State) (g : Fin 8) (r : FeRun) (gd : Guard) (d : Fin 16) (a b : FeSrc) (imm : BitVec 18) (k : Fin 252) (j : Fin 16) (i sh : Fin 32), let x := fun l => s.feSrc g.val l (s.eng g.val) r a; let y := fun l => s.feSrc g.val l (s.eng g.val) r b; let w := fun l i => (s.window (32 * g.val + l) r.n i).getD 0; let reads := fun ins => ∀ a ∈ feReads g.val r ins, eccCheck (s.eccAt a) ≠ .uncorrectable; let faults := fun i => Runs i s fun t => (t.eng g.val).run = none ∧ (t.eng g.val).v = (s.eng g.val).v ∧ t.feState g.val = 3 ∧ t.fld (FE_STATE g.val) 11 8 = 2; (Issues s.toHub g.val r (.max gd d a b))) ∧
    (∃ (s : State) (g : Fin 8) (r : FeRun) (gd : Guard) (d : Fin 16) (a b : FeSrc) (imm : BitVec 18) (k : Fin 252) (j : Fin 16) (i sh : Fin 32), let x := fun l => s.feSrc g.val l (s.eng g.val) r a; let y := fun l => s.feSrc g.val l (s.eng g.val) r b; let w := fun l i => (s.window (32 * g.val + l) r.n i).getD 0; let reads := fun ins => ∀ a ∈ feReads g.val r ins, eccCheck (s.eccAt a) ≠ .uncorrectable; let faults := fun i => Runs i s fun t => (t.eng g.val).run = none ∧ (t.eng g.val).v = (s.eng g.val).v ∧ t.feState g.val = 3 ∧ t.fld (FE_STATE g.val) 11 8 = 2; (Issues s.toHub g.val r (.min gd d a b))) ∧
    (∃ (s : State) (g : Fin 8) (r : FeRun) (gd : Guard) (d : Fin 16) (a b : FeSrc) (imm : BitVec 18) (k : Fin 252) (j : Fin 16) (i sh : Fin 32), let x := fun l => s.feSrc g.val l (s.eng g.val) r a; let y := fun l => s.feSrc g.val l (s.eng g.val) r b; let w := fun l i => (s.window (32 * g.val + l) r.n i).getD 0; let reads := fun ins => ∀ a ∈ feReads g.val r ins, eccCheck (s.eccAt a) ≠ .uncorrectable; let faults := fun i => Runs i s fun t => (t.eng g.val).run = none ∧ (t.eng g.val).v = (s.eng g.val).v ∧ t.feState g.val = 3 ∧ t.fld (FE_STATE g.val) 11 8 = 2; (Issues s.toHub g.val r (.shr gd d a sh))) ∧
    (∃ (s : State) (g : Fin 8) (r : FeRun) (gd : Guard) (d : Fin 16) (a b : FeSrc) (imm : BitVec 18) (k : Fin 252) (j : Fin 16) (i sh : Fin 32), let x := fun l => s.feSrc g.val l (s.eng g.val) r a; let y := fun l => s.feSrc g.val l (s.eng g.val) r b; let w := fun l i => (s.window (32 * g.val + l) r.n i).getD 0; let reads := fun ins => ∀ a ∈ feReads g.val r ins, eccCheck (s.eccAt a) ≠ .uncorrectable; let faults := fun i => Runs i s fun t => (t.eng g.val).run = none ∧ (t.eng g.val).v = (s.eng g.val).v ∧ t.feState g.val = 3 ∧ t.fld (FE_STATE g.val) 11 8 = 2; (Issues s.toHub g.val r (.and gd d a b))) ∧
    (∃ (s : State) (g : Fin 8) (r : FeRun) (gd : Guard) (d : Fin 16) (a b : FeSrc) (imm : BitVec 18) (k : Fin 252) (j : Fin 16) (i sh : Fin 32), let x := fun l => s.feSrc g.val l (s.eng g.val) r a; let y := fun l => s.feSrc g.val l (s.eng g.val) r b; let w := fun l i => (s.window (32 * g.val + l) r.n i).getD 0; let reads := fun ins => ∀ a ∈ feReads g.val r ins, eccCheck (s.eccAt a) ≠ .uncorrectable; let faults := fun i => Runs i s fun t => (t.eng g.val).run = none ∧ (t.eng g.val).v = (s.eng g.val).v ∧ t.feState g.val = 3 ∧ t.fld (FE_STATE g.val) 11 8 = 2; (Issues s.toHub g.val r (.or gd d a b))) ∧
    (∃ (s : State) (g : Fin 8) (r : FeRun) (gd : Guard) (d : Fin 16) (a b : FeSrc) (imm : BitVec 18) (k : Fin 252) (j : Fin 16) (i sh : Fin 32), let x := fun l => s.feSrc g.val l (s.eng g.val) r a; let y := fun l => s.feSrc g.val l (s.eng g.val) r b; let w := fun l i => (s.window (32 * g.val + l) r.n i).getD 0; let reads := fun ins => ∀ a ∈ feReads g.val r ins, eccCheck (s.eccAt a) ≠ .uncorrectable; let faults := fun i => Runs i s fun t => (t.eng g.val).run = none ∧ (t.eng g.val).v = (s.eng g.val).v ∧ t.feState g.val = 3 ∧ t.fld (FE_STATE g.val) 11 8 = 2; (Issues s.toHub g.val r (.xor gd d a b))) ∧
    (∃ (s : State) (g : Fin 8) (r : FeRun) (gd : Guard) (d : Fin 16) (a : FeSrc) (first cnt : Fin 32) (edge : Bool), let w := fun l i => s.window (32 * g.val + l) r.n i; (Issues s.toHub g.val r (.wsum gd d first cnt))) ∧
    (∃ (s : State) (g : Fin 8) (r : FeRun) (gd : Guard) (d : Fin 16) (a : FeSrc) (first cnt : Fin 32) (edge : Bool), let w := fun l i => s.window (32 * g.val + l) r.n i; (Issues s.toHub g.val r (.wpeak gd d first cnt))) ∧
    (∃ (s : State) (g : Fin 8) (r : FeRun) (gd : Guard) (d : Fin 16) (a : FeSrc) (first cnt : Fin 32) (edge : Bool), let w := fun l i => s.window (32 * g.val + l) r.n i; (Issues s.toHub g.val r (.wmin gd d first cnt))) ∧
    (∃ (s : State) (g : Fin 8) (r : FeRun) (gd : Guard) (d : Fin 16) (a : FeSrc) (first cnt : Fin 32) (edge : Bool), let w := fun l i => s.window (32 * g.val + l) r.n i; (Issues s.toHub g.val r (.interp gd d a first edge cnt))) ∧
    (∃ (s : State) (g : Fin 8) (r : FeRun) (gd : Guard) (pd pa pb : Fin 8) (a b : FeSrc) (m : BitVec 13) (fn : Fin 4), let x := fun l => s.feSrc g.val l (s.eng g.val) r a; let y := fun l => s.feSrc g.val l (s.eng g.val) r b; ∃ (l : Nat), (FetchesNext s.toHub g.val r)) ∧
    (∃ (s : State) (g : Fin 8) (r : FeRun) (gd : Guard) (pd pa pb : Fin 8) (a b : FeSrc) (m : BitVec 13) (fn : Fin 4), let x := fun l => s.feSrc g.val l (s.eng g.val) r a; let y := fun l => s.feSrc g.val l (s.eng g.val) r b; (FetchesNext s.toHub g.val r) ∧ (Issues s.toHub g.val r (.cmpgt gd pd a b))) ∧
    (∃ (s : State) (g : Fin 8) (r : FeRun) (gd : Guard) (pd pa pb : Fin 8) (a b : FeSrc) (m : BitVec 13) (fn : Fin 4), let x := fun l => s.feSrc g.val l (s.eng g.val) r a; let y := fun l => s.feSrc g.val l (s.eng g.val) r b; (FetchesNext s.toHub g.val r) ∧ (Issues s.toHub g.val r (.cmpge gd pd a b))) ∧
    (∃ (s : State) (g : Fin 8) (r : FeRun) (gd : Guard) (pd pa pb : Fin 8) (a b : FeSrc) (m : BitVec 13) (fn : Fin 4), let x := fun l => s.feSrc g.val l (s.eng g.val) r a; let y := fun l => s.feSrc g.val l (s.eng g.val) r b; (FetchesNext s.toHub g.val r) ∧ (Issues s.toHub g.val r (.cmpeq gd pd a b))) ∧
    (∃ (s : State) (g : Fin 8) (r : FeRun) (gd : Guard) (pd pa pb : Fin 8) (a b : FeSrc) (m : BitVec 13) (fn : Fin 4), let x := fun l => s.feSrc g.val l (s.eng g.val) r a; let y := fun l => s.feSrc g.val l (s.eng g.val) r b; (FetchesNext s.toHub g.val r) ∧ (Issues s.toHub g.val r (.ptst gd pd a m))) ∧
    (∃ (s : State) (g : Fin 8) (r : FeRun) (gd : Guard) (pd pa pb : Fin 8) (a b : FeSrc) (m : BitVec 13) (fn : Fin 4), let x := fun l => s.feSrc g.val l (s.eng g.val) r a; let y := fun l => s.feSrc g.val l (s.eng g.val) r b; (FetchesNext s.toHub g.val r) ∧ (Issues s.toHub g.val r (.plog gd pd pa pb fn))) :=
  ⟨⟨engSt (.mov gd0 5 1) run0, 0, run0, gd0, 5, 1, 19, 7, 3, 2, 4, 3, by decide +kernel⟩,
   ⟨engSt (.movi gd0 5 7) run0, 0, run0, gd0, 5, 1, 19, 7, 3, 2, 4, 3, by decide +kernel⟩,
   ⟨{ engSt (.ldk gd0 5 3) run0 with ecc := [(0x3800041C, 3)] }, 0, run0, gd0, 5, 1, 19, 7, 3, 2, 4, 3, by decide +kernel⟩,
   ⟨{ engSt (.ldl gd0 5 2) run0 with ecc := [(0x38000808, 3)] }, 0, run0, gd0, 5, 1, 19, 7, 3, 2, 4, 3, by decide +kernel⟩,
   ⟨engSt (.ldk gd0 5 3) run0, 0, run0, gd0, 5, 1, 19, 7, 3, 2, 4, 3, by decide +kernel⟩,
   ⟨engSt (.ldl gd0 5 2) run0, 0, run0, gd0, 5, 1, 19, 7, 3, 2, 4, 3, by decide +kernel⟩,
   ⟨engSt (.ldw gd0 5 1) run0, 0, run0, gd0, 5, 1, 19, 7, 3, 2, 4, 3, by decide +kernel⟩,
   ⟨engSt (.ldwi gd0 5 4) run0, 0, run0, gd0, 5, 1, 19, 7, 3, 2, 4, 3, by decide +kernel⟩,
   ⟨engSt (.max gd0 5 1 19) run0, 0, run0, gd0, 5, 1, 19, 7, 3, 2, 4, 3, by decide +kernel⟩,
   ⟨engSt (.min gd0 5 1 19) run0, 0, run0, gd0, 5, 1, 19, 7, 3, 2, 4, 3, by decide +kernel⟩,
   ⟨engSt (.shr gd0 5 1 3) run0, 0, run0, gd0, 5, 1, 19, 7, 3, 2, 4, 3, by decide +kernel⟩,
   ⟨engSt (.and gd0 5 1 19) run0, 0, run0, gd0, 5, 1, 19, 7, 3, 2, 4, 3, by decide +kernel⟩,
   ⟨engSt (.or gd0 5 1 19) run0, 0, run0, gd0, 5, 1, 19, 7, 3, 2, 4, 3, by decide +kernel⟩,
   ⟨engSt (.xor gd0 5 1 19) run0, 0, run0, gd0, 5, 1, 19, 7, 3, 2, 4, 3, by decide +kernel⟩,
   ⟨engSt (.wsum gd0 5 0 3) run0, 0, run0, gd0, 5, 1, 0, 3, true, by decide +kernel⟩,
   ⟨engSt (.wpeak gd0 4 0 3) run0, 0, run0, gd0, 4, 1, 0, 3, true, by decide +kernel⟩,
   ⟨engSt (.wmin gd0 4 0 3) run0, 0, run0, gd0, 4, 1, 0, 3, true, by decide +kernel⟩,
   ⟨engSt (.interp gd0 5 1 0 true 3) run0, 0, run0, gd0, 5, 1, 0, 3, true, by decide +kernel⟩,
   ⟨engSt (.nop gd0) run0, 0, run0, gd0, 2, 1, 3, 1, 19, 7, 2, 3, by decide +kernel⟩,
   ⟨engSt (.cmpgt gd0 2 1 19) run0, 0, run0, gd0, 2, 1, 3, 1, 19, 7, 2, by decide +kernel⟩,
   ⟨engSt (.cmpge gd0 2 1 19) run0, 0, run0, gd0, 2, 1, 3, 1, 19, 7, 2, by decide +kernel⟩,
   ⟨engSt (.cmpeq gd0 2 1 19) run0, 0, run0, gd0, 2, 1, 3, 1, 19, 7, 2, by decide +kernel⟩,
   ⟨engSt (.ptst gd0 2 1 7) run0, 0, run0, gd0, 2, 1, 3, 1, 19, 7, 2, by decide +kernel⟩,
   ⟨engSt (.plog gd0 2 1 3 2) run0, 0, run0, gd0, 2, 1, 3, 1, 19, 7, 2, by decide +kernel⟩⟩

theorem witness_EngineOutputsAndFlow :
    (∃ (s : State) (g : Fin 8) (r : FeRun) (gd : Guard) (a : FeSrc) (slot : Fin 16) (uq : Fin 4) (tv : Bool) (ts pc : Fin 8) (n : BitVec 8), (FetchesNext s.toHub g.val r) ∧ (Issues s.toHub g.val r (.feat gd slot a))) ∧
    (∃ (s : State) (g : Fin 8) (r : FeRun) (gd : Guard) (a : FeSrc) (slot : Fin 16) (uq : Fin 4) (tv : Bool) (ts pc : Fin 8) (n : BitVec 8), (FetchesNext s.toHub g.val r) ∧ (Issues s.toHub g.val r (.tower gd a uq))) ∧
    (∃ (s : State) (g : Fin 8) (r : FeRun) (gd : Guard) (a : FeSrc) (slot : Fin 16) (uq : Fin 4) (tv : Bool) (ts pc : Fin 8) (n : BitVec 8), (FetchesNext s.toHub g.val r) ∧ (Issues s.toHub g.val r (.trig gd tv ts))) ∧
    (∃ (s : State) (g : Fin 8) (r : FeRun) (gd : Guard) (a : FeSrc) (slot : Fin 16) (uq : Fin 4) (tv : Bool) (ts pc : Fin 8) (n : BitVec 8), (FetchesNext s.toHub g.val r) ∧ (Issues s.toHub g.val r (.nop gd))) ∧
    (∃ (s : State) (g : Fin 8) (r : FeRun) (gd : Guard) (a : FeSrc) (slot : Fin 16) (uq : Fin 4) (tv : Bool) (ts pc : Fin 8) (n : BitVec 8), (FetchesNext s.toHub g.val r) ∧ (Issues s.toHub g.val r (.skipz gd pc n)) ∧ ((∃ l < 32, r.predOf l pc = true))) ∧
    (∃ (s : State) (g : Fin 8) (r : FeRun) (gd : Guard) (a : FeSrc) (slot : Fin 16) (uq : Fin 4) (tv : Bool) (ts pc : Fin 8) (n : BitVec 8), (FetchesNext s.toHub g.val r) ∧ (Issues s.toHub g.val r (.skipz gd pc n)) ∧ ((∀ l < 32, r.predOf l pc = false)) ∧ (FetchesNext s.toHub g.val { r with pc := r.pc + n.toNat })) :=
  ⟨⟨engSt (.feat gd0 3 1) run0, 0, run0, gd0, 1, 3, 2, true, 5, 0, 4, by decide +kernel⟩,
   ⟨engSt (.tower gd0 1 2) run0, 0, run0, gd0, 1, 3, 2, true, 5, 0, 4, by decide +kernel⟩,
   ⟨engSt (.trig gd0 true 5) run0, 0, run0, gd0, 1, 3, 2, true, 5, 0, 4, by decide +kernel⟩,
   ⟨engSt (.nop gd0) run0, 0, run0, gd0, 1, 3, 2, true, 5, 0, 4, by decide +kernel⟩,
   ⟨engSt (.skipz gd0 0 4) run0, 0, run0, gd0, 1, 3, 2, true, 5, 0, 4, by decide +kernel⟩,
   ⟨engSt (.skipz gd0 4 4) run0, 0, run0, gd0, 1, 3, 2, true, 5, 4, 4, by decide +kernel⟩⟩

theorem witness_EngineEndAndOverrun :
    (∃ (s : State) (g : Fin 8) (r : FeRun) (gd : Guard), (Issues s.toHub g.val r (.endRun gd)) ∧ ((s.eng g.val).stopAt = none)) ∧
    (∃ (s : State) (g : Fin 8) (r : FeRun), ((s.eng g.val).run = some r) ∧ (r.ended = false) ∧ (r.pc < 256)) :=
  ⟨⟨engSt (.endRun gd0) run0, 0, run0, gd0, by decide +kernel⟩,
   ⟨engSt (.nop gd0) run0, 0, run0, by decide +kernel⟩⟩

theorem witness_EngineControl :
    (∃ (s : State) (h : Hdr) (p : List Byte), (Accepts s.toHub h 0x0602) ∧ (p.length = 4) ∧ (pl p 0 1 ≠ 0) ∧ (pl p 1 1 ≤ 1) ∧ (plZero p 2 2 = true) ∧ ((∀ g < 8, bitAt (pl p 0 1) g = true → s.reg (FE_COUNT g) ≠ 0 ∧ s.feState g ≠ 1 ∧ s.feState g ≠ 2))) ∧
    (∃ (s : State) (h : Hdr) (p : List Byte), (Accepts s.toHub h 0x0603) ∧ (p.length = 4) ∧ (pl p 0 1 ≠ 0) ∧ (plZero p 1 3 = true) ∧ (s.modeIn [mRUN, mPULSE] = false)) ∧
    (∃ (s : State) (h : Hdr) (p : List Byte), (Accepts s.toHub h 0x0604) ∧ (p.length = 4) ∧ (pl p 0 1 ≠ 0) ∧ ((pl p 1 1 = 0 ∨ pl p 1 1 = 2 ∨ pl p 1 1 = 3)) ∧ (pl p 2 1 ≤ 1) ∧ (plZero p 3 1 = true)) ∧
    (∃ (s : State) (m : BitVec 8), (s.mode ≠ mLOADING) ∧ ((∀ g < 8, bitAt m.toNat g = true → s.reg (FE_COUNT g) ≠ 0 ∧ s.feState g ≠ 1 ∧ s.feState g ≠ 2))) ∧
    (∃ (s : State) (m : BitVec 8), (s.modeIn [mLOADING, mRUN, mPULSE] = false)) ∧
    (∃ (s : State) (h : Hdr), (Accepts s.toHub h 0x0605)) ∧
    (∃ (s : State) (h : Hdr) (p : List Byte), (Accepts s.toHub h 0x0606) ∧ (p.length = 4) ∧ (pl p 0 1 ≤ 7) ∧ (1 ≤ pl p 2 1) ∧ (pl p 2 1 ≤ 16) ∧ (pl p 1 1 + pl p 2 1 ≤ 32) ∧ (plZero p 3 1 = true) ∧ (s.feState (pl p 0 1) ≠ 1) ∧ (s.feState (pl p 0 1) ≠ 2)) :=
  ⟨⟨st (hub 2 [(FE_COUNT 0, 5)]), hd, [1, 0, 0, 0], by decide +kernel⟩,
   ⟨st (hub 6 [(FE_STATE 0, 1), (FE_STATE 1, 2)]), hd, [3, 0, 0, 0], by decide +kernel⟩,
   ⟨st (hub 4 []), hd, [3, 2, 1, 0], by decide +kernel⟩,
   ⟨st (hub 2 [(FE_COUNT 0, 5)]), 1, by decide +kernel⟩,
   ⟨st (hub 6 [(FE_STATE 0, 1)]), 3, by decide +kernel⟩,
   ⟨st (hub 2 []), hd, by decide +kernel⟩,
   ⟨st (hub 2 []), hd, [7, 30, 2, 0], by decide +kernel⟩⟩

theorem witness_EngineDecodeOfEncode :
    (∃ (i : FeIns), (feWf i = true)) ∧
    (∃ (w : Nat) (i : FeIns), (feDecode w = some i)) :=
  ⟨⟨.add gd0 3 1 2, by decide +kernel⟩,
   ⟨0x200C2200, .add gd0 3 1 2, by decide +kernel⟩⟩

theorem witness_JunctionCommands :
    (∃ (s : State) (h : Hdr) (p : List Byte), (Accepts s.toHub h 0x0701) ∧ (Alone s.toHub) ∧ (p.length = 4 + pl p 2 2) ∧ (1 ≤ pl p 2 2) ∧ (pl p 0 2 + pl p 2 2 ≤ 256) ∧ ((∀ i < pl p 2 2, pl p (4 + i) 1 < 64 ∨ pl p (4 + i) 1 = 255)) ∧ (s.modeIn jctModes = true)) ∧
    (∃ (s : State) (h : Hdr) (p : List Byte), (Accepts s.toHub h 0x0702) ∧ (p.length = 4) ∧ (pl p 0 1 ≤ 15) ∧ (plZero p 2 2 = true) ∧ (s.modeIn jctModes = true)) ∧
    (∃ (s : State) (h : Hdr), (Accepts s.toHub h 0x0703)) ∧
    (∃ (s : State) (h : Hdr), (Accepts s.toHub h 0x0704) ∧ (s.mode ≠ mIDLE)) ∧
    (∃ (s : State) (h : Hdr) (p : List Byte), (Accepts s.toHub h 0x0601) ∧ (4 ≤ p.length) ∧ (p.length ≤ 1024) ∧ (p.length % 4 = 0) ∧ (pl p 0 1 ≤ 7) ∧ (pl p 1 1 = 0) ∧ (pl p 2 2 = 0) ∧ (s.feBusy (pl p 0 1) = false) ∧ (s.modeIn [mRUN, mPULSE] = false)) ∧
    (∃ (s : State) (h : Hdr) (p : List Byte) (c0 c1 c2 c3 : Nat), let img := wholeImage s.toHub p; let g := pl p 0 1; let count := c0 + 256 * c1 + 65536 * c2 + 16777216 * c3; (Accepts s.toHub h 0x0601) ∧ (LastChunk s.toHub p) ∧ (pl p 0 1 ≤ 7) ∧ (ProgramLegal img) ∧ (bits (imgWord img 0x408) 31 16 = 0) ∧ (imgWord img 0x40C = 0) ∧ (EntryCosts img 0 c0) ∧ (EntryCosts img 1 c1) ∧ (EntryCosts img 2 c2) ∧ (EntryCosts img 3 c3) ∧ (c0 ≤ 28) ∧ (c1 ≤ 28) ∧ (c2 ≤ 28) ∧ (c3 ≤ 28) ∧ (s.feBusy (pl p 0 1) = false) ∧ ((s.modeIn [mRUN, mPULSE] = true → s.feState (pl p 0 1) = 3 ∧ s.reg (FE_PROG_CRC (pl p 0 1)) = crc32c (stagedBytes img 4096)))) ∧
    (∃ (s : State) (h : Hdr) (p : List Byte), (Accepts s.toHub h 0x0601) ∧ (LastChunk s.toHub p) ∧ (pl p 0 1 ≤ 7) ∧ (¬ ProgramLegal (wholeImage s.toHub p))) ∧
    (∃ (s : State) (h : Hdr) (p : List Byte) (k c : Nat), let img := wholeImage s.toHub p; (Accepts s.toHub h 0x0601) ∧ (LastChunk s.toHub p) ∧ (pl p 0 1 ≤ 7) ∧ (ProgramLegal img) ∧ (bits (imgWord img 0x408) 31 16 = 0) ∧ (imgWord img 0x40C = 0) ∧ (k < 4) ∧ (EntryCosts img k c) ∧ (28 < c)) ∧
    (∃ (s : State) (h : Hdr) (p : List Byte), let img := wholeImage s.toHub p; (Accepts s.toHub h 0x0601) ∧ (LastChunk s.toHub p) ∧ (pl p 0 1 ≤ 7) ∧ (ProgramLegal img) ∧ (bits (imgWord img 0x408) 31 16 = 0) ∧ (imgWord img 0x40C = 0) ∧ ((∀ k < 4, ∃ c ≤ 28, EntryCosts img k c)) ∧ (s.feBusy (pl p 0 1) = true)) ∧
    (∃ (s : State) (h : Hdr) (p : List Byte), let img := wholeImage s.toHub p; (Accepts s.toHub h 0x0601) ∧ (LastChunk s.toHub p) ∧ (pl p 0 1 ≤ 7) ∧ (ProgramLegal img) ∧ (bits (imgWord img 0x408) 31 16 = 0) ∧ (imgWord img 0x40C = 0) ∧ ((∀ k < 4, ∃ c ≤ 28, EntryCosts img k c)) ∧ (s.feBusy (pl p 0 1) = false) ∧ (s.modeIn [mRUN, mPULSE] = true) ∧ ((s.feState (pl p 0 1) ≠ 3 ∨ s.reg (FE_PROG_CRC (pl p 0 1)) ≠ crc32c (stagedBytes img 4096)))) ∧
    (∃ (s : State) (h : Hdr) (p : List Byte), let img := wholeImage s.toHub p; let pay := words [40 + 256 * 56, crc32c (stagedBytes img 4096)]; (Accepts s.toHub h 0x0601) ∧ (LastChunk s.toHub p) ∧ (pl p 0 1 = 8) ∧ (s.modeIn [mRUN, mPULSE] = false) ∧ (JunctionLegal img) ∧ (s.mode = mIDLE)) ∧
    (∃ (s : State) (h : Hdr) (p : List Byte), let img := wholeImage s.toHub p; let pay := words [40 + 256 * 56, crc32c (stagedBytes img 4096)]; (Accepts s.toHub h 0x0601) ∧ (LastChunk s.toHub p) ∧ (pl p 0 1 = 8) ∧ (s.modeIn [mRUN, mPULSE] = false) ∧ (JunctionLegal img) ∧ (s.mode ≠ mIDLE)) ∧
    (∃ (s : State) (h : Hdr) (p : List Byte), let img := wholeImage s.toHub p; let pay := words [40 + 256 * 56, crc32c (stagedBytes img 4096)]; (Accepts s.toHub h 0x0601) ∧ (LastChunk s.toHub p) ∧ (pl p 0 1 = 8) ∧ (s.modeIn [mRUN, mPULSE] = false) ∧ (¬ JunctionLegal img)) ∧
    (∃ (s : State) (h : Hdr) (p : List Byte), (Accepts s.toHub h 0x0601) ∧ (4 ≤ p.length) ∧ (p.length ≤ 1024) ∧ (p.length % 4 = 0) ∧ (pl p 0 1 = 8) ∧ (s.modeIn [mRUN, mPULSE] = true)) :=
  ⟨⟨st (hub 2 []), hd, [254, 0, 2, 0, 63, 255], by decide +kernel⟩,
   ⟨st (hub 2 []), hd, [15, 255, 0, 0], by decide +kernel⟩,
   ⟨st (hub 2 []), hd, by decide +kernel⟩,
   ⟨st (hub 4 []), hd, by decide +kernel⟩,
   ⟨st (hub 2 []), hd, [7, 0, 0, 0, 1, 2, 3, 4], by decide +kernel⟩,
   ⟨st { hub 2 [] with staging := [(3, { bytes := [(3, 252)], next := 1024 })] }, hd, ([3, 1, 0, 4, 69, 70, 1, 2, 0, 0, 0, 0, 1] ++ List.replicate 7 0), 1, 1, 1, 1, by decide +kernel, by decide +kernel, by decide, by decide +kernel, by decide +kernel, by decide +kernel, (by decide +kernel), by decide +kernel, by decide +kernel, by decide +kernel, by omega, by omega, by omega, by omega, by decide +kernel⟩,
   ⟨st { hub 2 [] with staging := [(3, { bytes := [], next := 1024 })] }, hd, ([3, 1, 0, 4, 69, 70, 1, 2, 0, 0, 0, 0, 1] ++ List.replicate 7 0), by decide +kernel⟩,
   ⟨st { hub 2 [] with staging := [(3, { bytes := bigProg, next := 1024 })] }, hd, ([3, 1, 0, 4, 69, 70, 1, 2, 0, 0, 0, 0, 16] ++ List.replicate 7 0), 2, 31, by decide +kernel⟩,
   ⟨st { hub 2 [(FE_STATE 3, 1)] with staging := [(3, { bytes := [(3, 252)], next := 1024 })] }, hd, ([3, 1, 0, 4, 69, 70, 1, 2, 0, 0, 0, 0, 1] ++ List.replicate 7 0), by decide +kernel, by decide +kernel, by decide +kernel, (by decide +kernel), by decide +kernel, by decide +kernel, fun k hk => ⟨1, by decide, by revert k; decide +kernel⟩, by decide +kernel⟩,
   ⟨st { hub 4 [(FE_STATE 3, 0)] with staging := [(3, { bytes := [(3, 252)], next := 1024 })] }, hd, ([3, 1, 0, 4, 69, 70, 1, 2, 0, 0, 0, 0, 1] ++ List.replicate 7 0), by decide +kernel, by decide +kernel, by decide +kernel, (by decide +kernel), by decide +kernel, by decide +kernel, fun k hk => ⟨1, by decide, by revert k; decide +kernel⟩, by decide +kernel, by decide +kernel, by decide +kernel⟩,
   ⟨st (hub 2 []), hd, [8, 1, 0, 0, 67, 74, 1, 0, 200, 0, 0, 0, 4, 1, 0, 0], by decide +kernel⟩,
   ⟨st (hub 6 []), hd, [8, 1, 0, 0, 67, 74, 1, 0, 200, 0, 0, 0, 4, 1, 0, 0], by decide +kernel⟩,
   ⟨st (hub 2 []), hd, [8, 1, 0, 0, 67, 74, 1, 0, 0, 0, 0, 0, 4, 1, 0, 0], by decide +kernel⟩,
   ⟨st (hub 4 []), hd, [8, 1, 0, 0, 67, 74, 1, 0, 200, 0, 0, 0, 4, 1, 0, 0], by decide +kernel⟩⟩

theorem witness_JunctionEvents :
    (∃ (s : State) (f : Nat) (img : List (Nat × Nat)), (s.jct.image = some (f, img)) ∧ (f ≤ s.frame) ∧ (s.tt.crossing = 0) ∧ (jctModes.contains s.now.mode = true)) ∧
    (∃ (s : State), (jctModes.contains s.now.mode = false)) ∧
    (∃ (s : State) (r : JRec), (s.joined = true) ∧ ((s.jct.recs.find? fun r => r.n + 16 == s.frame && !r.done && r.hash.isNone) = some r) ∧ (s.pairBlock r.crossing = none)) :=
  ⟨⟨st { hub 2 [] with frame := 50, hist := [{ mode := 2 }], jct := { image := some (50, []) } }, 50, [], by decide +kernel⟩,
   ⟨st (hub 2 []), by decide +kernel⟩,
   ⟨st { hub 4 [(PAIR_STATUS, 0x24000)] with frame := 16, jct := { recs := [{ n := 0, crossing := 0, turn := 0, hubId := 0, towers := [] }] } }, { n := 0, crossing := 0, turn := 0, hubId := 0, towers := [] }, by decide +kernel⟩⟩

theorem witness_NoTwoSeedsAdjacent :
    ∃ (g : Grid) (seedMin : Nat) (guard : Bool) (x y x' y' : Nat), (g.exists x y = true) ∧ (g.exists x' y' = true) ∧ ((x, y) ≠ (x', y')) ∧ (x ≤ x' + 1) ∧ (x' ≤ x + 1) ∧ (y ≤ y' + 1) ∧ (y' ≤ y + 1) :=
  ⟨{ cols := 16, word := fun x y => 100 * x + y }, 1, false, 1, 1, 2, 1, by decide +kernel⟩

theorem witness_RecordCommands :
    (∃ (s : State) (h : Hdr) (p : List Byte), (Accepts s.toHub h 0x0801) ∧ (p.length = 8) ∧ (pl p 0 1 ≤ 3) ∧ (1 ≤ pl p 2 2) ∧ (pl p 2 2 < 4096 / 2 ^ pl p 0 1) ∧ (pl p 4 1 ≤ 1) ∧ (plZero p 1 1 = true) ∧ (plZero p 5 3 = true) ∧ (s.mode = mIDLE) ∧ (s.recs.segs = []) ∧ (s.poolUnfit (pl p 0 1) = false)) ∧
    (∃ (s : State) (h : Hdr) (p : List Byte), (Accepts s.toHub h 0x0802) ∧ (p.length = 20) ∧ (pl p 0 1 ≠ 0) ∧ (pl p 1 1 ≤ 31) ∧ (pl p 2 1 ≤ 32) ∧ (1 ≤ pl p 3 1) ∧ (pl p 3 1 ≤ 16) ∧ (pl p 4 1 ≤ 1) ∧ (pl p 5 1 ≤ 1) ∧ (pl p 6 1 ≤ 2) ∧ (plZero p 7 1 = true) ∧ (pl p 10 1 ≤ 1) ∧ (pl p 12 2 ≠ 0) ∧ (pl p 17 1 ≤ 1) ∧ (plZero p 18 2 = true) ∧ (recFits (recConfigBody.gcfgOf p) s.segSize = true) ∧ ((∀ g < 8, bitAt (pl p 0 1) g = true → (s.recg g).cap = none))) ∧
    (∃ (s : State) (h : Hdr) (p : List Byte), (Accepts s.toHub h 0x0803) ∧ (p.length = 4) ∧ (pl p 0 1 ≠ 0) ∧ (pl p 1 1 ≤ 1) ∧ (plZero p 2 2 = true)) ∧
    (∃ (s : State) (h : Hdr) (p : List Byte), (Accepts s.toHub h 0x0804) ∧ (p.length = 4) ∧ (pl p 0 1 ≠ 0) ∧ (plZero p 1 3 = true) ∧ (s.modeIn [mRUN, mPULSE, mTEST] = true) ∧ ((∀ g < 8, bitAt (pl p 0 1) g = true → s.bit (REC_GCFG g) 2 = true))) ∧
    (∃ (s : State) (h : Hdr), (Accepts s.toHub h 0x0805)) :=
  ⟨⟨st (hub 2 []), hd, [3, 0, 255, 1, 1, 0, 0, 0], by decide +kernel⟩,
   ⟨st (hub 2 []), hd, [1, 31, 32, 3, 0, 0, 0, 0, 5, 0, 1, 9, 128, 12, 7, 0, 34, 1, 0, 0], by decide +kernel⟩,
   ⟨st (hub 2 []), hd, [129, 1, 0, 0], by decide +kernel⟩,
   ⟨st (hub 4 [(REC_GCFG 0, 4)]), hd, [1, 0, 0, 0], by decide +kernel⟩,
   ⟨st (hub 2 []), hd, by decide +kernel⟩⟩

theorem witness_RecordEvents :
    (∃ (s : State) (g : Fin 8) (r : FrameRec), (9 ≤ s.frame) ∧ ((s.recg g.val).evaluated ≠ some s.frame) ∧ (s.frameRec (s.frame - 9) = some r) ∧ (recModes.contains r.mode = true) ∧ (s.recSources g.val r ≠ 0) ∧ ((s.recg g.val).rearmAt = none) ∧ ((s.recg g.val).cap.isSome = true ∨ s.inHoldoff g.val (s.frame - 9) = true ∨ gEn ((s.recCfg g.val (s.frame - 9)).getD 0 0) = false)) ∧
    (∃ (s : State) (g : Fin 8) (r : FrameRec), (9 ≤ s.frame) ∧ ((s.recg g.val).evaluated ≠ some s.frame) ∧ (s.frameRec (s.frame - 9) = some r) ∧ (recModes.contains r.mode = true) ∧ (s.recSources g.val r ≠ 0) ∧ ((s.recg g.val).rearmAt = none) ∧ ((s.recg g.val).cap = none) ∧ (s.inHoldoff g.val (s.frame - 9) = false) ∧ ((s.recg g.val).held = none) ∧ (gEn ((s.recCfg g.val (s.frame - 9)).getD 0 0) = true) ∧ (s.reserve < s.freeSegs)) ∧
    (∃ (s : State) (g : Fin 8) (c : Capture), ((s.recg g.val).cap = some c) ∧ (c.lastFrame + 14 ≤ s.frame)) ∧
    (∃ (s : State) (g : Fin 8) (f : Nat), ((s.recg g.val).rearmAt = some f) ∧ (f ≤ s.frame)) ∧
    (∃ (s : State) (g : Fin 8) (m : HeldMark), ((s.recg g.val).held = some m) ∧ (0 < s.freeSegs)) :=
  ⟨⟨st { hub 4 [] with frame := 20, hist := [{ n := 11, mode := 4 }], recs := { cmds := [(11, 1)], groups := [(0, { cfgs := [(0, [0x8000041C, 0, 0, 0])], cap := some { n := 2, sources := 4, seq := 0, seg := 0, cfg := 0x8000041C, nfeat := 0, skipped := 0, value := 0, interp := false, time := 0, first := true } })] } }, 0, { n := 11, mode := 4 }, by decide +kernel⟩,
   ⟨st { hub 4 [] with frame := 20, hist := [{ n := 11, mode := 4 }], recs := { cmds := [(11, 1)], groups := [(0, { cfgs := [(0, [0x8000041C, 0, 0, 0])] })] } }, 0, { n := 11, mode := 4 }, by decide +kernel⟩,
   ⟨st { hub 4 [] with frame := 60, recs := { segs := [(0, 1)], groups := [(0, { cap := some { n := 2, sources := 4, seq := 0, seg := 0, cfg := 0x8000041C, nfeat := 0, skipped := 0, value := 0, interp := false, time := 0, first := true } })] } }, 0, { n := 2, sources := 4, seq := 0, seg := 0, cfg := 0x8000041C, nfeat := 0, skipped := 0, value := 0, interp := false, time := 0, first := true }, by decide +kernel⟩,
   ⟨st { hub 4 [] with frame := 60, recs := { groups := [(0, { rearmAt := some 60, cfgs := [(0, [0x8000041C, 0x50003, 0, 0])] })] } }, 0, 60, by decide +kernel⟩,
   ⟨st { hub 4 [] with frame := 60, recs := { groups := [(0, { held := some { n := 2, last := 3, crossing := 2, turn := 0, sources := 4, flags := 0, time := 0, count := 1 } })] } }, 0, { n := 2, last := 3, crossing := 2, turn := 0, sources := 4, flags := 0, time := 0, count := 1 }, by decide +kernel⟩⟩

theorem witness_StreamCommands :
    (∃ (s : State) (h : Hdr) (p : List Byte), (Accepts s.toHub h 0x0901) ∧ (p.length = 4) ∧ (pl p 0 1 ≠ 0) ∧ (pl p 1 1 ≤ 3) ∧ (plZero p 3 1 = true) ∧ (s.modeIn [mRUN, mPULSE] = false) ∧ (s.allowAdmitted (pl p 0 1) (pl p 2 1) = true)) ∧
    (∃ (s : State) (h : Hdr) (p : List Byte), (Accepts s.toHub h 0x0902) ∧ (p.length = 36) ∧ (pl p 0 1 ≤ 7) ∧ ((∀ i < 32, pl p (4 + i) 1 ≤ 31)) ∧ (plZero p 1 3 = true) ∧ (s.modeIn [mRUN, mPULSE] = false)) ∧
    (∃ (s : State) (h : Hdr) (p : List Byte), (Accepts s.toHub h 0x0903) ∧ (p.length = 4) ∧ (pl p 0 1 ≠ 0) ∧ (pl p 1 1 ≤ 1) ∧ (plZero p 2 2 = true) ∧ (s.codecRuns = true) ∧ (s.flushBusy (pl p 0 1) = false)) ∧
    (∃ (s : State) (h : Hdr) (p : List Byte), (Accepts s.toHub h 0x0904) ∧ (p.length = 4) ∧ (pl p 0 1 ≤ 7) ∧ (plZero p 1 3 = true) ∧ (s.codecRuns = true) ∧ ((s.codec (pl p 0 1)).asked = false) ∧ ((∀ x ∈ (s.codec (pl p 0 1)).shuts, x.asked = false))) ∧
    (∃ (s : State) (h : Hdr), (Accepts s.toHub h 0x0905)) ∧
    (∃ (s : State) (m : BitVec 8), (s.codecRuns = true) ∧ (m ≠ 0) ∧ (s.flushBusy m.toNat = false)) ∧
    (∃ (s : State) (m : BitVec 8), (s.codecRuns = true)) :=
  ⟨⟨st (hub 2 []), hd, [1, 3, 0, 0], by decide +kernel⟩,
   ⟨st (hub 2 []), hd, ([7, 0, 0, 0] ++ List.replicate 32 31), by decide +kernel⟩,
   ⟨st (hub 4 []), hd, [129, 1, 0, 0], by decide +kernel⟩,
   ⟨st (hub 4 []), hd, [3, 0, 0, 0], by decide +kernel⟩,
   ⟨st (hub 2 []), hd, by decide +kernel⟩,
   ⟨st (hub 4 []), 3, by decide +kernel⟩,
   ⟨st (hub 4 []), 3, by decide +kernel⟩⟩

theorem witness_IngotEvents :
    (∃ (s : State) (g : Fin 8) (xs rest : List OutSamp), (firstIngot (s.codec g.val).inbox = some (xs, rest))) ∧
    (∃ (s : State) (g : Fin 8) (damage : List Nat) (sh : Shut) (rest : List Shut), ((s.codec g.val).shuts = sh :: rest) ∧ (s.checkNow = some g.val) ∧ (s.frame < sh.closedAt + 20)) ∧
    (∃ (s : State) (g : Fin 8) (damage : List Nat), (s.checkNow ≠ some g.val)) ∧
    (∃ (s : State) (g : Fin 8) (sh : Shut) (rest : List Shut), ((s.codec g.val).shuts = sh :: rest) ∧ (sh.check = true) ∧ (sh.closedAt + 20 ≤ s.frame + 1 ∨ 4 ≤ (s.codec g.val).areas)) ∧
    (∃ (s : State) (g : Fin 8) (sh : Shut) (rest : List Shut), let bs := s.ingotBytes g.val sh (s.dropped != 0); ((s.codec g.val).shuts = sh :: rest) ∧ (sh.check = false)) ∧
    (∃ (s : Hub) (g seq : Nat) (cold : Bool) (bs : List Byte), let t := s.takeIngot g seq cold bs; (s.msh.place < 0x200000)) ∧
    (∃ (s : Hub) (g seq : Nat) (cold : Bool) (bs : List Byte), let t := s.takeIngot g seq cold bs; ∃ a, (s.msh.place < 0x200000) ∧ (a < 0x101F0000 ∨ (0x10200000 ≤ a ∧ a < 0x30000000) ∨ 0x30200000 ≤ a)) ∧
    (∃ (s : Hub) (n : Nat) (x : TxItem), let t := s.itemLeft n x; ∃ (z : Stored), (n < 11) ∧ (x.typ = tySTREAM) ∧ (z ∈ t.msh.store) ∧ (z.key = x.key)) ∧
    (∃ (s : Hub) (n : Nat) (x : TxItem), let t := s.itemLeft n x; ∃ (z : Stored), (n < 11) ∧ (x.typ = tySTREAM) ∧ (z.key ≠ x.key)) ∧
    (∃ (s : State) (n : Fin 6) (it : TxItem) (src : Option Nat), (s.dispatcherRuns = true) ∧ (s.laneState n.val = lsACTIVE) ∧ (bytesLeft (s.lane n.val).record < 184) ∧ (s.nextRecord = some (it, src))) :=
  ⟨⟨st { hub 4 [] with frame := 20, codecs := [(2, { inbox := [{ n := 5, j := 0, words := List.replicate 32 7, took := 5, sat := 0, closes := true }] })] }, 2, [{ n := 5, j := 0, words := List.replicate 32 7, took := 5, sat := 0, closes := true }], [], by decide +kernel⟩,
   ⟨st { hub 4 [] with frame := 20, codecs := [(2, { shuts := [{ seq := 3, samples := [{ n := 5, j := 0, words := List.replicate 32 7, took := 5, sat := 0, closes := true }], cold := true, opened := openDefault, flushed := false, closedAt := 5, starts := List.replicate 32 {}, coded := [1, 2, 3, 4], raw := false, check := true }] })] }, 2, [], { seq := 3, samples := [{ n := 5, j := 0, words := List.replicate 32 7, took := 5, sat := 0, closes := true }], cold := true, opened := openDefault, flushed := false, closedAt := 5, starts := List.replicate 32 {}, coded := [1, 2, 3, 4], raw := false, check := true }, [], by decide +kernel⟩,
   ⟨st (hub 4 []), 2, [], by decide +kernel⟩,
   ⟨st { hub 4 [] with frame := 25, codecs := [(2, { shuts := [{ seq := 3, samples := [{ n := 5, j := 0, words := List.replicate 32 7, took := 5, sat := 0, closes := true }], cold := true, opened := openDefault, flushed := false, closedAt := 5, starts := List.replicate 32 {}, coded := [1, 2, 3, 4], raw := false, check := true }] })] }, 2, { seq := 3, samples := [{ n := 5, j := 0, words := List.replicate 32 7, took := 5, sat := 0, closes := true }], cold := true, opened := openDefault, flushed := false, closedAt := 5, starts := List.replicate 32 {}, coded := [1, 2, 3, 4], raw := false, check := true }, [], by decide +kernel⟩,
   ⟨st { hub 4 [] with frame := 25, codecs := [(2, { shuts := [{ seq := 3, samples := [{ n := 5, j := 0, words := List.replicate 32 7, took := 5, sat := 0, closes := true }], cold := true, opened := openDefault, flushed := false, closedAt := 5, starts := List.replicate 32 {}, coded := [1, 2, 3, 4], raw := false }] })] }, 2, { seq := 3, samples := [{ n := 5, j := 0, words := List.replicate 32 7, took := 5, sat := 0, closes := true }], cold := true, opened := openDefault, flushed := false, closedAt := 5, starts := List.replicate 32 {}, coded := [1, 2, 3, 4], raw := false }, [], by decide +kernel⟩,
   ⟨(hub 4 []), 2, 3, true, [1, 2, 3], by decide +kernel⟩,
   ⟨(hub 4 []), 2, 3, true, [1, 2, 3], 0, by decide +kernel⟩,
   ⟨{ hub 4 [] with frame := 99, msh := { store := [{ key := 1, addr := 0, size := 8 }, { key := 2, addr := 8, size := 8 }] } }, 3, { typ := 1, bytes := [1], key := 2 }, ({ key := 2, addr := 8, size := 8, freeAt := some 163 } : Stored), by decide +kernel⟩,
   ⟨{ hub 4 [] with frame := 99, msh := { store := [{ key := 1, addr := 0, size := 8 }, { key := 2, addr := 8, size := 8 }] } }, 3, { typ := 1, bytes := [1], key := 2 }, ({ key := 1, addr := 0, size := 8 } : Stored), by decide +kernel⟩,
   ⟨dispSt, 2, dispItem, none, by decide +kernel⟩⟩

theorem witness_LinkCommands :
    (∃ (s : State) (h : Hdr), (Accepts s.toHub h 0x0A01)) ∧
    (∃ (s : State) (h : Hdr) (p : List Byte), (Accepts s.toHub h 0x0A02) ∧ (p.length = 4) ∧ (1 ≤ pl p 0 2) ∧ (pl p 0 2 < 2048) ∧ (pl p 2 1 ≤ 1) ∧ (plZero p 3 1 = true) ∧ (s.enableStatus (pl p 0 2) (pl p 2 1 == 1) = none)) ∧
    (∃ (s : State) (h : Hdr) (p : List Byte), (Accepts s.toHub h 0x0A03) ∧ (p.length = 4) ∧ (1 ≤ pl p 0 2) ∧ (pl p 0 2 < 2048) ∧ (plZero p 2 2 = true) ∧ (s.retrainBad (pl p 0 2) = false)) ∧
    (∃ (s : State) (n : Fin 11), (s.retrainBad (2 ^ n.val) = false) ∧ (s.bit (LN_CTRL n.val) 0 = true)) ∧
    (∃ (s : State) (h : Hdr) (p : List Byte), (Accepts s.toHub h 0x0A04) ∧ (p.length = 8) ∧ (pl p 0 2 < 2048) ∧ (pl p 2 1 ≤ 1) ∧ (pl p 3 1 ≤ 63) ∧ (64 ≤ pl p 4 2) ∧ (pl p 4 2 ≤ 4096) ∧ (plZero p 6 2 = true) ∧ (s.modeIn [mRUN, mPULSE] = false)) ∧
    (∃ (s : State) (h : Hdr) (p : List Byte), (Accepts s.toHub h 0x0A05) ∧ (p.length = 4) ∧ (pl p 0 1 ≤ 7) ∧ (pl p 1 1 ≤ 15) ∧ (pl p 3 1 ≤ 31) ∧ (pl p 1 1 + pl p 2 1 + pl p 3 1 ≤ 63) ∧ (s.modeIn [mIDLE, mTEST] = true)) ∧
    (∃ (s : State) (h : Hdr) (p : List Byte), (Accepts s.toHub h 0x0A06) ∧ (p.length = 4) ∧ (1 ≤ pl p 0 1) ∧ (pl p 0 1 ≤ 63) ∧ (plZero p 1 3 = true) ∧ (s.modeIn [mIDLE, mPREPARE, mHOLD, mTEST] = true) ∧ (admitted s.turnLen (pl p 0 1) s.rateSet s.allowSet = true)) ∧
    (∃ (s : State) (h : Hdr) (p : List Byte), (Accepts s.toHub h 0x0A07) ∧ (p.length = 4) ∧ (pl p 0 2 < 2048) ∧ (pl p 2 1 ≤ 3) ∧ (plZero p 3 1 = true) ∧ (s.mode = mTEST)) ∧
    (∃ (s : State) (h : Hdr) (p : List Byte), (Accepts s.toHub h 0x0A08) ∧ (p.length = 4) ∧ (pl p 0 1 ≤ 10) ∧ (plZero p 1 3 = true)) :=
  ⟨⟨st (hub 2 []), hd, by decide +kernel⟩,
   ⟨st (hub 2 []), hd, [64, 0, 0, 0], by decide +kernel⟩,
   ⟨st (hub 2 [(LN_STATUS 6, 7)]), hd, [64, 0, 0, 0], by decide +kernel⟩,
   ⟨st (hub 2 []), 6, by decide +kernel⟩,
   ⟨st (hub 2 []), hd, [0, 1, 0, 63, 64, 0, 0, 0], by decide +kernel⟩,
   ⟨st (hub 2 []), hd, [7, 15, 48, 0], by decide +kernel⟩,
   ⟨st (hub 2 []), hd, [63, 0, 0, 0], by decide +kernel⟩,
   ⟨st (hub 7 []), hd, [255, 7, 3, 0], by decide +kernel⟩,
   ⟨st (hub 2 []), hd, [10, 0, 0, 0], by decide +kernel⟩⟩

theorem witness_LaneTraining :
    (∃ (s : State) (n : Fin 11), (s.laneState n.val = lsDETECT)) ∧
    (∃ (s : State) (n : Fin 11) (ctle : BitVec 4) (dfe eye : BitVec 8), (8 ≤ n.val) ∧ (s.laneState n.val = lsTRAIN)) ∧
    (∃ (s : State) (n : Fin 11) (ctle : BitVec 4) (dfe eye : BitVec 8), (8 ≤ n.val) ∧ (s.laneState n.val = lsACTIVE)) ∧
    (∃ (s : State) (n : Fin 11) (control status : BitVec 32), (8 ≤ n.val) ∧ (s.laneState n.val = lsTRAIN)) ∧
    (∃ (s : State) (n : Fin 8), (s.laneState n.val = lsACQUIRE)) ∧
    (∃ (s : State) (n : Fin 8) (k : Fin 3), let v := s.fld (LN_TXEQ n.val) (tapHi k.val) (tapLo k.val); let sum := s.fld (LN_TXEQ n.val) 3 0 + s.fld (LN_TXEQ n.val) 13 8 + s.fld (LN_TXEQ n.val) 20 16; (s.laneState n.val ≠ lsACQUIRE) ∧ (bitAt (s.lane n.val).req 8 = false) ∧ ((∀ j < 3, j ≠ k.val → tapOf (s.lane n.val).req j = 0)) ∧ (tapOf (s.lane n.val).stat k.val = 0)) ∧
    (∃ (s : State) (n : Fin 11) (role laneNo hubId flags : BitVec 8) (dev : BitVec 64), (8 ≤ n.val) ∧ (s.laneState n.val = lsCAPS)) ∧
    (∃ (s : State) (n : Fin 11), (8 ≤ n.val) ∧ (s.laneState n.val = lsBITLOCK)) ∧
    (∃ (s : State) (n : Fin 11) (far : Bool), ((s.lane n.val).pre ≠ far)) ∧
    (∃ (s : State) (rx n : Fin 11) (flags : BitVec 8) (control status : BitVec 32), (rx.val = 8 ∨ rx.val = 10) ∧ (n.val ≤ 6) ∧ (s.laneState n.val = lsBITLOCK)) ∧
    (∃ (s : State) (n : Fin 11) (k : Nat), (laneTimeout (s.laneState n.val) = some k) ∧ ((s.lane n.val).since + k ≤ s.xo)) ∧
    (∃ (s : State) (n : Fin 11), (lsTRAIN ≤ s.laneState n.val) ∧ (s.laneState n.val ≤ lsCAPS)) ∧
    (∃ (s : State) (n : Fin 11), (s.laneState n.val = lsDOWN) ∧ ((s.lane n.val).since + 2 ^ (s.lane n.val).wait * 40000 ≤ s.xo)) :=
  ⟨⟨st (hub 2 [(LN_STATUS 3, 2)]), 3, by decide +kernel⟩,
   ⟨st { hub 2 [(LN_STATUS 8, 3)] with lanes := [(8, { farReady := true })] }, 8, 5, 6, 7, by decide +kernel⟩,
   ⟨st (hub 2 [(LN_STATUS 8, 7)]), 8, 5, 6, 7, by decide +kernel⟩,
   ⟨st { hub 2 [(LN_STATUS 8, 3)] with lanes := [(8, { ready := true })] }, 8, 0x21, 0x100, by decide +kernel⟩,
   ⟨st (hub 2 [(LN_STATUS 3, 8)]), 3, by decide +kernel⟩,
   ⟨st { hub 2 [(LN_STATUS 3, 3)] with lanes := [(3, { req := 16 })] }, 3, 0, by decide +kernel⟩,
   ⟨st { hub 2 [(LN_STATUS 9, 6)] with lanes := [(9, { farAck := true })] }, 9, 1, 7, 3, 0, 5, by decide +kernel⟩,
   ⟨st (hub 2 [(LN_STATUS 8, 4)]), 8, by decide +kernel⟩,
   ⟨st (hub 2 [(LN_STATUS 8, 4)]), 8, false, by decide +kernel⟩,
   ⟨st (hub 2 [(LN_STATUS 3, 4)]), 8, 3, 0, 0, 0, by decide +kernel⟩,
   ⟨st { hub 2 [(LN_STATUS 3, 3)] with xo := 20000000 }, 3, 20000000, by decide +kernel⟩,
   ⟨st (hub 2 [(LN_STATUS 8, 5)]), 8, by decide +kernel⟩,
   ⟨st { hub 2 [(LN_STATUS 8, 1)] with xo := 160000, lanes := [(8, { wait := 2 })] }, 8, by decide +kernel⟩⟩

theorem witness_LanesInService :
    (∃ (s : State) (n : Fin 11) (levels : BitVec 1600) (after margin : Int), (8 ≤ n.val) ∧ (s.laneState n.val = lsACTIVE) ∧ (Car.decode false (s.rxBits n.val (unpackLevels levels.toNat)) = none)) ∧
    (∃ (s : State) (n : Fin 11) (levels : BitVec 1600) (after margin : Int) (c : Car) (k : Nat), (8 ≤ n.val) ∧ (s.laneState n.val = lsACTIVE) ∧ (Car.decode false (s.rxBits n.val (unpackLevels levels.toNat)) = some (c, k)) ∧ (c.typ = tyIDLE)) ∧
    (∃ (s : State) (n : Fin 11) (levels : BitVec 1600) (after margin : Int) (c : Car) (k : Nat), (8 ≤ n.val) ∧ (s.laneState n.val = lsACQUIRE) ∧ (Car.decode true (s.rxBits n.val (unpackLevels levels.toNat)) = some (c, k)) ∧ ((s.lane n.val).lastSeq = some ((c.cseq + 63) % 64)) ∧ ((s.lane n.val).good = 15)) ∧
    (∃ (s : State) (rx n : Fin 11) (state flags : BitVec 8) (control status : BitVec 32), (rx.val = 8 ∨ rx.val = 10) ∧ (n.val ≤ 6)) ∧
    (∃ (s : State) (n : Fin 11), (s.laneState n.val = lsACQUIRE) ∧ ((s.lane n.val).entered + (s.lane n.val).blind ≤ s.frame)) ∧
    (∃ (s : State) (n : Nat), (s.clockLane = some n) ∧ (s.switchable n = true) ∧ (s.tt.unlocked = true)) ∧
    (∃ (s : State) (n : Nat), (s.clockLane = some n) ∧ (s.tt.unlocked = false)) :=
  ⟨⟨st (hub 2 [(LN_STATUS 8, 7)]), 8, 0, 0, 0, by decide +kernel⟩,
   ⟨st (hub 2 [(LN_STATUS 8, 7)]), 8, carLevels, 0, 0, car, 0, by decide +kernel⟩,
   ⟨st { hub 2 [(LN_STATUS 8, 8)] with lanes := [(8, { lastSeq := some 63, good := 15 })] }, 8, carLevels, 0, 0, car, 0, by decide +kernel⟩,
   ⟨st (hub 2 [(LN_STATUS 2, 7)]), 8, 2, 8, 0, 0x21, 0, by decide +kernel⟩,
   ⟨st { hub 2 [(LN_STATUS 8, 8)] with frame := 1024 }, 8, by decide +kernel⟩,
   ⟨st { hub 2 [(TT_CLOCK, 0x11), (LN_STATUS 10, 7), (LN_STATUS 8, 1), (TT_STATUS, 0)] with tt := { unlocked := true } }, 8, by decide +kernel⟩,
   ⟨st (hub 2 [(TT_CLOCK, 0x11), (LN_STATUS 10, 7), (LN_STATUS 8, 1), (TT_STATUS, 0)]), 8, by decide +kernel⟩⟩

theorem witness_CommandsArrive :
    (∃ (s : State) (port : Fin 4) (m : List Byte), let src := sourceOf (32 + port.val); let r := MBX_SRC src; let d := (pl m 4 2 + 2 ^ 16 - s.fld r 15 0) % 2 ^ 16; let c := parseCmd (32 + port.val) m; (s.takesFrom (32 + port.val) = true) ∧ (20 ≤ m.length) ∧ (20 ≤ pl m 2 2) ∧ (RingClean s.toHub (32 + port.val)) ∧ (s.count (32 + port.val) < 64) ∧ (messageStatus m = none) ∧ ((src = 0 → s.linkPaused = false)) ∧ (s.mbx.taken = []) ∧ (knownOp (pl m 6 2) = true) ∧ ((∀ x ∈ s.mbx.held, x.1.src ≠ src)) ∧ (pl m 10 1 = 1 ∨ s.bit r 31 = false ∨ d = 1)) ∧
    (∃ (s : State) (port : Fin 4) (m : List Byte), let src := sourceOf (32 + port.val); let r := MBX_SRC src; let d := (pl m 4 2 + 2 ^ 16 - s.fld r 15 0) % 2 ^ 16; let c := parseCmd (32 + port.val) m; (s.takesFrom (32 + port.val) = true) ∧ (20 ≤ m.length) ∧ (20 ≤ pl m 2 2) ∧ (RingClean s.toHub (32 + port.val)) ∧ (s.count (32 + port.val) < 64) ∧ (messageStatus m = none) ∧ ((src = 0 → s.linkPaused = false)) ∧ (s.mbx.taken = []) ∧ (knownOp (pl m 6 2) = true) ∧ ((∀ x ∈ s.mbx.held, x.1.src ≠ src)) ∧ (pl m 10 1 = 0) ∧ (s.bit r 31 = true) ∧ (d = 0 ∨ 65529 ≤ d) ∧ (c.cmdKey ∈ s.mbx.recent) ∧ ((∀ x ∈ s.mbx.stored, x.cmdKey ≠ c.cmdKey))) ∧
    (∃ (s : State) (port : Fin 4) (m : List Byte), let src := sourceOf (32 + port.val); let r := MBX_SRC src; let d := (pl m 4 2 + 2 ^ 16 - s.fld r 15 0) % 2 ^ 16; let c := parseCmd (32 + port.val) m; ∃ x, let far := src = 2 ∧ (loadingCmd x.op ∨ ¬ s.joined); (s.takesFrom (32 + port.val) = true) ∧ (20 ≤ m.length) ∧ (20 ≤ pl m 2 2) ∧ (RingClean s.toHub (32 + port.val)) ∧ (s.count (32 + port.val) < 64) ∧ (messageStatus m = none) ∧ ((src = 0 → s.linkPaused = false)) ∧ (s.mbx.taken = []) ∧ (knownOp (pl m 6 2) = true) ∧ ((∀ x ∈ s.mbx.held, x.1.src ≠ src)) ∧ (pl m 10 1 = 0) ∧ (s.bit r 31 = true) ∧ (d = 0 ∨ 65529 ≤ d) ∧ (c.cmdKey ∈ s.mbx.recent) ∧ ((s.mbx.stored.reverse.find? fun (y : Resp) => y.cmdKey == c.cmdKey) = some x) ∧ (s.count (36 + src) < 64) ∧ (s.count 36 < 64)) ∧
    (∃ (s : State) (port : Fin 4) (m : List Byte), let src := sourceOf (32 + port.val); let r := MBX_SRC src; let d := (pl m 4 2 + 2 ^ 16 - s.fld r 15 0) % 2 ^ 16; let c := parseCmd (32 + port.val) m; (s.takesFrom (32 + port.val) = true) ∧ (20 ≤ m.length) ∧ (20 ≤ pl m 2 2) ∧ (RingClean s.toHub (32 + port.val)) ∧ (s.count (32 + port.val) < 64) ∧ (messageStatus m = none) ∧ ((src = 0 → s.linkPaused = false)) ∧ (s.mbx.taken = []) ∧ (knownOp (pl m 6 2) = true) ∧ ((∀ x ∈ s.mbx.held, x.1.src ≠ src)) ∧ (pl m 10 1 = 0) ∧ (s.bit r 31 = true) ∧ (2 ≤ d) ∧ (d ≤ 8)) ∧
    (∃ (s : State) (port : Fin 4) (m : List Byte), let src := sourceOf (32 + port.val); let r := MBX_SRC src; let d := (pl m 4 2 + 2 ^ 16 - s.fld r 15 0) % 2 ^ 16; let c := parseCmd (32 + port.val) m; let far := src = 2 ∧ (loadingCmd c.op = true ∨ s.joined = false); (s.takesFrom (32 + port.val) = true) ∧ (20 ≤ m.length) ∧ (20 ≤ pl m 2 2) ∧ (RingClean s.toHub (32 + port.val)) ∧ (s.count (32 + port.val) < 64) ∧ (messageStatus m = none) ∧ ((src = 0 → s.linkPaused = false)) ∧ (s.mbx.taken = []) ∧ (pl m 10 1 = 0) ∧ (s.bit r 31 = true) ∧ ((9 ≤ d ∧ d ≤ 65528) ∨ ((d = 0 ∨ 65529 ≤ d) ∧ c.cmdKey ∉ s.mbx.recent)) ∧ (s.count (36 + src) < 64) ∧ (s.count 36 < 64)) ∧
    (∃ (s : State) (port : Fin 4) (m : List Byte), let src := sourceOf (32 + port.val); let r := MBX_SRC src; let d := (pl m 4 2 + 2 ^ 16 - s.fld r 15 0) % 2 ^ 16; let c := parseCmd (32 + port.val) m; ∃ (st : Nat), (s.takesFrom (32 + port.val) = true) ∧ (20 ≤ m.length) ∧ (20 ≤ pl m 2 2) ∧ (RingClean s.toHub (32 + port.val)) ∧ (s.count (32 + port.val) < 64) ∧ (messageStatus m = some st) ∧ ((src = 0 → s.linkPaused = false))) ∧
    (∃ (s : State) (port : Fin 4) (m : List Byte), let src := sourceOf (32 + port.val); let r := MBX_SRC src; let d := (pl m 4 2 + 2 ^ 16 - s.fld r 15 0) % 2 ^ 16; let c := parseCmd (32 + port.val) m; (s.takesFrom (32 + port.val) = true) ∧ (20 ≤ m.length) ∧ (20 ≤ pl m 2 2) ∧ (s.count (32 + port.val) < 64) ∧ (src = 0) ∧ (s.linkPaused = true)) ∧
    (∃ (s : State) (port : Fin 4) (m : List Byte), let src := sourceOf (32 + port.val); let r := MBX_SRC src; let d := (pl m 4 2 + 2 ^ 16 - s.fld r 15 0) % 2 ^ 16; let c := parseCmd (32 + port.val) m; (s.takesFrom (32 + port.val) = true) ∧ (20 ≤ m.length) ∧ (20 ≤ pl m 2 2) ∧ (64 ≤ s.count (32 + port.val)) ∧ (s.fld (SD_STATUS (32 + port.val)) 1 0 = 2)) ∧
    (∃ (s : State) (src : Fin 3) (seq : BitVec 16) (x : Cmd × Nat), ((s.mbx.held.find? fun y => y.1.src == src.val && y.1.seq == seq.toNat) = some x) ∧ ((src = 0 → s.linkPaused = false)) ∧ (x.2 + s.fld MBX_CTRL 15 8 * 4000 ≤ s.xo)) ∧
    (∃ (s : State) (d : Def) (l : Nat), (s.mbx.deferred = [d]) ∧ (s.limitOf d = some l) ∧ (d.since + l ≤ s.xo) ∧ (s.bit PAIR_STATUS 15 = false) ∧ (s.mbx.both = [])) ∧
    (∃ (s : State) (m : List Byte), (s.mode ≠ mDORMANT) ∧ (s.bit RP_PD_STATUS 1 = true) ∧ (4 ≤ m.length) ∧ (m.length = pl m 2 2) ∧ (pl m 0 1 = 0x20)) ∧
    (∃ (s : State) (m : List Byte), (s.mode ≠ mDORMANT) ∧ (s.bit RP_PD_STATUS 1 = true) ∧ (m.length < 4 ∨ m.length ≠ pl m 2 2)) ∧
    (∃ (s : State) (n : Nat) (r : Resp) (st : Nat), (s.cspiNext = some (.resp r st)) ∧ (s.mode ≠ mDORMANT) ∧ (s.bit RP_PD_STATUS 1 = true) ∧ (RingClean s.toHub 37)) ∧
    (∃ (s : State) (n : Nat), (s.cspiNext = none) ∧ (s.mode ≠ mDORMANT) ∧ (s.bit RP_PD_STATUS 1 = true)) ∧
    (∃ (s : State), (s.mode ≠ mDORMANT) ∧ (s.bit RP_PD_STATUS 1 = true)) ∧
    (∃ (s : State), (s.mode = mDORMANT ∨ s.bit RP_PD_STATUS 1 = false)) :=
  ⟨⟨st (hub 2 []), 2, ([32, 0, 20, 0, 5, 0, 1, 1, 0, 0, 0, 0, 254, 124] ++ List.replicate 6 0), by decide +kernel, by decide +kernel, by decide +kernel, ringClean_of (by decide +kernel) (by decide +kernel) _, by decide +kernel, by decide +kernel⟩,
   ⟨st { hub 2 [(MBX_SRC 1, 0x80000005)] with mbx := { recent := [(1, 5, 31998)] } }, 2, ([32, 0, 20, 0, 5, 0, 1, 1, 0, 0, 0, 0, 254, 124] ++ List.replicate 6 0), by decide +kernel, by decide +kernel, by decide +kernel, ringClean_of (by decide +kernel) (by decide +kernel) _, by decide +kernel, by decide +kernel⟩,
   ⟨st { hub 2 [(MBX_SRC 1, 0x80000005)] with mbx := { recent := [(1, 5, 31998)], stored := [{ src := 1, seq := 5, op := 0x0101, status := 0, target := 0, crc := 31998, disp := 0, payload := [7] }], stamp := 3 } }, 2, ([32, 0, 20, 0, 5, 0, 1, 1, 0, 0, 0, 0, 254, 124] ++ List.replicate 6 0), { src := 1, seq := 5, op := 0x0101, status := 0, target := 0, crc := 31998, disp := 0, payload := [7] }, by decide +kernel, by decide +kernel, by decide +kernel, ringClean_of (by decide +kernel) (by decide +kernel) _, by decide +kernel, by decide +kernel⟩,
   ⟨st (hub 2 [(MBX_SRC 1, 0x80000005)]), 2, ([32, 0, 20, 0, 9, 0, 1, 1, 0, 0, 0, 0, 169, 237] ++ List.replicate 6 0), by decide +kernel, by decide +kernel, by decide +kernel, ringClean_of (by decide +kernel) (by decide +kernel) _, by decide +kernel, by decide +kernel⟩,
   ⟨st (hub 2 [(MBX_SRC 1, 0x80000006)]), 2, ([32, 0, 20, 0, 5, 0, 1, 1, 0, 0, 0, 0, 254, 124] ++ List.replicate 6 0), by decide +kernel, by decide +kernel, by decide +kernel, ringClean_of (by decide +kernel) (by decide +kernel) _, by decide +kernel, by decide +kernel⟩,
   ⟨st (hub 2 []), 2, ([32, 0, 20, 0, 5, 0, 1, 1, 0, 0, 0, 0, 255, 124] ++ List.replicate 6 0), stBAD_CRC, by decide +kernel, by decide +kernel, by decide +kernel, ringClean_of (by decide +kernel) (by decide +kernel) _, by decide +kernel, by decide +kernel⟩,
   ⟨st (hub 2 [(FW_STATUS, 2)]), 0, ([32, 0, 20, 0, 5, 0, 1, 1, 0, 0, 0, 0, 254, 124] ++ List.replicate 6 0), by decide +kernel⟩,
   ⟨st (hub 2 [(SD_TAIL 34, 64), (SD_STATUS 34, 2)]), 2, ([32, 0, 20, 0, 5, 0, 1, 1, 0, 0, 0, 0, 254, 124] ++ List.replicate 6 0), by decide +kernel⟩,
   ⟨st { hub 2 [] with xo := 400000, mbx := { held := [(cmd9, 0)] } }, 1, 9, (cmd9, 0), by decide +kernel⟩,
   ⟨st { hub 2 [] with xo := 40000, mbx := { deferred := [{ hdr := hd, op := 0x0904, arg := 16, payload := [], since := 0 }] } }, { hdr := hd, op := 0x0904, arg := 16, payload := [], since := 0 }, 40000, by decide +kernel⟩,
   ⟨st (hub 2 []), ([32, 0, 20, 0, 5, 0, 1, 1, 0, 0, 0, 0, 254, 124] ++ List.replicate 6 0), by decide +kernel⟩,
   ⟨st (hub 2 []), [32, 0], by decide +kernel⟩,
   ⟨st { hub 2 [(SD_TAIL 37, 1)] with sid := [(37, [.resp resp0 3])] }, 20, resp0, 3, by decide +kernel, by decide +kernel, by decide +kernel, ringClean_of (by decide +kernel) (by decide +kernel) _⟩,
   ⟨st (hub 2 []), 5, by decide +kernel⟩,
   ⟨st (hub 2 []), by decide +kernel⟩,
   ⟨st (hub 2 [(RP_PD_STATUS, 1)]), by decide +kernel⟩⟩

theorem witness_TimeCommands :
    (∃ (s : State) (h : Hdr), (Accepts s.toHub h 0x0B01)) ∧
    (∃ (s : State) (h : Hdr) (p : List Byte), (Accepts s.toHub h 0x0B02) ∧ (p.length = 20) ∧ (pl p 0 1 ≤ 3) ∧ (10 ≤ pl p 2 1) ∧ (pl p 2 1 ≤ 24) ∧ (pl p 3 1 ≤ 7) ∧ (1 ≤ pl p 8 4) ∧ (pl p 8 4 < 2 ^ 31) ∧ (1 ≤ pl p 12 2) ∧ (1 ≤ pl p 14 2) ∧ (4 ≤ pl p 16 1) ∧ (pl p 16 1 ≤ 15) ∧ (plZero p 17 3 = true) ∧ (s.modeIn [mRUN, mPULSE] = false ∨ pl p 0 1 = 3)) ∧
    (∃ (s : State) (h : Hdr) (p : List Byte), (Accepts s.toHub h 0x0B03) ∧ (p.length = 4) ∧ (pl p 0 1 ≤ 10) ∧ (plZero p 1 1 = true) ∧ (s.modeIn [mRUN, mPULSE] = false)) ∧
    (∃ (s : State) (h : Hdr) (p : List Byte), (Accepts s.toHub h 0x0B04) ∧ (p.length = 12) ∧ (plZero p 9 3 = true) ∧ (s.modeIn [mRUN, mPULSE] = false)) ∧
    (∃ (s : State) (h : Hdr) (p : List Byte), (Accepts s.toHub h 0x0B05) ∧ (p.length = 8) ∧ (pl p 0 2 ≤ 1023) ∧ (plZero p 3 1 = true) ∧ (plZero p 6 2 = true) ∧ (pl p 4 2 ≤ 1023) ∧ (pl p 2 1 = 0)) ∧
    (∃ (s : State) (h : Hdr) (p : List Byte), (Accepts s.toHub h 0x0B05) ∧ (p.length = 8) ∧ (pl p 0 2 ≤ 1023) ∧ (plZero p 3 1 = true) ∧ (plZero p 6 2 = true) ∧ (pl p 4 2 ≤ 1023) ∧ (pl p 2 1 = 2) ∧ (s.modeIn [mRUN, mPULSE] = false)) ∧
    (∃ (s : State) (h : Hdr) (p : List Byte), let g := ((if s.slaved then s.pr.farPhase else pl p 0 2) * 16 + 16384 - s.tm.mean % 16384) % 16384; let v := (rdiv g 16).toNat % 1024; (Accepts s.toHub h 0x0B05) ∧ (p.length = 8) ∧ (pl p 0 2 ≤ 1023) ∧ (plZero p 3 1 = true) ∧ (plZero p 6 2 = true) ∧ (pl p 4 2 ≤ 1023) ∧ (pl p 2 1 = 1) ∧ (s.modeIn [mRUN, mPULSE] = false) ∧ (s.servo = 2 ∨ s.servo = 3) ∧ (s.tm.target.isSome = true)) ∧
    (∃ (s : State) (h : Hdr), (Accepts s.toHub h 0x0B06)) :=
  ⟨⟨st (hub 2 []), hd, by decide +kernel⟩,
   ⟨st (hub 2 []), hd, [3, 5, 10, 7, 1, 0, 2, 0, 1, 0, 0, 0, 1, 0, 1, 0, 15, 0, 0, 0], by decide +kernel⟩,
   ⟨st (hub 2 []), hd, [10, 0, 52, 18], by decide +kernel⟩,
   ⟨st (hub 2 []), hd, [7, 0, 0, 0, 1, 0, 0, 0, 9, 0, 0, 0], by decide +kernel⟩,
   ⟨st (hub 2 []), hd, [255, 3, 0, 0, 5, 0, 0, 0], by decide +kernel⟩,
   ⟨st (hub 2 []), hd, [100, 0, 2, 0, 255, 3, 0, 0], by decide +kernel⟩,
   ⟨st { hub 2 [(TM_STATUS, 2)] with tm := { target := some 5, mean := 77 } }, hd, [100, 0, 1, 0, 5, 0, 0, 0], by decide +kernel⟩,
   ⟨st (hub 2 []), hd, by decide +kernel⟩⟩

theorem witness_TimeMessages :
    (∃ (s : State) (n : Fin 11) (dom ver : BitVec 8) (seq : BitVec 16) (lo hi : BitVec 32) (frac : BitVec 8) (cor : BitVec 32) (f t2 : Nat), let ms := timeDiff t2 (messageStamp lo.toNat hi.toNat frac.toNat cor.toNat); (s.tm.sync = some (seq.toNat, f, t2)) ∧ (s.frame ≤ f + 1024) ∧ (s.timeOk n.val dom.toNat ver.toNat = true)) ∧
    (∃ (s : State) (n : Fin 11) (dom ver : BitVec 8) (seq : BitVec 16) (lo hi : BitVec 32) (frac : BitVec 8) (cor : BitVec 32) (f t3 : Nat) (ms : Int), let df := delayFilter (s.fld TM_CTRL 2 0) s.tm.df ((ms + timeDiff (messageStamp lo.toNat hi.toNat frac.toNat cor.toNat) t3) * 2 ^ 15); (s.tm.dreq = some (seq.toNat, f, some t3)) ∧ (s.frame ≤ f + 1024) ∧ (s.timeOk n.val dom.toNat ver.toNat = true) ∧ (s.tm.ms = some ms)) :=
  ⟨⟨st { hub 2 [(TM_CTRL, 8)] with frame := 50, tm := { sync := some (9, 40, 500000), df := some 65536 } }, 8, 0, 2, 9, 1000, 0, 0, 0, 40, 500000, by decide +kernel⟩,
   ⟨st { hub 2 [] with frame := 50, tm := { dreq := some (9, 40, some 1000), ms := some 4000 } }, 8, 0, 2, 9, 30, 0, 5, 0, 40, 1000, 4000, by decide +kernel⟩⟩

theorem witness_TimeEvents :
    (∃ (s : State), let n := if s.slaved then 7 else 0; (s.laneState n = lsACTIVE) ∧ (s.tm.dreqAt + s.fld TM_STEP 31 16 * 1024 ≤ s.frame)) ∧
    (∃ (s : State), (s.tm.respAt + 16 * s.fld TM_STEP 31 16 * 1024 ≤ s.frame)) ∧
    (∃ (s : State) (st : Int ⊕ Nat), let new := match st with | .inl d => (((s.tm.now : Int) + d).emod (2 ^ 72)).toNat | .inr v => v % 2 ^ 72; (s.tm.step = some st) ∧ (s.tm.stepAt < s.frame) ∧ (s.stepMode = true)) ∧
    (∃ (s : State) (st : Int ⊕ Nat), (s.tm.step = some st) ∧ (s.tm.stepAt < s.frame) ∧ (s.stepMode = false)) ∧
    (∃ (s : State), (s.tm.followAt + 2 ^ s.fld TM_CTRL 12 8 ≤ s.frame) ∧ (s.servo = 2 ∨ s.servo = 3)) ∧
    (∃ (s : State), (2 ^ 64 ≤ s.tm.cnt)) ∧
    (∃ (s : State), (s.tm.epochDue = true) ∧ (s.fwRuns = true)) ∧
    (∃ (s : State), let mean := ((s.tm.phiSum / s.tm.phiCnt + 128) / 256) % 16384; (1024 ≤ s.tm.phiCnt)) ∧
    (∃ (s : State) (g : Nat), let p := s.fld TM_PHASE 9 0; let e := phaseErr g p; (s.tm.target = some g) ∧ (s.bit TM_CTRL 4 = true) ∧ (s.servo = 2 ∨ s.servo = 3) ∧ (s.stepMode = true) ∧ (s.tm.acquire = true)) ∧
    (∃ (s : State) (g : Nat), let p := s.fld TM_PHASE 9 0; let e := phaseErr g p; (s.tm.target = some g) ∧ (s.bit TM_CTRL 4 = true) ∧ (s.servo = 2 ∨ s.servo = 3) ∧ (s.stepMode = false) ∧ (12 ≤ e.natAbs) ∧ (s.tm.slewAt + 2 ^ s.fld TM_PHASE 15 12 ≤ s.frame)) :=
  ⟨⟨st { hub 4 [(LN_STATUS 0, 7)] with frame := 40000000 }, by decide +kernel⟩,
   ⟨st { hub 4 [] with frame := 2000000000 }, by decide +kernel⟩,
   ⟨st { hub 2 [] with frame := 9, tm := { step := some (.inl (-77)), stepAt := 8, now := 5000 } }, .inl (-77), by decide +kernel⟩,
   ⟨st { hub 4 [] with frame := 9, tm := { step := some (.inl (-77)), stepAt := 8, now := 5000 } }, .inl (-77), by decide +kernel⟩,
   ⟨st { hub 4 [(TM_STATUS, 3)] with frame := 20000000 }, by decide +kernel⟩,
   ⟨st { hub 4 [] with tm := { cnt := 18446744073709551700 } }, by decide +kernel⟩,
   ⟨st { hub 2 [] with tm := { epochDue := true, epoch := 3 } }, by decide +kernel⟩,
   ⟨st { hub 2 [] with tm := { phiCnt := 1024, phiSum := 1024 * 256 * 300 } }, by decide +kernel⟩,
   ⟨st { hub 2 [(TM_STATUS, 3), (TM_CTRL, 0x10)] with tm := { target := some 800, acquire := true } }, 800, by decide +kernel⟩,
   ⟨st { hub 4 [(TM_STATUS, 3), (TM_CTRL, 0x10)] with frame := 4096000, tm := { target := some 800 } }, 800, by decide +kernel⟩⟩

theorem witness_PairCommands :
    (∃ (s : State) (h : Hdr) (p : List Byte), (Accepts s.toHub h 0x0C01) ∧ (p.length = 12) ∧ (pl p 0 1 ≤ 1) ∧ (24 ≤ s.fld TT_LAT 5 0) ∧ (plZero p 1 3 = true) ∧ (s.mode = mIDLE) ∧ (s.joinSet = false)) ∧
    (∃ (s : State) (h : Hdr), (Accepts s.toHub h 0x0C02) ∧ (s.modeIn [mIDLE, mTEST] = true) ∧ (s.joinSet = true)) ∧
    (∃ (s : State) (h : Hdr) (p : List Byte), (Accepts s.toHub h 0x0C03) ∧ (p.length = 4) ∧ (pl p 0 1 ≤ 1) ∧ (pl p 2 1 ≤ 1) ∧ (plZero p 3 1 = true) ∧ (newer (pl p 1 1) s.pairEpoch = true) ∧ (s.pairState ≠ 0) ∧ (s.leader = (pl p 0 1 == 1))) ∧
    (∃ (s : State) (h : Hdr) (p : List Byte), (Accepts s.toHub h 0x0C03) ∧ (p.length = 4) ∧ (pl p 0 1 ≤ 1) ∧ (pl p 2 1 ≤ 1) ∧ (plZero p 3 1 = true) ∧ (newer (pl p 1 1) s.pairEpoch = true) ∧ (s.pairState ≠ 0) ∧ (s.leader ≠ (pl p 0 1 == 1))) ∧
    (∃ (s : State) (h : Hdr) (p : List Byte), (Accepts s.toHub h 0x0C04) ∧ (p.length = 4) ∧ (pl p 0 1 ≤ 1) ∧ (1 ≤ pl p 1 1) ∧ (1 ≤ pl p 2 2)) ∧
    (∃ (s : State) (h : Hdr), (Accepts s.toHub h 0x0C05)) :=
  ⟨⟨st (hub 2 []), hd, [1, 0, 0, 0, 7, 0, 0, 0, 9, 0, 0, 0], by decide +kernel⟩,
   ⟨st (hub 2 [(PAIR_CTRL, 1), (PAIR_STATUS, 0x24000)]), hd, by decide +kernel⟩,
   ⟨st (hub 2 [(PAIR_CTRL, 1), (PAIR_STATUS, 0x24000)]), hd, [1, 1, 1, 0], by decide +kernel⟩,
   ⟨st (hub 2 [(PAIR_CTRL, 1), (PAIR_STATUS, 0x24000)]), hd, [0, 1, 1, 0], by decide +kernel⟩,
   ⟨st (hub 2 []), hd, [1, 5, 44, 1], by decide +kernel⟩,
   ⟨st (hub 2 []), hd, by decide +kernel⟩⟩

theorem witness_LeaderForwards :
    (∃ (s : Hub) (op : Nat) (h : Hdr) (p : List Byte) (body : Hub → Reply × Hub), let t := s.command op h p body; (s.mayStart h op = true) ∧ ((s.takeCmd h op).generic op h = none) ∧ (h.target = 1) ∧ ((s.takeCmd h op).count 38 < 64)) ∧
    (∃ (s : Hub) (op : Nat) (h : Hdr) (p : List Byte) (body : Hub → Reply × Hub), let t := s.command op h p body; (Defers s h op) ∧ (bothCmd op = true) ∧ (s.joined = true) ∧ (s.leader = true) ∧ (refusal (body (s.takeCmd h op)).1 = stOK)) ∧
    (∃ (s : State) (h : Hdr) (p : List Byte), (s.mayStart h 0x0103 = true) ∧ ((s.takeCmd h 0x0103).generic 0x0103 h = none) ∧ (h.target = 1) ∧ ((s.takeCmd h 0x0103).count 38 < 64)) ∧
    (∃ (s : State) (h : Hdr) (p : List Byte), (Defers s.toHub h 0x0305) ∧ (s.joined = true) ∧ (s.leader = true) ∧ (s.modeIn ttTurnModes = true) ∧ (p.length = 4) ∧ (plZero p 2 2 = true) ∧ (64 ≤ pl p 0 2)) ∧
    (∃ (s : Hub) (b : Both), (s.mbx.both = [b]) ∧ (b.op = 0x0305) ∧ (b.due.any (· ≤ s.frame) = true) ∧ (s.modeIn ttTurnModes = true) ∧ (b.payload.length = 4) ∧ (plZero b.payload 2 2 = true) ∧ (64 ≤ pl b.payload 0 2)) :=
  ⟨⟨(hub 2 [(PAIR_CTRL, 1), (PAIR_STATUS, 0x24000)]), 0x1301, { src := 0, seq := 3, target := 1, crc := 0 }, [7], fun s => (.now stOK [], s), by decide +kernel⟩,
   ⟨(hub 2 [(PAIR_CTRL, 1), (PAIR_STATUS, 0x24000)]), 0x0306, hd, [30, 0, 0, 0], ttSetLatencyBody [30, 0, 0, 0], by decide +kernel⟩,
   ⟨st (hub 2 [(PAIR_CTRL, 1), (PAIR_STATUS, 0x24000)]), { src := 0, seq := 3, target := 1, crc := 0 }, [], by decide +kernel⟩,
   ⟨st (hub 2 [(PAIR_CTRL, 1), (PAIR_STATUS, 0x24000)]), hd, [64, 0, 0, 0], by decide +kernel⟩,
   ⟨{ hub 2 [] with frame := 9, mbx := { both := [{ hdr := hd, op := 0x0305, n := 4, payload := [64, 0, 0, 0], due := some 5 }] } }, { hdr := hd, op := 0x0305, n := 4, payload := [64, 0, 0, 0], due := some 5 }, by decide +kernel⟩⟩

theorem witness_PairEvents :
    (∃ (s : State) (v : BitVec 1472) (after margin : Int), let h := bits v.toNat 1471 1408; (s.laneState 9 = lsACTIVE) ∧ ((streamItems s.pr.part s.pr.began 0 (bits v.toNat 879 874) ((beBytes 184 v.toNat).drop 76) (s.captureAt after)).1 = []) ∧ (RingClean s.toHub 51)) ∧
    (∃ (s : Hub), ∃ f, (s.pr.gapFrom = some f) ∧ (f ≤ s.frame + 1)) ∧
    (∃ (s : Hub), (s.revertComes = true)) ∧
    (∃ (s : Hub), (s.inGap = true) ∧ (s.pr.gapTo ≤ s.frame + 1) ∧ (s.pr.gapFrom = none) ∧ (s.revertComes = false)) ∧
    (∃ (s : State), (s.pr.gapDone = true ∨ (s.inGap = true ∧ s.pr.gapTo ≤ s.frame))) ∧
    (∃ (s : State), (s.joinSet = true) ∧ (RingClean s.toHub 51) ∧ (s.pr.hbAt + s.fld PAIR_TIMING 7 0 * 1024 ≤ s.frame)) ∧
    (∃ (s : State) (x : Nat), (s.pr.healthySince = some x) ∧ (s.pr.revertAt = none) ∧ (s.inGap = false) ∧ (x + s.holdoff * 2 ^ s.fld PAIR_REVERT 1 0 ≤ s.xo)) ∧
    (∃ (s : State), (s.revertsNow = true)) ∧
    (∃ (s : State), (s.leader = true) ∧ (s.pr.leadSince + 8 * s.holdoff ≤ s.xo)) ∧
    (∃ (s : State) (far : Fin 8), let ok := if s.leader then modesFit s.mode far.val else modesFit far.val s.mode; (s.joined = true)) :=
  ⟨⟨st (hub 2 [(LN_STATUS 9, 7)]), 0, 0, 0, by decide +kernel, by decide +kernel, ringClean_of (by decide +kernel) (by decide +kernel) _⟩,
   ⟨{ hub 2 [(PAIR_STATUS, 0x20000)] with frame := 99, pr := { gapFrom := some 100 } }, 100, by decide +kernel⟩,
   ⟨{ hub 2 [(PAIR_STATUS, 0x20000)] with frame := 99, tt := { crossing := 3199 }, pr := { revertAt := some 100 } }, by decide +kernel⟩,
   ⟨{ hub 2 [(PAIR_STATUS, 0x28000)] with frame := 99, pr := { gapTo := 100 } }, by decide +kernel⟩,
   ⟨st { hub 2 [(PAIR_STATUS, 0x20000)] with frame := 99, pr := { gapDone := true } }, by decide +kernel⟩,
   ⟨st { hub 2 [(PAIR_CTRL, 1)] with frame := 1048576 }, by decide +kernel, ringClean_of (by decide +kernel) (by decide +kernel) _, by decide +kernel⟩,
   ⟨st { hub 2 [(PAIR_CTRL, 1)] with xo := 4000000000, pr := { healthySince := some 7 } }, 7, by decide +kernel⟩,
   ⟨st { hub 2 [(PAIR_STATUS, 0x20000)] with frame := 99, pr := { revertAt := some 99 } }, by decide +kernel⟩,
   ⟨st { hub 2 [(PAIR_STATUS, 0x24000), (PAIR_REVERT, 3)] with xo := 40000000000 }, by decide +kernel⟩,
   ⟨st (hub 2 [(PAIR_STATUS, 0x24000)]), 5, by decide +kernel⟩⟩

theorem witness_MonitoringCommands :
    (∃ (s : State) (h : Hdr) (p : List Byte), let ibias := fun i => if 1 ≤ pl p (5 + 2 * i) 1 ∧ pl p (5 + 2 * i) 1 ≤ 100 then pl p (5 + 2 * i) 1 else s.fld (MON_PIN (pl p 0 1 + i)) 14 8; (Accepts s.toHub h 0x0D01) ∧ (p.length = 4 + 2 * pl p 1 1) ∧ (1 ≤ pl p 1 1) ∧ (pl p 0 1 + pl p 1 1 ≤ 32) ∧ (plZero p 2 2 = true) ∧ ((∀ i < pl p 1 1, pl p (4 + 2 * i) 1 ≤ 3 ∧ (pl p (4 + 2 * i) 1 = 3 → 1 ≤ pl p (5 + 2 * i) 1 ∧ pl p (5 + 2 * i) 1 ≤ 100)))) ∧
    (∃ (s : State) (h : Hdr) (p : List Byte), (Accepts s.toHub h 0x0D02) ∧ (p.length = 8) ∧ (pl p 0 1 ≤ 1) ∧ (pl p 1 1 ≤ 1) ∧ (pl p 2 1 ≤ 1) ∧ (1 ≤ pl p 3 1) ∧ (pl p 4 2 ≤ 4000) ∧ (plZero p 6 2 = true)) ∧
    (∃ (s : State) (h : Hdr) (p : List Byte), (Accepts s.toHub h 0x0D03) ∧ (p.length = 4 + 8 * pl p 2 1) ∧ (pl p 0 1 ≤ 3) ∧ (1 ≤ pl p 2 1) ∧ (pl p 1 1 + pl p 2 1 ≤ 16) ∧ (plZero p 3 1 = true) ∧ ((∀ i < pl p 2 1, entryOk (pl p (4 + 8 * i) 4) (pl p (8 + 8 * i) 4) = true))) ∧
    (∃ (s : State) (h : Hdr) (p : List Byte), (Accepts s.toHub h 0x0D04) ∧ (p.length = 8) ∧ (pl p 0 1 ≤ 3) ∧ (pl p 1 1 ≤ 3) ∧ (1 ≤ pl p 2 1) ∧ (pl p 2 1 ≤ 16) ∧ ((pl p 1 1 = 2 → 1 ≤ pl p 4 2)) ∧ (plZero p 3 1 = true) ∧ (plZero p 6 2 = true)) ∧
    (∃ (s : State) (h : Hdr) (p : List Byte), (Accepts s.toHub h 0x0D05) ∧ (p.length = 4) ∧ (pl p 0 1 ≤ 3) ∧ (plZero p 1 3 = true) ∧ (s.fld (MON_SEQ_CTRL (pl p 0 1)) 1 0 = 3) ∧ ((s.seqst (pl p 0 1)).pass = false) ∧ ((s.seqst (pl p 0 1)).req = false)) ∧
    (∃ (s : State) (h : Hdr) (p : List Byte), (Accepts s.toHub h 0x0D06) ∧ (p.length = 4) ∧ (pl p 0 1 ≤ 3) ∧ (plZero p 1 3 = true)) ∧
    (∃ (s : State) (h : Hdr) (p : List Byte), (Accepts s.toHub h 0x0D07) ∧ (p.length = 8) ∧ (pl p 0 1 ≤ 3) ∧ (aoncOk (pl p 4 4) = true) ∧ (plZero p 1 3 = true)) ∧
    (∃ (s : State) (h : Hdr) (p : List Byte), (Accepts s.toHub h 0x0D08) ∧ (p.length = 4) ∧ (pl p 0 1 ≤ 1) ∧ (plZero p 1 3 = true)) ∧
    (∃ (s : State) (h : Hdr) (p : List Byte), (Accepts s.toHub h 0x0F01) ∧ (p.length = 16) ∧ (pl p 0 1 ≤ 3) ∧ (pl p 1 1 ≤ 1) ∧ (pl p 2 1 ≤ 2) ∧ (pl p 3 1 ≤ 1) ∧ (pl p 4 1 ≤ 3) ∧ (pl p 5 1 ≤ 15) ∧ (pl p 6 1 ≤ 3) ∧ (pl p 7 1 ≤ 15) ∧ (pl p 8 1 ≤ 3) ∧ (1 ≤ pl p 9 1) ∧ (plZero p 10 2 = true) ∧ (pl p 14 2 ≠ 0)) ∧
    (∃ (s : State) (h : Hdr) (p : List Byte), (Accepts s.toHub h 0x0F02) ∧ (p.length = 4) ∧ (pl p 0 1 ≤ 3) ∧ (7200 ≤ pl p 2 2) ∧ (pl p 2 2 ≤ 42000) ∧ (plZero p 1 1 = true) ∧ (s.fld (LOOP_CTRL (pl p 0 1)) 1 0 = 0)) ∧
    (∃ (s : State) (h : Hdr) (p : List Byte), (Accepts s.toHub h 0x0F02) ∧ (p.length = 4) ∧ (pl p 0 1 ≤ 3) ∧ (7200 ≤ pl p 2 2) ∧ (pl p 2 2 ≤ 42000) ∧ (plZero p 1 1 = true) ∧ (s.fld (LOOP_CTRL (pl p 0 1)) 1 0 ≠ 0)) ∧
    (∃ (s : State) (h : Hdr), (Accepts s.toHub h 0x0F03)) :=
  ⟨⟨st (hub 2 []), hd, [30, 2, 0, 0, 3, 100, 0, 1], by decide +kernel⟩,
   ⟨st (hub 2 []), hd, [1, 1, 1, 1, 160, 15, 0, 0], by decide +kernel⟩,
   ⟨st (hub 2 []), hd, [3, 15, 1, 0, 5, 8, 0, 2, 0, 0, 16, 0], by decide +kernel⟩,
   ⟨st (hub 2 []), hd, [3, 3, 16, 0, 5, 0, 0, 0], by decide +kernel⟩,
   ⟨st (hub 2 [(MON_SEQ_CTRL 2, 3)]), hd, [2, 0, 0, 0], by decide +kernel⟩,
   ⟨st (hub 2 []), hd, [3, 0, 0, 0], by decide +kernel⟩,
   ⟨st (hub 2 []), hd, [3, 0, 0, 0, 232, 3, 0, 128], by decide +kernel⟩,
   ⟨st (hub 2 []), hd, [1, 0, 0, 0], by decide +kernel⟩,
   ⟨st (hub 2 []), hd, [3, 1, 2, 1, 3, 15, 3, 15, 3, 1, 0, 0, 5, 0, 9, 0], by decide +kernel⟩,
   ⟨st (hub 2 []), hd, [3, 0, 16, 164], by decide +kernel⟩,
   ⟨st (hub 2 [(LOOP_CTRL 3, 2)]), hd, [3, 0, 32, 28], by decide +kernel⟩,
   ⟨st (hub 2 []), hd, by decide +kernel⟩⟩

theorem witness_HousekeepingEvents :
    (∃ (s : State) (q : Fin 4), (s.auxOn = true) ∧ ((s.seqst q.val).pass = false) ∧ (s.fld (MON_SEQ_CTRL q.val) 1 0 = 1 ∨ s.fld (MON_SEQ_CTRL q.val) 1 0 = 3 ∧ (s.seqst q.val).req = true ∨ s.fld (MON_SEQ_CTRL q.val) 1 0 = 2 ∧ (s.seqst q.val).next ≤ s.xo)) ∧
    (∃ (s : State) (q : Fin 4), (s.auxOn = true) ∧ ((s.seqst q.val).pass = true) ∧ ((s.seqst q.val).mode = 2) ∧ ((s.seqst q.val).next ≤ s.xo)) ∧
    (∃ (s : State) (q : Nat), (s.auxOn = true) ∧ (s.mon.run = none) ∧ (s.bit TT_CTRL 7 = false ∨ s.now.hk = true) ∧ (((List.range 4).find? fun q => (s.seqst q).pass) = some q) ∧ ((s.seqst q).idx < 16)) ∧
    (∃ (s : State) (value : Int) (clip : Bool) (r : HkRun), let mean := rdiv (r.sum + max (-32767) (min value 32767)) ((2 ^ bits r.a 20 18 : Nat) : Int); let chop := (entryExc r.a).isSome ∧ bits r.a 22 21 = 3; (s.auxOn = true) ∧ (s.mon.run = some r) ∧ (r.waiting = false) ∧ (r.result = none) ∧ (r.next + convXo r.a ≤ s.xo)) ∧
    (∃ (s : State) (r : HkRun) (v : Int), (s.auxOn = true) ∧ (s.mon.run = some r) ∧ (r.result = some v) ∧ (r.seq < 4) ∧ (r.entry < 16)) ∧
    (∃ (s : State) (r : HkRun) (v : Int), let k := 16 * r.seq + r.entry; let n := tget (fun _ => 0) s.mon.inBand k; let out := s.bit (MON_RES r.seq r.entry) 31; let ev := fun (u : Hub) => u.bit (if r.seq < 2 then MON_WIN_EV0 else MON_WIN_EV1) (16 * (r.seq % 2) + r.entry); let compared := bitAt r.a 25 = true ∧ r.settling = false ∧ r.exc = false; let inBand := toS 16 (bits r.b 15 0) ≤ v ∧ v ≤ toS 16 (bits r.b 31 16); (s.auxOn = true) ∧ (s.mon.run = some r) ∧ (r.result = some v) ∧ (r.seq < 4) ∧ (r.entry < 16)) ∧
    (∃ (s : State), (s.auxOn = true) ∧ (s.bit MON_STATUS 0 = true) ∧ (s.timerEnd 2 ≤ s.xo)) ∧
    (∃ (s : State) (x : Fin 2), (s.auxOn = true) ∧ (s.bit (MON_EXC_STAT x.val) 2 = true) ∧ (s.timerEnd x.val ≤ s.xo)) ∧
    (∃ (s : State) (x : Fin 2) (sense : Bool), (s.auxOn = true) ∧ ((s.excNow x.val).1 = true) ∧ (s.bit (MON_EXC_STAT x.val) (b2n sense) = false)) ∧
    (∃ (s : State) (x : Fin 2) (sense : Bool), (s.auxOn = true)) ∧
    (∃ (s : State) (n : Fin 32), (s.auxOn = true) ∧ (s.fld (MON_PIN n.val) 1 0 ≠ 0)) ∧
    (∃ (s : State) (k : Fin 4), (s.bit (AONC_CFG k.val) 31 = true)) :=
  ⟨⟨st (hub 2 [(MON_SEQ_CTRL 2, 1)]), 2, by decide +kernel⟩,
   ⟨st { hub 2 [] with xo := 70, mon := { seqs := [(2, { pass := true, mode := 2, next := 70 })] } }, 2, by decide +kernel⟩,
   ⟨st { hub 2 [] with mon := { seqs := [(2, { pass := true, idx := 3, len := 5 })] } }, 2, by decide +kernel⟩,
   ⟨st { hub 2 [] with xo := 100000, mon := { run := some { seq := 2, entry := 3, a := 5, b := 0, left := 1 } } }, 77, false, { seq := 2, entry := 3, a := 5, b := 0, left := 1 }, by decide +kernel⟩,
   ⟨st { hub 2 [] with mon := { run := some { seq := 2, entry := 3, a := 5, b := 0, result := some 70 } } }, { seq := 2, entry := 3, a := 5, b := 0, result := some 70 }, 70, by decide +kernel⟩,
   ⟨st { hub 2 [(MON_RES 2 3, 0x80000000)] with mon := { run := some { seq := 2, entry := 3, a := 0x02000005, b := 0x00640032, result := some 70 }, inBand := [(35, 3)] } }, { seq := 2, entry := 3, a := 0x02000005, b := 0x00640032, result := some 70 }, 70, by decide +kernel⟩,
   ⟨st (hub 2 [(MON_STATUS, 1)]), by decide +kernel⟩,
   ⟨st (hub 2 [(MON_EXC_STAT 1, 4)]), 1, by decide +kernel⟩,
   ⟨st (hub 2 [(MON_EXC_STAT 1, 8)]), 1, true, by decide +kernel⟩,
   ⟨st (hub 2 []), 1, true, by decide +kernel⟩,
   ⟨st (hub 2 [(MON_PIN 5, 1)]), 5, by decide +kernel⟩,
   ⟨st (hub 2 [(AONC_CFG 3, 0x80000000)]), 3, by decide +kernel⟩⟩

theorem witness_LoopEvents :
    (∃ (s : State) (n : Fin 4), (s.auxOn = true) ∧ ((s.loopst n.val).at_ + 400000 ≤ s.xo)) ∧
    (∃ (s : Hub) (n : Nat), (s.auxOn = true) ∧ (n < 4) ∧ (s.inGap = true) ∧ (s.fld (LOOP_NOW n) 19 16 ≠ 0)) ∧
    (∃ (s : Hub) (n : Nat), (s.auxOn = true) ∧ (n < 4) ∧ (s.inGap = false) ∧ ((s.loopst n).missed = true)) ∧
    (∃ (s : State) (n : Fin 4) (v : BitVec 16) (a : Nat) (rest : List Nat), (s.auxOn = true) ∧ ((s.loopst n.val).readOf = a :: rest) ∧ (a + 200000 ≤ s.xo)) ∧
    (∃ (s : State) (n : Fin 4) (a b : Nat × Int × Bool), (s.auxOn = true) ∧ (s.inGap = false) ∧ (s.fld (LOOP_CTRL n.val) 1 0 = 2) ∧ (s.goodRes (s.fld (LOOP_SRC n.val) 7 6) (s.fld (LOOP_SRC n.val) 3 0) = some a) ∧ (s.goodRes (s.fld (LOOP_SRC n.val) 15 14) (s.fld (LOOP_SRC n.val) 11 8) = some b)) :=
  ⟨⟨st { hub 2 [] with xo := 400000 }, 3, by decide +kernel⟩,
   ⟨{ hub 2 [(LOOP_NOW 3, 0x10000), (PAIR_STATUS, 0x8000)] with frame := 9, pr := { gapTo := 99 } }, 3, by decide +kernel⟩,
   ⟨{ hub 2 [] with mon := { loops := [(3, { missed := true })] } }, 3, by decide +kernel⟩,
   ⟨st { hub 2 [(LOOP_CTRL 3, 1)] with xo := 200000, mon := { loops := [(3, { readOf := [0, 9] })] } }, 3, 500, 0, [9], by decide +kernel⟩,
   ⟨st { hub 2 [(LOOP_CTRL 3, 2), (LOOP_SRC 3, 0x00000201)] with xo := 900000, mon := { good := [(1, (5, 100, false)), (2, (6, 50, false))] } }, 3, (5, 100, false), (6, 50, false), by decide +kernel⟩⟩

theorem witness_LedPulser :
    (∃ (s : State) (h : Hdr) (p : List Byte), (Accepts s.toHub h 0x0E01) ∧ (p.length = 12) ∧ (pl p 0 1 ≤ 1) ∧ (pl p 1 1 ≤ 1) ∧ (8 ≤ pl p 2 1) ∧ (1 ≤ pl p 3 1) ∧ (50 ≤ pl p 10 1) ∧ (pl p 10 1 ≤ pl p 11 1)) ∧
    (∃ (s : State) (h : Hdr) (p : List Byte), (Accepts s.toHub h 0x0E02) ∧ (p.length = 16) ∧ (pl p 0 1 ≤ 7) ∧ (4 ≤ pl p 6 2) ∧ (pl p 6 2 ≤ 1024) ∧ (pl p 9 1 ≤ 3) ∧ (pl p 10 1 ≤ 1) ∧ (pl p 11 1 ≤ 7) ∧ (pl p 12 2 ≤ 1023) ∧ (1 ≤ pl p 14 2)) ∧
    (∃ (s : State) (h : Hdr) (p : List Byte), (Accepts s.toHub h 0x0E03) ∧ (p.length = 4 + 2 * pl p 1 1) ∧ (1 ≤ pl p 1 1) ∧ (pl p 0 1 + pl p 1 1 ≤ 128) ∧ (plZero p 2 2 = true) ∧ ((∀ i < pl p 1 1, pl p (5 + 2 * i) 1 ≤ 15))) ∧
    (∃ (s : State) (h : Hdr), (Accepts s.toHub h 0x0E04)) ∧
    (∃ (s : State) (h : Hdr) (p : List Byte), (Accepts s.toHub h 0x0E05) ∧ (p.length = 4) ∧ (pl p 0 1 ≠ 0) ∧ (plZero p 1 3 = true)) ∧
    (∃ (s : State) (q : Nat) (xs : List LedMeas) (b : Burst) (rest : List Burst), (s.led.bursts = b :: rest) ∧ (s.auxOn = true) ∧ (b.ends ≤ s.tm.rawNow + 64 * 256)) ∧
    (∃ (s : State) (q : Nat) (m : LedMeas) (b : Burst) (rest : List Burst), let k := 16 * m.row.val + m.col.val; let held := s.bit (LED_FAULT m.row.val) m.col.val || s.bit (LED_FAULT m.row.val) (16 + m.col.val); let off := fun (t : Hub) (r : Nat) => if ebit s.led.eff LED_CTRL 1 then t.bit LED_STATUS (24 + r) else t.bit LED_STATUS 2; (s.led.bursts = b :: rest) ∧ (s.auxOn = true) ∧ (b.ends ≤ s.tm.rawNow + 64 * 256) ∧ (b.fires m.row.val m.col.val = true) ∧ (b.pat = 8 ∨ (b.pat < 8 ∧ 64 ≤ b.width ∧ 13 ≤ b.code m.row.val m.col.val))) ∧
    (∃ (s : Hub), let t := s.ledSettings; (s.inGap = false) ∧ (s.mode ≠ mPULSE ∨ s.tt.crossing = 0)) ∧
    (∃ (s : Hub), let t := s.ledSettings; (s.inGap = false) ∧ (s.mode ≠ mPULSE ∨ s.tt.crossing = 0) ∧ (t.ledFaulty = false)) ∧
    (∃ (s : Hub), let t := s.ledSettings; ∃ (r : Nat), (s.inGap = false) ∧ (s.mode ≠ mPULSE ∨ s.tt.crossing = 0) ∧ (r < 8)) ∧
    (∃ (s : State), (s.bit LED_STATUS 0 = true)) :=
  ⟨⟨st (hub 2 []), hd, [1, 1, 8, 1, 120, 86, 52, 18, 100, 0, 50, 60], by decide +kernel⟩,
   ⟨st (hub 2 []), hd, [7, 5, 3, 0, 4, 0, 0, 4, 9, 3, 1, 7, 255, 3, 255, 255], by decide +kernel⟩,
   ⟨st (hub 2 []), hd, [126, 2, 0, 0, 5, 15, 6, 0], by decide +kernel⟩,
   ⟨st (hub 2 []), hd, by decide +kernel⟩,
   ⟨st (hub 2 []), hd, [129, 0, 0, 0], by decide +kernel⟩,
   ⟨st { hub 5 [] with led := { bursts := [{ n := 5, crossing := 5, turn := 0, pat := 2, eff := [(LED_PAT_C 2, 0x80000000), (LED_PAT_D 2, 500)], rows := [0], ends := 100, paused := false }] } }, 400, [], { n := 5, crossing := 5, turn := 0, pat := 2, eff := [(LED_PAT_C 2, 0x80000000), (LED_PAT_D 2, 500)], rows := [0], ends := 100, paused := false }, [], by decide +kernel⟩,
   ⟨st { hub 5 [(LED_STATUS, 3)] with led := { bursts := [{ n := 5, crossing := 5, turn := 0, pat := 8, row := 2, eff := [(LED_PROVE, 0x00FF5000), (LED_BIN 2 3, 9), (LED_ROW_PHD, 0x00640000)], rows := [2], ends := 100, paused := false }], fails := [(35, 1), (258, 1)], eff := [(LED_CTRL, 2)] } }, 40, { row := 2, col := 3, percent := 5, across := 2000, headroom := 500 }, { n := 5, crossing := 5, turn := 0, pat := 8, row := 2, eff := [(LED_PROVE, 0x00FF5000), (LED_BIN 2 3, 9), (LED_ROW_PHD, 0x00640000)], rows := [2], ends := 100, paused := false }, [], by decide +kernel⟩,
   ⟨{ hub 2 [(LED_STATUS, 0x0404000F), (LED_FAULT 2, 8)] with led := { clear := 4 } }, by decide +kernel⟩,
   ⟨{ hub 2 [(LED_STATUS, 0x0404000F), (LED_FAULT 2, 8)] with led := { clear := 4 } }, by decide +kernel⟩,
   ⟨{ hub 2 [(LED_STATUS, 0x0404000F), (LED_FAULT 2, 8), (LED_FAULT 3, 8)] with led := { clear := 4, fails := [(35, 1), (258, 1)] } }, 2, by decide +kernel⟩,
   ⟨st (hub 2 [(LED_STATUS, 1)]), by decide +kernel⟩⟩

theorem witness_MemoryCommands :
    (∃ (s : State) (h : Hdr), (Accepts s.toHub h 0x1101)) ∧
    (∃ (s : State) (h : Hdr) (p : List Byte), (Accepts s.toHub h 0x1102) ∧ (p.length = 12) ∧ (pl p 1 1 ≤ 1) ∧ (scrubOk (pl p 0 1) (pl p 4 4) (pl p 8 4) = true) ∧ (plZero p 2 2 = true) ∧ (pl p 1 1 = 0 ∨ pl p 0 1 < 3) ∧ (s.mc.scrub = none)) ∧
    (∃ (s : State) (h : Hdr) (p : List Byte), (Accepts s.toHub h 0x1103) ∧ (p.length = 8) ∧ ((s.takeCmd h 0x1103).flipStatus (pl p 0 1) (pl p 1 1) (pl p 2 1) (pl p 3 1) (pl p 4 4) = none)) ∧
    (∃ (s : State) (h : Hdr) (p : List Byte), (Accepts s.toHub h 0x1104) ∧ (p.length = 4) ∧ (2 ≤ pl p 0 1) ∧ (pl p 0 1 ≤ 63) ∧ (pl p 0 1 % 2 = 0) ∧ (plZero p 1 3 = true)) ∧
    (∃ (s : State) (h : Hdr) (p : List Byte), (Accepts s.toHub h 0x1105) ∧ (p.length = 16) ∧ (pl p 0 1 = 3 ∨ pl p 0 1 = 5) ∧ (pl p 1 1 ≤ 7) ∧ (pl p 4 4 ≤ pl p 8 4) ∧ (pl p 12 4 &&& 0xFFF0F = pl p 12 4) ∧ (plZero p 2 2 = true) ∧ (s.modeIn [mIDLE, mTEST] = true)) ∧
    (∃ (s : State) (h : Hdr) (p : List Byte), let u := s.takeCmd h 0x1106; let n := pl p 0 1; (Accepts s.toHub h 0x1106) ∧ (p.length = 4) ∧ (pl p 0 1 ≤ 63) ∧ (plZero p 1 3 = true)) :=
  ⟨⟨st (hub 2 []), hd, by decide +kernel⟩,
   ⟨st (hub 2 []), hd, [0, 1, 0, 0, 0, 0, 0, 16, 64, 0, 0, 0], by decide +kernel⟩,
   ⟨st (hub 2 []), hd, [0, 1, 255, 0, 0, 0, 0, 16], by decide +kernel⟩,
   ⟨st (hub 2 [(FW_STATUS, 6)]), hd, [6, 0, 0, 0], by decide +kernel⟩,
   ⟨st (hub 2 []), hd, [5, 7, 0, 0, 16, 0, 0, 0, 32, 0, 0, 0, 15, 255, 15, 0], by decide +kernel⟩,
   ⟨st (hub 2 []), hd, [63, 0, 0, 0], by decide +kernel⟩⟩

theorem witness_MemoryErrors :
    (∃ (s : State) (m : Fin 15) (a : BitVec 32) (q : Fin 17) (f : Bool) (e : Fin 3) (width : Nat), let w := a.toNat / width * width; let n := min (s.fld (ECC_CNT m.val) 15 8 + 1) 255; let covers := fun (x : TxItem) => decide (x.addr / 8 * 8 ≤ w) && decide (w < x.addr + x.bytes.length); (m.val < 13) ∧ (memoryAt a.toNat = some (m.val, width)) ∧ ((q.val < 6 → s.canAccess q.val = true))) ∧
    (∃ (s : State) (h : Hdr) (p : List Byte) (m width : Nat), let u := s.takeCmd h 0x0106; let w := pl p 0 4 / width * width; (Accepts s.toHub h 0x0106) ∧ (p.length = 8) ∧ (pl p 0 4 % 4 = 0) ∧ (pl p 4 2 = 1) ∧ (plZero p 6 2 = true) ∧ (memoryAt (pl p 0 4) = some (m, width)) ∧ (u.allowed 3 (pl p 0 4) 0 = true) ∧ (eccCheck (u.eccAt w) = .uncorrectable) ∧ (RingClean (u.memoryRead m w 3 false 0) 41)) ∧
    (∃ (s : State) (h : Hdr) (n : Nat), let u := s.takeCmd h 0x1303; (Accepts s.toHub h 0x1303) ∧ (s.mode = mLOADING) ∧ (s.pw.img = some (n, n)) ∧ ((u.imageScan (u.bytes 0x30000000 n) n).2.isSome = true)) ∧
    (∃ (s : State), (s.mc.leaks < s.frame / 2 ^ 20)) ∧
    (∃ (s : State) (a p q r : BitVec 32), let m := BitVec.ofNat 32 (tmrMask a.toNat); let flips := ((p &&& q) ||| (q &&& r) ||| (p &&& r)) &&& m; let n := b2n (p &&& m != flips) + b2n (q &&& m != flips) + b2n (r &&& m != flips); (tmrMask a.toNat ≠ 0) ∧ (a.toNat ∉ reportRegs) ∧ (a.toNat ∉ [TMR_REPAIRS, ECC_CNT 15, ECC_BEV 15, ECC_STATUS])) ∧
    (∃ (s : State) (a p q r : BitVec 32), let m := BitVec.ofNat 32 (tmrMask a.toNat); let flips := ((p &&& q) ||| (q &&& r) ||| (p &&& r)) &&& m; let n := b2n (p &&& m != flips) + b2n (q &&& m != flips) + b2n (r &&& m != flips); (tmrMask a.toNat = 0)) ∧
    (∃ (s : State) (m start len : Nat) (back : Bool), let bad := s.ecc.filter fun x => decide (start ≤ x.1) && decide (x.1 < start + len); let width := if m < 3 then 8 else 4; (s.mc.scrub = some (m, (back, (start, len)))) ∧ (m < 13)) ∧
    (∃ (s : State) (s41 : Bool), let n := if s41 then 41 else 40; (s.fwActs = true) ∧ (s.count n < 64) ∧ (s.mbx.lostDue.contains n = true)) ∧
    (∃ (s : State) (k : Fin 6) (a : BitVec 32), (0x50000000 ≤ a.toNat) ∧ (a.toNat < 0x50100000)) :=
  ⟨⟨st { hub 2 [] with ecc := [(0x10000000, 3)] }, 0, 0x10000004, 8, false, 0, 8, by decide +kernel⟩,
   ⟨st { hub 2 [(FW_WIN_BASE 3 0, 0x10000000), (FW_WIN_LIMIT 3 0, 0x1002FFFC), (FW_WIN_ATTR 3 0, 0x7)] with ecc := [(0x10000000, 3)] }, hd, [4, 0, 0, 16, 1, 0, 0, 0], 0, 8, by decide +kernel, by decide +kernel, by decide +kernel, (by decide +kernel), by decide +kernel, by decide +kernel, by decide +kernel, (by decide +kernel), ringClean_of (by decide +kernel) (by decide +kernel) _⟩,
   ⟨st { hub 1 [] with ecc := [(0x30000008, 3)], pw := { img := some (192, 192) } }, hd, 192, by decide +kernel⟩,
   ⟨st { hub 2 [(ECC_CNT 3, 5)] with frame := 1048576 }, by decide +kernel⟩,
   ⟨st (hub 2 []), BitVec.ofNat 32 (CAL_REF 4), 6, 2, 3, by decide +kernel⟩,
   ⟨st (hub 2 []), 0x3FFFFFFC, 1, 2, 3, by decide +kernel⟩,
   ⟨st { hub 2 [] with mc := { scrub := some (0, (true, (0x10000000, 64))) }, ecc := [(0x10000008, 1), (0x10000010, 3)] }, 0, 0x10000000, 64, true, by decide +kernel⟩,
   ⟨st { hub 2 [] with mbx := { lostDue := [41] } }, true, by decide +kernel⟩,
   ⟨st (hub 2 []), 3, 0x50000010, by decide +kernel⟩⟩

theorem witness_MasterAccesses :
    (∃ (s : State) (k : Fin 6) (acc : Fin 4) (a : BitVec 32) (bs : List Byte), (s.canAccess k.val = true) ∧ (bs ≠ []) ∧ (¬ ((acc = 1 ∨ acc = 3) ∧ (touched a.toNat bs.length).all s.noViolation = true)) ∧ ((∃ w ∈ touched a.toNat bs.length, s.allowed k.val w acc.val = false))) ∧
    (∃ (s : State) (k : Fin 6) (a : BitVec 32) (bs : List Byte), (s.canAccess k.val = true) ∧ (bs ≠ []) ∧ ((∀ w ∈ touched a.toNat bs.length, s.allowed k.val w 1 = true ∧ hasPath k.val 1 w = true ∧ s.writable k.val w = true)) ∧ (s.ecc = []) ∧ (s.bit ECC_FLIP 31 = false)) ∧
    (∃ (s : State) (k : Fin 6) (acc : Fin 4) (a : BitVec 32) (bs : List Byte), ((∀ w ∈ touched a.toNat bs.length, s.allowed k.val w acc.val = true)) ∧ (¬ ((acc = 1 ∨ acc = 3) ∧ (touched a.toNat bs.length).all isAssay = true)) ∧ ((∃ w ∈ touched a.toNat bs.length, hasPath k.val acc.val w = false))) ∧
    (∃ (s : State) (k : Fin 6) (i : Nat) (bs : List Byte), (i < 256) ∧ (s.asy.sealSt ≠ 1) ∧ (bs.length = 4)) ∧
    (∃ (s : State) (k : Fin 6) (a w : BitVec 32), (k = 1 ∨ k = 2) ∧ (a.toNat < 0x60000000)) ∧
    (∃ (s : State) (k : Fin 6) (w : BitVec 32), ∃ (a : BitVec 32), (s.canAccess k.val = true) ∧ (k ≠ 1) ∧ (k ≠ 2) ∧ (findReg a.toNat = none)) ∧
    (∃ (s : State) (k : Fin 6) (w : BitVec 32), (s.canAccess k.val = true) ∧ (k ≠ 1) ∧ (k ≠ 2) ∧ (w.toNat % 65536 < 64)) ∧
    (∃ (s : State) (k : Fin 6) (w : BitVec 32), ∃ (i : Nat), (s.canAccess k.val = true) ∧ (k ≠ 1) ∧ (k ≠ 2) ∧ (i < 64) ∧ (s.modeIn ttBankModes = true) ∧ (breaksR45 (written (s.reg (TT_SLOT i)) w.toNat slotMask 0) = false)) ∧
    (∃ (s : State) (k : Fin 6) (w : BitVec 32), (s.canAccess k.val = true) ∧ (k ≠ 1) ∧ (k ≠ 2)) ∧
    (∃ (s : State) (k : Fin 6) (n : Fin 64) (tail : Bool) (v : BitVec 32), (k ≠ 0 ∨ softSide n.val tail = false)) ∧
    (∃ (s : State) (k : Fin 6) (n : Fin 64) (tail : Bool) (v : BitVec 32), (k = 0) ∧ (softSide n.val false = true) ∧ (takeHeld n.val s.held = none) ∧ (s.count n.val ≤ 64) ∧ ((s.fld (SD_TAIL n.val) 15 0 + 65536 - v.toNat % 65536) % 65536 ≤ s.count n.val)) ∧
    (∃ (s : State) (w : BitVec 32), (bitAt w.toNat 0 = false)) ∧
    (∃ (s : State) (w : BitVec 32), (bits w.toNat 19 16 ≤ 13) ∧ (bits w.toNat 7 0 < codeBits (bits w.toNat 19 16)) ∧ (s.modeIn [mIDLE, mTEST] = true) ∧ (bitAt w.toNat 31 = false ∨ s.flipStatus (bits w.toNat 19 16) (bits w.toNat 7 0) (bits w.toNat 15 8) (bits w.toNat 30 30) (s.reg ECC_FLIP_ADDR) = none)) ∧
    (∃ (s : State) (w : BitVec 32), (s.modeIn [mIDLE, mTEST] = false)) :=
  ⟨⟨st (hub 2 []), 3, 1, BitVec.ofNat 32 (CAL_REF 4 - 4096), [1, 2, 3, 4], by decide +kernel⟩,
   ⟨st (hub 2 [(FW_WIN_BASE 5 0, 0x10000000), (FW_WIN_LIMIT 5 0, 0x10000FFC), (FW_WIN_ATTR 5 0, 0x7)]), 5, 0x10000010, [1, 2, 3], by decide +kernel⟩,
   ⟨st (hub 2 [(FW_WIN_BASE 1 0, 0x10000000), (FW_WIN_LIMIT 1 0, 0x10000FFC), (FW_WIN_ATTR 1 0, 0x7)]), 1, 0, 0x10000010, [0], by decide +kernel⟩,
   ⟨st (hub 4 []), 3, 4, [1, 2, 3, 4], by decide +kernel⟩,
   ⟨st (hub 2 []), 1, 0x40000000, 5, by decide +kernel⟩,
   ⟨st (hub 2 []), 0, 5, 0x400FFFFC, by decide +kernel⟩,
   ⟨st (hub 2 []), 0, 63, by decide +kernel⟩,
   ⟨st (hub 2 []), 0, 7, 63, by decide +kernel⟩,
   ⟨st (hub 2 [(ECC_STATUS, 15)]), 0, 6, by decide +kernel⟩,
   ⟨st (hub 2 []), 1, 40, true, 5, by decide +kernel⟩,
   ⟨st { hub 2 [(SD_TAIL 32, 2)] with sid := [(32, [.blob 1 2 [], .blob 3 4 []])] }, 0, 32, true, 1, by decide +kernel⟩,
   ⟨st (hub 2 [(FW_STATUS, 6)]), 2, by decide +kernel⟩,
   ⟨st (hub 2 [(ECC_FLIP_ADDR, 0x10000000)]), 0x8000FF05, by decide +kernel⟩,
   ⟨st (hub 4 []), 0x8000FF05, by decide +kernel⟩⟩

theorem witness_Resets :
    (∃ (s : State), (s.bit RP_WDOG 31 = true) ∧ (s.pw.kickAt + s.fld RP_WDOG 7 0 * 400000 ≤ s.xo)) ∧
    (∃ (s : State), (s.pw.soft = true)) ∧
    (∃ (s : State), (s.bit (RP_FUSE 3) 9 = false) ∧ (s.mode ≠ mDORMANT)) ∧
    (∃ (s : State) (lost : Bool), (s.mode ≠ mDORMANT) ∧ (s.bit RP_PD_STATUS 1 = true) ∧ (lost = true ∨ 1024 ≤ s.tt.badClk)) ∧
    (∃ (s : State) (f : Nat), (s.pw.lockAt = some f) ∧ (f + 32 ≤ s.frame)) ∧
    (∃ (s : State), (s.mode ≠ mDORMANT) ∧ (s.bit RP_PD_STATUS 1 = true) ∧ (s.pw.lockAt = none)) ∧
    (∃ (s : State) (c : Fin 3) (e : Nat), (s.mode = mDORMANT) ∧ (c.val ≠ 0 ∨ s.fld AONC_STATUS 11 8 ≠ 0)) ∧
    (∃ (s : State), (bitAt s.pw.held 0 = true)) ∧
    (∃ (s : State), (bitAt s.pw.held 1 = true)) ∧
    (∃ (s : State), (bitAt s.pw.held 2 = true)) :=
  ⟨⟨st { hub 2 [(RP_WDOG, 0x80000001)] with xo := 400000 }, by decide +kernel⟩,
   ⟨st { hub 2 [] with pw := { soft := true } }, by decide +kernel⟩,
   ⟨st (hub 2 []), by decide +kernel⟩,
   ⟨st (hub 2 []), true, by decide +kernel⟩,
   ⟨st { hub 2 [] with frame := 40, pw := { lockAt := some 8 } }, 8, by decide +kernel⟩,
   ⟨st (hub 2 []), by decide +kernel⟩,
   ⟨st (hub 0 [(AONC_STATUS, 0x100)]), 1, 77, by decide +kernel⟩,
   ⟨st (hub 2 []), by decide +kernel⟩,
   ⟨st { hub 2 [] with pw := { held := 2 } }, by decide +kernel⟩,
   ⟨st { hub 2 [] with pw := { held := 6 } }, by decide +kernel⟩⟩

theorem witness_BringUp :
    (∃ (s : State) (x : Nat), (s.pw.loadAt = some x) ∧ (x + 1600 ≤ s.xo)) ∧
    (∃ (s : State) (straps : BitVec 3), (s.bit RP_PD_STATUS 0 = false) ∧ (bitAt s.pw.powered 0 = true) ∧ (bitAt s.pw.held 2 = false)) ∧
    (∃ (s : State) (d : Fin 10) (straps : BitVec 3), (d ≠ 0) ∧ (s.bit RP_PD_STATUS d.val = false) ∧ (bitAt s.pw.powered d.val = true) ∧ (s.pw.held = 0) ∧ ((∀ k < d.val, bitAt s.pw.powered k = true → s.bit RP_PD_STATUS k = true)) ∧ (s.bit RP_FUSE_STATUS 0 = true)) ∧
    (∃ (s : State) (q : Fin 4), (s.modeIn quadModes = true) ∧ (bitAt s.pw.powered (5 + q.val) = false) ∧ ((∀ k < q.val, bitAt s.pw.powered (5 + k) = true)) ∧ (s.pw.quadAt + (if q = 0 then 0 else 2000) ≤ s.xo)) ∧
    (∃ (s : Hub) (g i : Nat), (s.bit RP_PD_STATUS (pinOwner g) = false)) ∧
    (∃ (s : Hub) (g i : Nat), (s.mode = mLOADING) ∧ ((1 ≤ g ∧ g ≤ 7 ∧ g ∉ s.trainingLanes) ∨ (g = 8 ∧ 8 + i ∉ s.trainingLanes))) ∧
    (∃ (s : Hub) (i : Nat), (i ≠ 3 ∨ s.bit (RP_FUSE 3) 9 = true)) ∧
    (∃ (s : Hub) (n : Nat), (n < 256) ∧ (bitAt s.pw.powered (5 + n / 64) = false)) ∧
    (∃ (s : Hub) (n : Nat), (n < 256) ∧ (bitAt s.pw.powered (5 + n / 64) = true) ∧ (s.bit RP_PD_STATUS (5 + n / 64) = true)) ∧
    (∃ (s : Hub) (n : Nat), (n < 256) ∧ (bitAt s.pw.powered (5 + n / 64) = true) ∧ (s.bit RP_PD_STATUS (5 + n / 64) = false) ∧ (s.pw.srcs ≠ 0)) ∧
    (∃ (s : State), (s.bit RP_SUPPLY 8 = true) ∧ (s.fld RP_SUPPLY 23 20 = 0) ∧ (s.pw.belowAt + 40000 ≤ s.xo)) ∧
    (∃ (s : State), (s.fld RP_SUPPLY 23 20 ≠ 0)) :=
  ⟨⟨st { hub 1 [] with xo := 1700, pw := { loadAt := some 100 } }, 100, by decide +kernel⟩,
   ⟨st { hub 1 [(RP_PD_STATUS, 0)] with pw := { held := 0 } }, 2, by decide +kernel⟩,
   ⟨st { hub 1 [(RP_PD_STATUS, 1), (RP_FUSE_STATUS, 1)] with pw := { held := 0 } }, 1, 2, by decide +kernel⟩,
   ⟨st { hub 4 [] with xo := 9000, pw := { powered := 0x3F, quadAt := 7000 } }, 1, by decide +kernel⟩,
   ⟨(hub 2 [(RP_PD_STATUS, 0)]), 5, 0, by decide +kernel⟩,
   ⟨(hub 1 []), 8, 2, by decide +kernel⟩,
   ⟨(hub 2 [(RP_FUSE 3, 0x200)]), 3, by decide +kernel⟩,
   ⟨{ hub 2 [] with pw := { powered := 31 } }, 70, by decide +kernel⟩,
   ⟨{ hub 4 [(AFE_CH_STAT 70, 0x7F000000)] with pw := { powered := 0x3FF } }, 70, by decide +kernel⟩,
   ⟨{ hub 1 [(RP_PD_STATUS, 31)] with pw := { powered := 0x3FF, srcs := 8 } }, 70, by decide +kernel⟩,
   ⟨st { hub 2 [(RP_SUPPLY, 0x100)] with xo := 50000, pw := { belowAt := 10000 } }, by decide +kernel⟩,
   ⟨st { hub 2 [(RP_SUPPLY, 0x00100100)] with xo := 50000, pw := { belowAt := 1 } }, by decide +kernel⟩⟩

theorem witness_ModeChanges :
    (∃ (s : State) (h : Hdr) (p : List Byte) (k : Nat), (Accepts s.toHub h 0x0201) ∧ (Alone s.toHub) ∧ (p.length = 4) ∧ (plZero p 1 3 = true) ∧ (s.transition (pl p 0 1) = some k) ∧ (pl p 0 1 ≠ mDORMANT) ∧ (s.changing = false) ∧ (s.pw.chg = none) ∧ (s.mode = mIDLE) ∧ (pl p 0 1 = mTEST ∨ s.admits = true)) ∧
    (∃ (s : State) (h : Hdr) (p : List Byte) (k : Nat), (Accepts s.toHub h 0x0201) ∧ (Alone s.toHub) ∧ (p.length = 4) ∧ (plZero p 1 3 = true) ∧ (s.transition (pl p 0 1) = some k) ∧ (s.changing = false) ∧ (s.pw.chg = none) ∧ (s.mode ≠ mIDLE)) ∧
    (∃ (s : State) (h : Hdr) (p : List Byte), (Accepts s.toHub h 0x0201) ∧ (p.length = 4) ∧ (pl p 0 1 ≤ 7) ∧ (plZero p 1 3 = true) ∧ (pl p 0 1 ≠ s.mode) ∧ (s.transition (pl p 0 1) = none)) ∧
    (∃ (s : State) (h : Hdr) (p : List Byte), (Accepts s.toHub h 0x0201) ∧ (Alone s.toHub) ∧ (p.length = 4) ∧ (plZero p 1 3 = true) ∧ (pl p 0 1 = mDORMANT) ∧ (s.mode = mIDLE) ∧ (s.changing = false) ∧ (s.asy.storing.isSome = true ∨ s.asy.pending = true)) ∧
    (∃ (s : State) (h : Hdr) (p : List Byte), (Accepts s.toHub h 0x0201) ∧ (Alone s.toHub) ∧ (p.length = 4) ∧ (plZero p 1 3 = true) ∧ (pl p 0 1 = mDORMANT) ∧ (s.mode = mIDLE) ∧ (s.changing = false) ∧ (s.asy.storing = none) ∧ (s.asy.pending = false) ∧ (s.joinSet = true)) ∧
    (∃ (s : State) (h : Hdr) (p : List Byte), (Accepts s.toHub h 0x0201) ∧ (Alone s.toHub) ∧ (p.length = 4) ∧ (plZero p 1 3 = true) ∧ (pl p 0 1 = mDORMANT) ∧ (s.mode = mIDLE) ∧ (s.changing = false) ∧ (s.asy.storing = none) ∧ (s.asy.pending = false) ∧ (s.joinSet = false)) ∧
    (∃ (s : State) (h : Hdr) (p : List Byte) (d : Def), (Accepts s.toHub h 0x0201) ∧ (Alone s.toHub) ∧ (p.length = 4) ∧ (plZero p 1 3 = true) ∧ (pl p 0 1 = mIDLE) ∧ (s.mode = mPREPARE) ∧ (s.changing = true) ∧ (s.mbx.deferred = [d]) ∧ (d.op = 0x0201) ∧ (d.hdr.target ≠ 1) ∧ (s.bit PAIR_STATUS 15 = false)) ∧
    (∃ (s : State) (h : Hdr), (Accepts s.toHub h 0x0202)) ∧
    (∃ (s : State) (c : Change), (s.pw.chg = some c) ∧ (c.goal < 8) ∧ (s.now.mode = c.goal) ∧ (s.mode ≠ c.goal) ∧ (c.kind ≠ 3) ∧ (c.kind ≠ 4)) ∧
    (∃ (s : State) (c : Change), (s.pw.chg = some c) ∧ (c.goal < 8) ∧ (s.now.mode = c.goal) ∧ (s.mode ≠ c.goal) ∧ (c.kind = 4)) ∧
    (∃ (s : State) (c : Change), (s.pw.chg = some c) ∧ (c.kind = 3)) ∧
    (∃ (s : State) (c : Change) (x : Nat), (s.pw.chg = some c) ∧ (c.kind = 4) ∧ (s.pw.prepFrom = some x) ∧ (s.fld SYS_CTRL 7 0 ≠ 0) ∧ (x + s.fld SYS_CTRL 7 0 * 4000000 ≤ s.xo) ∧ (s.now.mode ≠ c.goal)) :=
  ⟨⟨st (hub 2 []), hd, [3, 0, 0, 0], 0, by decide +kernel⟩,
   ⟨st (hub 3 []), hd, [4, 0, 0, 0], 4, by decide +kernel⟩,
   ⟨st (hub 2 []), hd, [6, 0, 0, 0], by decide +kernel⟩,
   ⟨st { hub 2 [] with asy := { engine := 2, pending := true } }, hd, [0, 0, 0, 0], by decide +kernel⟩,
   ⟨st (hub 2 [(PAIR_CTRL, 1)]), hd, [0, 0, 0, 0], by decide +kernel⟩,
   ⟨st (hub 2 []), hd, [0, 0, 0, 0], by decide +kernel⟩,
   ⟨st { hub 3 [(SYS_MODE, 0x1403)] with mbx := { deferred := [{ hdr := { src := 0, seq := 9, target := 0, crc := 0 }, op := 0x0201, payload := [], arg := 0, since := 0 }] } }, hd, [2, 0, 0, 0], { hdr := { src := 0, seq := 9, target := 0, crc := 0 }, op := 0x0201, payload := [], arg := 0, since := 0 }, by decide +kernel⟩,
   ⟨st (hub 2 []), hd, by decide +kernel⟩,
   ⟨st { hub 2 [] with hist := [{ mode := 3 }], pw := { chg := some { goal := 3, kind := 0, cause := 0 } } }, { goal := 3, kind := 0, cause := 0 }, by decide +kernel⟩,
   ⟨st { hub 3 [] with hist := [{ mode := 4 }], pw := { chg := some { goal := 4, kind := 4, cause := 0 } } }, { goal := 4, kind := 4, cause := 0 }, by decide +kernel⟩,
   ⟨st { hub 2 [] with pw := { chg := some { goal := 0, kind := 3, cause := 0 } } }, { goal := 0, kind := 3, cause := 0 }, by decide +kernel⟩,
   ⟨st { hub 3 [(SYS_CTRL, 10)] with xo := 40000005, hist := [{ mode := 3 }], pw := { chg := some { goal := 4, kind := 4, cause := 0 }, prepFrom := some 5 } }, { goal := 4, kind := 4, cause := 0 }, 5, by decide +kernel⟩⟩

theorem witness_SystemCommands :
    (∃ (s : State) (h : Hdr), (Accepts s.toHub h 0x0101)) ∧
    (∃ (s : State) (h : Hdr) (p : List Byte), (Accepts s.toHub h 0x0102) ∧ (p.length = 4) ∧ (pl p 0 2 = 0x5AA5) ∧ (plZero p 2 2 = true)) ∧
    (∃ (s : State) (h : Hdr) (p : List Byte), (Accepts s.toHub h 0x0103)) ∧
    (∃ (s : State) (h : Hdr) (p : List Byte), (Accepts s.toHub h 0x0104) ∧ (p.length = 8) ∧ (pl p 0 4 < 2 ^ 20) ∧ (pl p 0 4 % 2 = 0) ∧ (pl p 4 1 ≤ 3) ∧ (plZero p 5 3 = true)) ∧
    (∃ (s : State) (h : Hdr), let u := s.takeCmd h 0x0105; (Accepts s.toHub h 0x0105)) ∧
    (∃ (s : State) (h : Hdr) (p : List Byte), let u := s.takeCmd h 0x0106; (Accepts s.toHub h 0x0106) ∧ (p.length = 8) ∧ (pl p 0 4 % 4 = 0) ∧ (pl p 4 2 = 1) ∧ (plZero p 6 2 = true) ∧ (isReg (pl p 0 4) = true) ∧ (u.allowed 3 (pl p 0 4) 0 = true) ∧ (RingClean (u.readEffect 3 (pl p 0 4)) 41)) ∧
    (∃ (s : State) (h : Hdr) (p : List Byte), let u := s.takeCmd h 0x0106; (Accepts s.toHub h 0x0106) ∧ (p.length = 8) ∧ (pl p 0 4 % 4 = 0) ∧ (pl p 4 2 = 1) ∧ (plZero p 6 2 = true) ∧ (isReg (pl p 0 4) = true) ∧ (u.allowed 3 (pl p 0 4) 0 = false) ∧ (RingClean u 41)) ∧
    (∃ (s : State) (h : Hdr) (p : List Byte), let u := s.takeCmd h 0x0107; (Accepts s.toHub h 0x0107) ∧ (p.length = 12) ∧ (pl p 0 4 % 4 = 0) ∧ (pl p 4 2 = 1) ∧ (plZero p 6 2 = true) ∧ (isReg (pl p 0 4) = true) ∧ (u.allowed 3 (pl p 0 4) 1 = true) ∧ ((u.writeReg 3 (pl p 0 4) (pl p 8 4)).1 = stOK) ∧ (RingClean (u.writeReg 3 (pl p 0 4) (pl p 8 4)).2 41)) ∧
    (∃ (s : State) (h : Hdr) (p : List Byte), let u := s.takeCmd h 0x0107; (Accepts s.toHub h 0x0107) ∧ (p.length = 12) ∧ (pl p 0 4 % 4 = 0) ∧ (pl p 4 2 = 1) ∧ (plZero p 6 2 = true) ∧ (isReg (pl p 0 4) = true) ∧ (u.noViolation (pl p 0 4) = false) ∧ (u.allowed 3 (pl p 0 4) 1 = false) ∧ (RingClean u 41)) ∧
    (∃ (s : State) (h : Hdr) (p : List Byte) (i : Nat), (Accepts s.toHub h 0x0107) ∧ (p.length = 12) ∧ (i < 256) ∧ (pl p 0 4 = CAL_REF i) ∧ (pl p 4 2 = 1) ∧ (plZero p 6 2 = true) ∧ (s.asy.sealSt ≠ 1) ∧ (s.mode ≠ mLOADING) ∧ (RingClean (s.takeCmd h 0x0107) 41)) ∧
    (∃ (s : State) (h : Hdr) (p : List Byte) (ws : Nat → Nat), let n := pl p 4 2; let after := fun k => (List.range k).foldl (fun (v : Hub) i => (v.hostRead (pl p 0 4 + 4 * i)).2) (s.takeCmd h 0x0106); (Accepts s.toHub h 0x0106) ∧ (p.length = 8) ∧ (rangeBad (pl p 0 4) (pl p 4 2) 256 = false) ∧ (plZero p 6 2 = true) ∧ ((∀ i < n, ((after i).hostRead (pl p 0 4 + 4 * i)).1.toOption = some (ws i))) ∧ (RingClean (after n) 41)) ∧
    (∃ (s : State) (h : Hdr) (p : List Byte) (ws : Nat → Nat), let n := pl p 4 2; let after := fun k => (List.range k).foldl (fun (v : Hub) i => (v.hostRead (pl p 0 4 + 4 * i)).2) (s.takeCmd h 0x0106); ∃ (k : Nat), ∃ (st : Nat), (Accepts s.toHub h 0x0106) ∧ (p.length = 8) ∧ (rangeBad (pl p 0 4) (pl p 4 2) 256 = false) ∧ (plZero p 6 2 = true) ∧ (k < n) ∧ ((∀ i < k, ((after i).hostRead (pl p 0 4 + 4 * i)).1.toOption = some (ws i))) ∧ (((after k).hostRead (pl p 0 4 + 4 * k)).1 = .error st) ∧ (RingClean (after (k + 1)) 41)) ∧
    (∃ (s : State) (h : Hdr) (p : List Byte), let n := pl p 4 2; let put := fun (v : Hub) i => v.hostWrite (pl p 0 4 + 4 * i) (pl p (8 + 4 * i) 4); let after := fun k => (List.range k).foldl (fun (v : Hub) i => (put v i).2) (s.takeCmd h 0x0107); (Accepts s.toHub h 0x0107) ∧ (p.length = 8 + 4 * pl p 4 2) ∧ (rangeBad (pl p 0 4) (pl p 4 2) 254 = false) ∧ (plZero p 6 2 = true) ∧ ((∀ i < n, (put (after i) i).1 = stOK)) ∧ (RingClean (after n) 41)) ∧
    (∃ (s : State) (h : Hdr) (p : List Byte), let n := pl p 4 2; let put := fun (v : Hub) i => v.hostWrite (pl p 0 4 + 4 * i) (pl p (8 + 4 * i) 4); let after := fun k => (List.range k).foldl (fun (v : Hub) i => (put v i).2) (s.takeCmd h 0x0107); ∃ (k : Nat), ∃ (st : Nat), (Accepts s.toHub h 0x0107) ∧ (p.length = 8 + 4 * pl p 4 2) ∧ (rangeBad (pl p 0 4) (pl p 4 2) 254 = false) ∧ (plZero p 6 2 = true) ∧ (k < n) ∧ ((∀ i < k, (put (after i) i).1 = stOK)) ∧ ((put (after k) k).1 = st) ∧ (st ≠ stOK) ∧ (RingClean (after (k + 1)) 41)) :=
  ⟨⟨st (hub 2 []), hd, by decide +kernel⟩,
   ⟨st (hub 2 []), hd, [165, 90, 0, 0], by decide +kernel⟩,
   ⟨st (hub 2 []), hd, [1, 2, 3], by decide +kernel⟩,
   ⟨st (hub 2 []), hd, [222, 188, 10, 0, 3, 0, 0, 0], by decide +kernel⟩,
   ⟨st (hub 2 []), hd, by decide +kernel⟩,
   ⟨st (hub 2 [(FW_WIN_BASE 3 0, 0x40020000), (FW_WIN_LIMIT 3 0, 0x4002FFFC), (FW_WIN_ATTR 3 0, 0x7)]), hd, [0, 0, 2, 64, 1, 0, 0, 0], by decide +kernel, by decide +kernel, by decide +kernel, (by decide +kernel), by decide +kernel, by decide +kernel, by decide +kernel, ringClean_of (by decide +kernel) (by decide +kernel) _⟩,
   ⟨st (hub 2 []), hd, [0, 0, 0, 64, 1, 0, 0, 0], by decide +kernel, by decide +kernel, by decide +kernel, (by decide +kernel), by decide +kernel, by decide +kernel, by decide +kernel, ringClean_of (by decide +kernel) (by decide +kernel) _⟩,
   ⟨st (hub 2 [(FW_WIN_BASE 3 0, 0x40020000), (FW_WIN_LIMIT 3 0, 0x4002FFFC), (FW_WIN_ATTR 3 0, 0x7)]), hd, [8, 0, 2, 64, 1, 0, 0, 0, 64, 0, 0, 0], by decide +kernel, by decide +kernel, by decide +kernel, (by decide +kernel), by decide +kernel, by decide +kernel, by decide +kernel, (by decide +kernel), ringClean_of (by decide +kernel) (by decide +kernel) _⟩,
   ⟨st (hub 2 []), hd, [4, 0, 1, 64, 1, 0, 0, 0, 64, 0, 0, 0], by decide +kernel, by decide +kernel, by decide +kernel, (by decide +kernel), by decide +kernel, by decide +kernel, by decide +kernel, (by decide +kernel), ringClean_of (by decide +kernel) (by decide +kernel) _⟩,
   ⟨st (hub 2 []), hd, leBytes 4 (CAL_REF 4) ++ [1, 0, 0, 0, 1, 2, 3, 4], 4, by decide +kernel, by decide +kernel, by decide +kernel, (by decide +kernel), by decide +kernel, by decide +kernel, by decide +kernel, (by decide +kernel), ringClean_of (by decide +kernel) (by decide +kernel) _⟩,
   ⟨st (hub 2 [(FW_WIN_BASE 3 0, 0x40020000), (FW_WIN_LIMIT 3 0, 0x4002000C), (FW_WIN_ATTR 3 0, 0x7)]), hd, [8, 0, 2, 64, 2, 0, 0, 0], fun i => if i = 0 then 3200 else 4384, by decide +kernel, by decide +kernel, by decide +kernel, (by decide +kernel), by decide +kernel, ringClean_of (by decide +kernel) (by decide +kernel) _⟩,
   ⟨st (hub 2 [(FW_WIN_BASE 3 0, 0x40020000), (FW_WIN_LIMIT 3 0, 0x4002000C), (FW_WIN_ATTR 3 0, 0x7)]), hd, [8, 0, 2, 64, 3, 0, 0, 0], fun i => if i = 0 then 3200 else 4384, 2, stFROZEN, by decide +kernel, by decide +kernel, by decide +kernel, (by decide +kernel), by decide +kernel, by decide +kernel, refused_of (by decide +kernel), ringClean_of (by decide +kernel) (by decide +kernel) _⟩,
   ⟨st (hub 2 [(FW_WIN_BASE 3 0, 0x40020000), (FW_WIN_LIMIT 3 0, 0x4002000C), (FW_WIN_ATTR 3 0, 0x7)]), hd, [8, 0, 2, 64, 2, 0, 0, 0, 64, 0, 0, 0, 30, 0, 0, 0], by decide +kernel, by decide +kernel, by decide +kernel, (by decide +kernel), by decide +kernel, ringClean_of (by decide +kernel) (by decide +kernel) _⟩,
   ⟨st (hub 2 [(FW_WIN_BASE 3 0, 0x40020000), (FW_WIN_LIMIT 3 0, 0x4002000C), (FW_WIN_ATTR 3 0, 0x7)]), hd, ([8, 0, 2, 64, 2, 0, 0, 0, 63] ++ List.replicate 7 0), 0, stBAD_ARG, by decide +kernel, by decide +kernel, by decide +kernel, (by decide +kernel), by decide +kernel, by decide +kernel, by decide +kernel, (by decide +kernel), ringClean_of (by decide +kernel) (by decide +kernel) _⟩⟩

theorem witness_ImageCommands :
    (∃ (s : State) (h : Hdr) (p : List Byte), (Accepts s.toHub h 0x1301) ∧ (s.mode = mLOADING) ∧ (p.length = 4) ∧ (192 ≤ pl p 0 4) ∧ (pl p 0 4 ≤ 0x200000) ∧ (pl p 0 4 % 4 = 0)) ∧
    (∃ (s : State) (h : Hdr) (p : List Byte) (total got : Nat), (Accepts s.toHub h 0x1302) ∧ (s.mode = mLOADING) ∧ (8 ≤ p.length) ∧ (p.length ≤ 1024) ∧ (p.length % 4 = 0) ∧ (s.pw.img = some (total, got)) ∧ (pl p 0 4 = got) ∧ (got + (p.length - 4) ≤ total) ∧ (total ≤ 0x200000) ∧ (s.ecc = []) ∧ (s.bit ECC_FLIP 31 = false)) ∧
    (∃ (s : State) (h : Hdr) (n : Nat), let u := s.takeCmd h 0x1303; let b := u.bytes 0x30000000 n; ∃ (e : ImageError), (Accepts s.toHub h 0x1303) ∧ (s.mode = mLOADING) ∧ (s.pw.img = some (n, n)) ∧ ((u.imageScan b n).2 = none) ∧ ((u.imageScan b n).1.checkImage b n = .error e)) ∧
    (∃ (s : State) (h : Hdr) (n : Nat), let u := s.takeCmd h 0x1303; let b := u.bytes 0x30000000 n; ∃ (xs : List Section), (Accepts s.toHub h 0x1303) ∧ (s.mode = mLOADING) ∧ (s.pw.img = some (n, n)) ∧ ((u.imageScan b n).2 = none) ∧ ((u.imageScan b n).1.checkImage b n = .ok xs) ∧ ((((u.imageScan b n).1.decoderWindows xs).loadSections b xs).2 = none)) ∧
    (∃ (s : State) (h : Hdr), (Accepts s.toHub h 0x1304) ∧ (s.mode = mLOADING)) ∧
    (∃ (s : State) (h : Hdr), (Accepts s.toHub h 0x1305) ∧ (s.mode = mLOADING)) :=
  ⟨⟨st (hub 1 []), hd, [192, 0, 0, 0], by decide +kernel⟩,
   ⟨st { hub 1 [] with pw := { img := some (200, 4) } }, hd, [4, 0, 0, 0, 1, 2, 3, 4], 200, 4, by decide +kernel⟩,
   ⟨st { hub 1 [] with pw := { img := some (192, 192) } }, hd, 192, { cause := 1 }, by decide +kernel, by decide +kernel, by decide +kernel, by decide +kernel, error_of (by decide +kernel)⟩,
   ⟨st { hub 1 [(RP_PD_STATUS, 0x07FF03FF)] with mem := memPuts [] 0x30000000 ulipa, pw := { img := some (192, 192) } }, hd, 192, [ulipaSection 0 1 0x10000000, ulipaSection 1 2 0x38009000], by decide +kernel, by decide +kernel, by decide +kernel, by decide +kernel, ok_of (by decide +kernel), by decide +kernel⟩,
   ⟨st (hub 1 []), hd, by decide +kernel⟩,
   ⟨st (hub 1 []), hd, by decide +kernel⟩⟩

theorem witness_HallmarkCounterOnlyGrows :
    ∃ (s t : State), (s.asy.otp ≤ 32) ∧ (step s = .next t) :=
  ⟨st (hub 2 []), st (hub 2 []), by decide +kernel, rfl⟩

theorem witness_MemoryStaysCanonical :
    ∃ (s t : State), (memWf s.mem = true) ∧ (step s = .next t) :=
  ⟨st (hub 2 []), st (hub 2 []), by decide +kernel, rfl⟩

/-! ### Ill-formed commands: each check of WellFormed refuses its term -/

theorem test_wf_payload : (Instr.sysEcho hd (zeros 1025)).wf = false ∧ (Instr.sysEcho hd (zeros 1024)).wf = true := by decide +kernel
theorem test_wf_distinct : (Instr.sampleConversion 0 [quietIn 3, quietIn 5, quietIn 3]).wf = false ∧ (Instr.sampleConversion 0 [quietIn 3, quietIn 5]).wf = true := by
  decide +kernel
theorem test_wf_access_size : (Instr.interconnectAccess 0 0 0x40000000 [1, 2, 3]).wf = false ∧ (Instr.interconnectAccess 0 0 0x40000000 [1, 2]).wf = true := by
  decide +kernel
theorem test_wf_assay_window : (Instr.assayWindowWrite 0 0x50100000).wf = false ∧ (Instr.assayWindowWrite 0 0x500FFFFC).wf = true := by decide +kernel
theorem test_wf_register_aligned : (Instr.registerWrite 0 0x40000002 1).wf = false ∧ (Instr.registerWrite 0 0x40000004 1).wf = true := by decide +kernel
theorem test_wf_guard : (Instr.feNop 0 ⟨0, true⟩).wf = false ∧ (Instr.feNop 0 ⟨1, true⟩).wf = true := by decide +kernel
theorem test_wf_span : (Instr.feWsum 0 gd0 1 20 12).wf = false ∧ (Instr.feWsum 0 gd0 1 20 11).wf = true := by decide +kernel
theorem test_wf_peak_register : (Instr.feWpeak 0 gd0 3 4 15).wf = false ∧ (Instr.feWpeak 0 gd0 4 4 15).wf = true := by decide +kernel
theorem test_wf_skipz : (Instr.feSkipz 0 ⟨1, false⟩ 2 3).wf = false ∧ (Instr.feSkipz 0 gd0 2 0).wf = false ∧ (Instr.feSkipz 0 gd0 2 3).wf = true := by decide +kernel
theorem test_wf_end : (Instr.feEnd 0 ⟨1, false⟩).wf = false ∧ (Instr.feEnd 0 gd0).wf = true := by decide +kernel

/-! ### Words of the feature engines, written out from the formats of R168 -/

theorem test_engine_words :
    feDecode 0x200C2200 = some (.add gd0 3 1 2) ∧ feDecode 0x0817FFFF = some (.movi gd0 5 (-1)) ∧
    feDecode 0x81C68000 = some (.cmpgt ⟨3, true⟩ 1 20 0) ∧ feDecode 0xC0080003 = some (.skipz gd0 2 3) ∧
    feDecode 0xFC000000 = some (.endRun gd0) := by decide +kernel

/-- A reserved guard, a reserved operation and a reserved span. -/
theorem test_engine_words_refused : feDecode 0x00400000 = none ∧ feDecode 0x1C000000 = none ∧ feDecode 0x64040001 = none := by decide +kernel

/-- The program of the worked example of chapter 7. -/
def exampleProgram : List Nat :=
  [0x10080000, 0x8006A200, 0x800AB400, 0x8C12C01B, 0x900C2200, 0x900C6402, 0x6410040F, 0x6018040F, 0x44208001, 0x7025040F, 0xA1808000, 0xA184C000,
   0xA1892000, 0xA980000A, 0x90142401, 0x60281003, 0x24294000, 0x44294004, 0x22C00A00, 0xA00C0000, 0xA4028000, 0xFC000000]

/-- Its instructions as the example writes them: LDL V2, 0; CMPGT P1, YP, V2; CMPGT P2, YP, Y; PTST P4, STAT, 0x01B; … -/
theorem test_example_program : exampleProgram.map feDecode =
    [some (.ldl gd0 2 0), some (.cmpgt gd0 1 21 2), some (.cmpgt gd0 2 21 20), some (.ptst gd0 4 22 0x1B), some (.plog gd0 3 1 2 0),
     some (.plog gd0 3 3 4 2), some (.wpeak gd0 4 4 15), some (.wsum gd0 6 4 15), some (.shr gd0 8 4 1), some (.interp gd0 9 8 4 false 15),
     some (.feat ⟨3, false⟩ 0 4), some (.feat ⟨3, false⟩ 1 6), some (.feat ⟨3, false⟩ 2 9), some (.trig ⟨3, false⟩ true 2), some (.plog gd0 5 1 4 1),
     some (.wsum gd0 10 16 3), some (.sub gd0 10 10 0), some (.shr gd0 10 10 4), some (.add ⟨5, true⟩ 0 0 10), some (.feat gd0 3 0),
     some (.tower gd0 20 0), some (.endRun gd0)] := by decide +kernel

/-- The example's static count of entry 0 is 28. -/
theorem test_example_count : issueCount (exampleProgram.filterMap feDecode) 0 = some 28 := by decide +kernel

/-! ### Values of the spec's other worked examples -/

/-- A bank image with PED[37][1] = 40, GAIN[37][1] = 16 712 and ADC_OFS = −8 for ADC 5 (the example of chapter 4). -/
def exampleImage : List (Nat × Nat) := [(0x752, 40), (0x75A, 0x48), (0x75B, 0x41), (0x150A, 0xF8), (0x150B, 0xFF)]

theorem test_example_linearised : deviation exampleImage 0 5 37 1 8817 = 9968 ∧ linearise exampleImage 37 1 9968 = 5084 ∧ wordOf 1 636 = 0x427C := by
  decide +kernel

/-- The towers of the example of chapter 8. -/
def exampleTowers : List Nat :=
  ([0, 120, 40] ++ List.replicate 6 0 ++ [805, 310] ++ List.replicate 6 0 ++ [95, 60]).map fun e => towerWord e 0 0

theorem test_example_tower : towerEnergy 12876 4 = (805, false) ∧ towerWord 805 0 0 = 0x3250 := by decide +kernel
theorem test_example_windows : (singleGrid (exampleTowers ++ List.replicate 45 0)).sum 1 0 = 1275 ∧
    (singleGrid (exampleTowers ++ List.replicate 45 0)).clusters 200 true 0 6 = [(1, 0)] ∧
    (singleGrid (exampleTowers ++ List.replicate 45 0)).cluster 3 1 0 = 0x109F := by decide +kernel

/-- T_trig of the two hubs of the example of chapter 9. -/
theorem test_example_trigger_time : trigTime (2145031375 * 256) 512 (-3503) 8000 1 = 2145031283 * 256 + 185 ∧
    trigTime (2145031375 * 256) 512 (-3350) 8000 1 = 2145031288 * 256 + 100 := by decide +kernel

/-- The token streams of the example of chapter 10: a quiet channel in 44 bits, and channel 5 in 98. -/
def exampleQuiet : List Bool := bitsMsb 8 0xC0 ++ bitsMsb 16 0 ++ bitsMsb 8 0x82 ++ bitsMsb 12 0
def exampleChannel : List Bool :=
  bitsMsb 8 0xC0 ++ bitsMsb 16 0x78 ++ bitsMsb 7 2 ++ bitsMsb 16 0xFFFF ++ bitsMsb 17 7760 ++ bitsMsb 6 0x3E ++ bitsMsb 11 1096 ++ bitsMsb 5 0x1E ++
  bitsMsb 12 1151

theorem test_example_quiet : (readTokens ⟨1, true, false⟩ (fun _ => none) 4 4 0 { words := [], before := none } {} exampleQuiet).map (fun x => x.1.fresh 4)
    = .ok [0, 0, 0, 0] := by rfl
theorem test_example_channel : (readTokens ⟨1, true, false⟩ (fun _ => none) 4 4 0 { words := [], before := none } {} exampleChannel).map (fun x => x.1.fresh 4)
    = .ok [0x78, 0xFA0, 0x49C4, 0x384] := by rfl

/-- The admission of the example of chapter 11: six or seven groups at 2×. -/
theorem test_example_admission : capSum 63 - capMax 63 = 7268 ∧ admitted 3200 63 (fun g => if g < 6 then 1 else 0) (fun _ => 2) = true ∧
    admitted 3200 63 (fun g => if g < 7 then 1 else 0) (fun _ => 2) = false := by decide +kernel

/-- The servo's step and phi of the example of chapter 12. -/
theorem test_example_servo : servoStep 2200000 344 5504 1000000000 1875 = (2159687, 1514687) ∧ phiOf 107040 1 8000 = 38912 * 4096 / 100 := by decide +kernel

/-! ### The tables of the algorithms that the spec names -/

/-- The digest of no bytes, which an empty section's entry holds. -/
theorem test_sha256_empty : sha256 [] = emptyDigest := by decide +kernel
theorem test_crc32c : crc32c [0x31, 0x32, 0x33, 0x34, 0x35, 0x36, 0x37, 0x38, 0x39] = 0xE3069283 := by decide +kernel
theorem test_crc16 : crc16 [0x31, 0x32, 0x33, 0x34, 0x35, 0x36, 0x37, 0x38, 0x39] = 0x29B1 := by decide +kernel

/-- A carriage comes back from its code, with no bit corrected. -/
theorem test_carriage : Car.decode true car.encode = some (car, 0) := by decide +kernel

end Sys2Proof.Tests
end

/-! The effective action of a crossing bit by bit, the precedence of its actions, and what forming it leaves in the record and the registers (R40-R44). -/

namespace Sys2Proof.Machine

/-! ### The words of a bank (R40, R41) -/

theorem bitAt_eq_testBit (x i : Nat) : bitAt x i = x.testBit i := by
  rw [bitAt, Nat.testBit_eq_decide_div_mod_eq]
  rfl

theorem winActs_iff (r a c t : Nat) : winActs r a c t = true ↔
    bitAt a 31 = true ∧ bits r 15 0 ≤ c ∧ c ≤ bits r 31 16 ∧ t % 2 ^ bits a 23 20 = 0 := by
  simp [winActs, and_assoc]

/-- A bit of the OR of a word and of those words of a list that a condition picks. -/
theorem testBit_foldl_or_ite {α : Type} (p : α → Bool) (f : α → Nat) (i : Nat) (ks : List α) : ∀ w : Nat,
    (ks.foldl (fun w k => if p k then w ||| f k else w) w).testBit i = true ↔
      w.testBit i = true ∨ ∃ k ∈ ks, p k = true ∧ (f k).testBit i = true := by
  induction ks with
  | nil => simp
  | cons k ks ih =>
    intro w
    rw [List.foldl_cons, ih]
    cases hp : p k <;> simp [hp, or_assoc]

/-- R41 on one bank: its slot entry and every enabled window that spans the crossing in a turn its period divides. -/
theorem bitAt_actionOf (s : Hub) (slot range act : Nat → Nat) (c t : Nat) {i : Nat} (hi : bitAt slotMask i = true) :
    bitAt (s.actionOf slot range act c t) i = true ↔ bitAt (s.reg (slot (c % 64))) i = true ∨
      ∃ k < 16, bitAt (s.reg (act k)) 31 = true ∧ bits (s.reg (range k)) 15 0 ≤ c ∧ c ≤ bits (s.reg (range k)) 31 16 ∧
        t % 2 ^ bits (s.reg (act k)) 23 20 = 0 ∧ bitAt (s.reg (act k)) i = true := by
  simp only [bitAt_eq_testBit _ i] at hi ⊢
  rw [Hub.actionOf, testBit_foldl_or_ite]
  simp only [List.mem_range, winActs_iff, Nat.testBit_and, hi, Bool.and_true, and_assoc]

/-! ### Modes and precedence (R43, R44) -/

theorem modeIn_actsBlank (s : Hub) : s.modeIn [mRUN, mPULSE, mHOLD] = actsBlank s.mode := by
  simp [Hub.modeIn, actsBlank, Bool.or_assoc]

theorem modeIn_actsCal (s : Hub) : s.modeIn [mPREPARE, mRUN, mPULSE, mHOLD, mTEST] = actsCal s.mode := by
  simp [Hub.modeIn, actsCal, Bool.or_assoc]

theorem modeIn_actsPulse (s : Hub) : s.modeIn [mPULSE] = actsPulse s.mode := by
  simp [Hub.modeIn, actsPulse]

/-- An action that acts in the mode is performed where none that precedes it acts. -/
theorem precedence_performed (m w : Nat) (pin : Bool) :
    let b := actsBlank m && (bitAt w 0 || pin)
    let c := actsCal m && bitAt w 1
    let u := actsPulse m && bitAt w 2
    let v := actsPulse m && bitAt w 3
    (precedence m w pin).1 = { blank := b, cal := c && !b, pulse := u && !b && !c, prove := v && !b && !c && !u } := rfl

/-- An action that acts in the mode is suppressed where one that precedes it acts too. -/
theorem precedence_suppressed (m w : Nat) (pin : Bool) :
    let b := actsBlank m && (bitAt w 0 || pin)
    let c := actsCal m && bitAt w 1
    let u := actsPulse m && bitAt w 2
    let v := actsPulse m && bitAt w 3
    (precedence m w pin).2 = (c && b, u && (b || c), v && (b || c || u)) := by
  intro b c u v
  change (c && !(c && !b), u && !(u && !b && !c), v && !(v && !b && !c && !u)) = _
  cases b <;> cases c <;> cases u <;> cases v <;> rfl

/-! ### Counting what is suppressed (R44) -/

theorem fld_incSat_same (s : Hub) (a hi lo : Nat) (h : lo ≤ hi ∧ hi < 32) :
    (s.incSat a hi lo).fld a hi lo = min (s.fld a hi lo + 1) (2 ^ (hi + 1 - lo) - 1) := by
  have hp := Nat.two_pow_pos (hi + 1 - lo)
  rw [Hub.incSat, fld_setFld_same _ _ _ _ _ h, satInc, satU, Nat.mod_eq_of_lt (by omega)]

/-- A counter of 16 bits at bit `lo` counts where `b` holds. -/
theorem fld_ite_incSat_same (s : Hub) (b : Bool) (a hi lo : Nat) (h : hi = lo + 15 ∧ hi < 32) :
    (if b then s.incSat a hi lo else s).fld a hi lo = if b then min (s.fld a hi lo + 1) 65535 else s.fld a hi lo := by
  have hw : hi + 1 - lo = 16 := by omega
  cases b
  · rfl
  · simpa [hw] using fld_incSat_same s a hi lo ⟨by omega, h.2⟩

theorem fld_ite_incSat_disjoint (s : Hub) (b : Bool) (a hi lo hi' lo' : Nat) (h : lo ≤ hi ∧ hi' < 32) (hd : hi' < lo ∨ hi < lo') :
    (if b then s.incSat a hi lo else s).fld a hi' lo' = s.fld a hi' lo' := by
  cases b
  · rfl
  · exact fld_setFld_disjoint s a hi lo _ hi' lo' h hd

theorem reg_ite_incSat_ne (s : Hub) (b : Bool) {a a' : Nat} (hi lo : Nat) (ha : a' ≠ a) :
    (if b then s.incSat a hi lo else s).reg a' = s.reg a' := by
  cases b
  · rfl
  · exact reg_setFld_ne s hi lo _ ha

theorem fld_ite_incSat_ne (s : Hub) (b : Bool) {a a' : Nat} (hi lo hi' lo' : Nat) (ha : a' ≠ a) :
    (if b then s.incSat a hi lo else s).fld a' hi' lo' = s.fld a' hi' lo' := by
  rw [Hub.fld, reg_ite_incSat_ne s b hi lo ha, Hub.fld]

theorem tt_ite_incSat (s : Hub) (b : Bool) (a hi lo : Nat) : (if b then s.incSat a hi lo else s).tt = s.tt := by
  cases b
  · rfl
  · exact setFld_tt s a hi lo _

/-! ### Forming the action -/

/-- What the precedence makes of the present crossing's effective action (R44), with the BLANK pin where it is enabled (R51). -/
def Hub.presentAction (s : Hub) (pin : Bool) : Performed × (Bool × Bool × Bool) :=
  precedence s.mode (s.effective s.tt.crossing s.tt.turn) (pin && s.bit TT_CTRL 4)

/-- The hub with each of CAL, PULSE and PROVE counted that `x` names as suppressed. -/
def Hub.countSuppressed (s : Hub) (x : Bool × Bool × Bool) : Hub :=
  let s := if x.1 then s.incSat TT_SUPP0 15 0 else s
  let s := if x.2.1 then s.incSat TT_SUPP0 31 16 else s
  if x.2.2 then s.incSat TT_SUPP1 15 0 else s

@[simp] theorem countSuppressed_tt (s : Hub) (x : Bool × Bool × Bool) : (s.countSuppressed x).tt = s.tt := by
  rw [Hub.countSuppressed, tt_ite_incSat, tt_ite_incSat, tt_ite_incSat]

theorem reg_countSuppressed_ne (s : Hub) (x : Bool × Bool × Bool) {a : Nat} (h0 : a ≠ TT_SUPP0) (h1 : a ≠ TT_SUPP1) :
    (s.countSuppressed x).reg a = s.reg a := by
  rw [Hub.countSuppressed, reg_ite_incSat_ne _ _ _ _ h1, reg_ite_incSat_ne _ _ _ _ h0, reg_ite_incSat_ne _ _ _ _ h0]

/-- Each suppressed action adds 1 to its own counter, and to no other (R44). -/
theorem fld_countSuppressed (s : Hub) (x : Bool × Bool × Bool) :
    (s.countSuppressed x).fld TT_SUPP0 15 0 = (if x.1 then min (s.fld TT_SUPP0 15 0 + 1) 65535 else s.fld TT_SUPP0 15 0) ∧
    (s.countSuppressed x).fld TT_SUPP0 31 16 = (if x.2.1 then min (s.fld TT_SUPP0 31 16 + 1) 65535 else s.fld TT_SUPP0 31 16) ∧
    (s.countSuppressed x).fld TT_SUPP1 15 0 = (if x.2.2 then min (s.fld TT_SUPP1 15 0 + 1) 65535 else s.fld TT_SUPP1 15 0) := by
  have hne : TT_SUPP0 ≠ TT_SUPP1 := by decide
  refine ⟨?_, ?_, ?_⟩
  · rw [Hub.countSuppressed, fld_ite_incSat_ne _ _ _ _ _ _ hne, fld_ite_incSat_disjoint _ _ _ _ _ _ _ (by decide) (by decide),
      fld_ite_incSat_same _ _ _ _ _ (by decide)]
  · rw [Hub.countSuppressed, fld_ite_incSat_ne _ _ _ _ _ _ hne, fld_ite_incSat_same _ _ _ _ _ (by decide),
      fld_ite_incSat_disjoint _ _ _ _ _ _ _ (by decide) (by decide)]
  · rw [Hub.countSuppressed, fld_ite_incSat_same _ _ _ _ _ (by decide), fld_ite_incSat_ne _ _ _ _ _ _ hne.symm,
      fld_ite_incSat_ne _ _ _ _ _ _ hne.symm]

theorem formAction_regs (s : Hub) (pin : Bool) :
    (s.formAction pin).regs = ((s.countSuppressed (s.presentAction pin).2).setBit TT_STATUS 3 (s.presentAction pin).1.blank).regs := rfl

@[simp] theorem formAction_tt (s : Hub) (pin : Bool) : (s.formAction pin).tt = s.tt :=
  countSuppressed_tt s (s.presentAction pin).2

theorem reg_formAction (s : Hub) (pin : Bool) (a : Nat) (hs : a ≠ TT_STATUS) :
    (s.formAction pin).reg a = (s.countSuppressed (s.presentAction pin).2).reg a := by
  rw [reg_congr (formAction_regs s pin), reg_setBit_ne _ _ _ hs]

@[simp] theorem formAction_mode (s : Hub) (pin : Bool) : (s.formAction pin).mode = s.mode := by
  simp only [Hub.mode, Hub.fld]
  rw [reg_formAction _ _ _ (by decide), reg_countSuppressed_ne _ _ (by decide) (by decide)]

/-- What is performed stands in the record of the crossing (R41, R44). -/
theorem formAction_now (s : Hub) (pin : Bool) :
    let p := (s.presentAction pin).1
    let r := (s.formAction pin).now
    r.blank = p.blank ∧ r.cal = p.cal ∧ r.pulse = p.pulse ∧ r.prove = p.prove := ⟨rfl, rfl, rfl, rfl⟩

/-- FLUSH_MASK and HK are never suppressed (R44). -/
theorem formAction_now_unsuppressed (s : Hub) (pin : Bool) :
    let w := s.effective s.tt.crossing s.tt.turn
    let r := (s.formAction pin).now
    r.flush = (if actsBlank s.mode then bits w 15 8 else 0) ∧ r.hk = bitAt w 4 := by
  refine ⟨?_, rfl⟩
  rw [← formAction_mode s pin]; rfl

/-- The counters of what is suppressed, once the action is formed (R44). -/
theorem fld_formAction_suppressed (s : Hub) (pin : Bool) :
    let x := (s.presentAction pin).2
    let t := s.formAction pin
    t.fld TT_SUPP0 15 0 = (if x.1 then min (s.fld TT_SUPP0 15 0 + 1) 65535 else s.fld TT_SUPP0 15 0) ∧
    t.fld TT_SUPP0 31 16 = (if x.2.1 then min (s.fld TT_SUPP0 31 16 + 1) 65535 else s.fld TT_SUPP0 31 16) ∧
    t.fld TT_SUPP1 15 0 = (if x.2.2 then min (s.fld TT_SUPP1 15 0 + 1) 65535 else s.fld TT_SUPP1 15 0) := by
  intro x t
  have h0 : t.reg TT_SUPP0 = (s.countSuppressed x).reg TT_SUPP0 := reg_formAction s pin _ (by decide)
  have h1 : t.reg TT_SUPP1 = (s.countSuppressed x).reg TT_SUPP1 := reg_formAction s pin _ (by decide)
  have h := fld_countSuppressed s x
  simp only [Hub.fld] at h ⊢
  rwa [h0, h1]

/-! ### The effective action of a crossing -/

/-- R40, R41 at the present crossing, by the bank in use or by the other one where a swap is taken. -/
theorem bitAt_effective (s : Hub) (c t : Nat) {i : Nat} (hi : bitAt slotMask i = true) :
    let slot := fun k => s.reg (if s.swapsNow then TT_SLOT k else TT_ACT_SLOT k)
    let range := fun k => s.reg (if s.swapsNow then TT_WIN_RANGE k else TT_ACT_WIN_RANGE k)
    let act := fun k => s.reg (if s.swapsNow then TT_WIN_ACT k else TT_ACT_WIN_ACT k)
    (bitAt (s.effective c t) i = true ↔ bitAt (slot (c % 64)) i = true ∨
      ∃ k < 16, bitAt (act k) 31 = true ∧ bits (range k) 15 0 ≤ c ∧ c ≤ bits (range k) 31 16 ∧ t % 2 ^ bits (act k) 23 20 = 0 ∧ bitAt (act k) i = true) := by
  unfold Hub.effective
  cases s.swapsNow
  · exact bitAt_actionOf s TT_ACT_SLOT TT_ACT_WIN_RANGE TT_ACT_WIN_ACT c t hi
  · exact bitAt_actionOf s TT_SLOT TT_WIN_RANGE TT_WIN_ACT c t hi

/-- R43, R44 at the present crossing: what its record and the counters of what is suppressed show. -/
theorem formAction_performs (s : Hub) (pin : Bool) :
    let w := s.effective s.tt.crossing s.tt.turn
    let t := s.formAction pin
    let b := actsBlank s.mode && (bitAt w 0 || (pin && s.bit TT_CTRL 4))
    let c := actsCal s.mode && bitAt w 1
    let u := actsPulse s.mode && bitAt w 2
    let v := actsPulse s.mode && bitAt w 3
    t.now.blank = b ∧ t.now.cal = (c && !b) ∧ t.now.pulse = (u && !b && !c) ∧ t.now.prove = (v && !b && !c && !u) ∧
    t.fld TT_SUPP0 15 0 = (if c && b then min (s.fld TT_SUPP0 15 0 + 1) 65535 else s.fld TT_SUPP0 15 0) ∧
    t.fld TT_SUPP0 31 16 = (if u && (b || c) then min (s.fld TT_SUPP0 31 16 + 1) 65535 else s.fld TT_SUPP0 31 16) ∧
    t.fld TT_SUPP1 15 0 = (if v && (b || c || u) then min (s.fld TT_SUPP1 15 0 + 1) 65535 else s.fld TT_SUPP1 15 0) ∧
    t.now.flush = (if actsBlank s.mode then bits w 15 8 else 0) ∧ t.now.hk = bitAt w 4 := by
  intro w t b c u v
  have hp : (s.presentAction pin).1 = _ := precedence_performed s.mode w (pin && s.bit TT_CTRL 4)
  have hx : (s.presentAction pin).2 = _ := precedence_suppressed s.mode w (pin && s.bit TT_CTRL 4)
  have hnow := formAction_now s pin
  have hcount := fld_formAction_suppressed s pin
  rw [hp] at hnow
  rw [hx] at hcount
  obtain ⟨hblank, hcal, hpulse, hprove⟩ := hnow
  obtain ⟨hc, hu, hv⟩ := hcount
  exact ⟨hblank, hcal, hpulse, hprove, hc, hu, hv, formAction_now_unsuppressed s pin⟩

/-- Settles O10: the OR of a bank bit by bit, then the precedence as the record and the counters show it. -/
theorem effectiveAction : Obligations.EffectiveAction := by
  unfold Obligations.EffectiveAction
  simp only [modeIn_actsBlank, modeIn_actsCal, modeIn_actsPulse]
  exact ⟨fun s c t i hi => bitAt_effective s c t hi, formAction_performs⟩

end Sys2Proof.Machine

/-! What a frame tick does to the crossing and turn counters and to the Timetable's registers (R36-R39), and a read of TT_CROSSING (R38). -/

namespace Sys2Proof.Machine

/-! ### Up to the advance of the counters -/

/-- A TURN_LEN that moves crossing 0 of the next turn moves what waits for it, and none of the counters and registers (R39). -/
theorem turnLenTick_keeps (s : Hub) : s.turnLenTick.tt = s.tt ∧ s.turnLenTick.frame = s.frame ∧ s.turnLenTick.regs = s.regs := by
  unfold Hub.turnLenTick
  split <;> exact ⟨rfl, rfl, rfl⟩

/-- The measurement of the frame rate sets its own counts, and TT_FRATE as its window ends (R60). -/
theorem measureRate_cases {P : Hub → Prop} (s : Hub) (xo : Nat)
    (hend : ∀ w v, P ({ s with tt := { s.tt with xoWin := w, frames := 0 } }.setReg TT_FRATE v))
    (hwithin : ∀ w f, P { s with tt := { s.tt with xoWin := w, frames := f } }) : P (s.measureRate xo) := by
  unfold Hub.measureRate
  dsimp only
  split
  · exact hend _ _
  · exact hwithin _ _

/-- What the hub keeps as it measures the frame rate: all it holds of the counters, the frame, and every register but TT_FRATE. -/
theorem measureRate_keeps (s : Hub) (xo : Nat) :
    (∃ w f, (s.measureRate xo).tt = { s.tt with xoWin := w, frames := f }) ∧ (s.measureRate xo).frame = s.frame ∧
      ∀ a, a ≠ TT_FRATE → (s.measureRate xo).reg a = s.reg a := by
  refine measureRate_cases (P := fun u => (∃ w f, u.tt = { s.tt with xoWin := w, frames := f }) ∧ u.frame = s.frame ∧
    ∀ a, a ≠ TT_FRATE → u.reg a = s.reg a) s xo ?_ ?_
  · exact fun w v => ⟨⟨w, 0, rfl⟩, rfl, fun a ha => reg_setReg_ne _ _ ha⟩
  · exact fun w f => ⟨⟨w, f, rfl⟩, rfl, fun a _ => rfl⟩

/-- The clock monitor changes its own counts (R34). -/
theorem monitorClock_eq (s : Hub) (xo : Nat) :
    ∃ x f b, s.monitorClock xo = { s with tt := { s.tt with monXo := x, monFrames := f, badClk := b } } := by
  unfold Hub.monitorClock
  dsimp only
  split
  · exact ⟨_, _, _, rfl⟩
  · exact ⟨_, _, s.tt.badClk, rfl⟩

/-- The hub in a frame tick as its crossing and turn counters are about to advance. -/
def Hub.clocksTick (s : Hub) (i : TickIn) : Hub :=
  let s := s.turnLenTick
  let s := { s with frame := s.frame + 1, xo := s.xo + i.xo, act := s.regs }.timeAdvance i.xo i.sub
  (s.measureRate i.xo).monitorClock i.xo

/-- The frame has advanced, and the counters, the markers and every register but TT_FRATE are as before. -/
theorem clocksTick_keeps (s : Hub) (i : TickIn) :
    (s.clocksTick i).frame = s.frame + 1 ∧ (s.clocksTick i).tt.crossing = s.tt.crossing ∧ (s.clocksTick i).tt.turn = s.tt.turn ∧
      (s.clocksTick i).tt.markers = s.tt.markers ∧ ∀ a, a ≠ TT_FRATE → (s.clocksTick i).reg a = s.reg a := by
  obtain ⟨htt, hframe, hregs⟩ := turnLenTick_keeps s
  unfold Hub.clocksTick
  dsimp only
  generalize hu : ({ s.turnLenTick with frame := s.turnLenTick.frame + 1, xo := s.turnLenTick.xo + i.xo, act := s.turnLenTick.regs } : Hub).timeAdvance
    i.xo i.sub = u
  have hutt : u.tt = s.tt := by rw [← hu, ← htt]; rfl
  have huframe : u.frame = s.frame + 1 := by rw [← hu, ← hframe]; rfl
  have huregs : u.regs = s.regs := by rw [← hu, ← hregs]; rfl
  obtain ⟨⟨w, f, hm⟩, hmframe, hmreg⟩ := measureRate_keeps u i.xo
  obtain ⟨x, g, b, e⟩ := monitorClock_eq (u.measureRate i.xo) i.xo
  rw [e]
  refine ⟨hmframe.trans huframe, ?_, ?_, ?_, fun a ha => (hmreg a ha).trans (reg_congr huregs a)⟩ <;> simp [hm, hutt]

/-! ### The advance and the markers -/

theorem advance_within (s : Hub) (h : s.tt.crossing + 1 < s.turnLen) :
    s.advance.tt.crossing = s.tt.crossing + 1 ∧ s.advance.tt.turn = s.tt.turn := by
  rw [Hub.advance, if_neg (by omega)]; exact ⟨rfl, rfl⟩

theorem advance_end (s : Hub) (h : s.turnLen ≤ s.tt.crossing + 1) :
    s.advance.tt.crossing = 0 ∧ s.advance.tt.turn = (s.tt.turn + 1) % 2 ^ 32 := by
  rw [Hub.advance, if_pos h]; exact ⟨rfl, rfl⟩

theorem advance_keeps (s : Hub) : s.advance.frame = s.frame ∧ s.advance.tt.markers = s.tt.markers ∧ s.advance.regs = s.regs := by
  unfold Hub.advance
  split <;> exact ⟨rfl, rfl, rfl⟩

/-- In a frame that no marker names, the markers leave the counters alone (R37). -/
theorem markersDue_of_none (s : Hub) (h : ∀ m ∈ s.tt.markers, m.1 ≠ s.frame) :
    s.markersDue.tt.crossing = s.tt.crossing ∧ s.markersDue.tt.turn = s.tt.turn := by
  have hnone : s.tt.markers.filter (·.1 == s.frame) = [] := by simpa using h
  rw [Hub.markersDue, hnone]; exact ⟨rfl, rfl⟩

/-- A marker changes no register but TT_SLIP_COUNT and those of reporting (R37). -/
theorem reg_applyMarker (s : Hub) (turn : Nat) {a : Nat} (ha : a < 0x60000000) (hr : a ∉ reportRegs) (hs : a ≠ TT_SLIP_COUNT) :
    (s.applyMarker turn).reg a = s.reg a := by
  have hslip : ∀ (u : Hub) (ws : List Nat), u.regs = s.regs → ((u.incSat TT_SLIP_COUNT 15 0).emit 0x0302 ws).reg a = s.reg a := by
    intro u ws hu
    calc ((u.incSat TT_SLIP_COUNT 15 0).emit 0x0302 ws).reg a
      _ = (u.incSat TT_SLIP_COUNT 15 0).reg a := (touches_emit (rs := []) _ _ _).1 a ha hr (by simp)
      _ = u.reg a := reg_setFld_ne _ _ _ _ hs
      _ = s.reg a := reg_congr hu a
  unfold Hub.applyMarker
  dsimp only
  split
  · rfl
  · split
    · rfl
    · apply hslip
      split <;> rfl

theorem reg_markersDue (s : Hub) {a : Nat} (ha : a < 0x60000000) (hr : a ∉ reportRegs) (hs : a ≠ TT_SLIP_COUNT) :
    s.markersDue.reg a = s.reg a := by
  have hfold : ∀ (ms : List (Nat × Nat)) (u : Hub), (ms.foldl (fun s m => s.applyMarker m.2) u).reg a = u.reg a := by
    intro ms
    induction ms with
    | nil => intro u; rfl
    | cons m ms ih => intro u; rw [List.foldl_cons, ih, reg_applyMarker _ _ ha hr hs]
  exact hfold _ _

/-! ### The whole tick -/

theorem takeLat_eq (s : Hub) : ∃ l, s.takeLat = { s with tt := { s.tt with lat := l } } := by
  unfold Hub.takeLat
  dsimp only
  split
  · exact ⟨s.tt.lat, rfl⟩
  · exact ⟨_, rfl⟩

/-- The hub in a frame tick as its action is about to be formed: LAT_FRAMES, PAD_FRAMES and the BLANK synchroniser follow the markers. -/
def Hub.latPinTick (s : Hub) (i : TickIn) : Hub :=
  let s := s.takeLat
  let s := s.setFld TT_LAT 13 8 s.pad
  let seen := s.pinLevel i.blank
  let s := { s with tt := { s.tt with pin1 := seen, pin2 := s.tt.pin1 } }
  s.setBit TT_STATUS 2 seen

theorem latPinTick_keeps (s : Hub) (i : TickIn) :
    (s.latPinTick i).tt.crossing = s.tt.crossing ∧ (s.latPinTick i).tt.turn = s.tt.turn ∧
      ∀ a, a ≠ TT_LAT → a ≠ TT_STATUS → (s.latPinTick i).reg a = s.reg a := by
  obtain ⟨l, hl⟩ := takeLat_eq s
  unfold Hub.latPinTick
  rw [hl]
  refine ⟨by simp, by simp, fun a hlat hstatus => ?_⟩
  calc _ = _ := reg_setBit_ne _ _ _ hstatus
    _ = ({ s with tt := { s.tt with lat := l } } : Hub).reg a := reg_setFld_ne _ _ _ _ hlat
    _ = s.reg a := reg_congr rfl a

/-- A frame tick in its parts: the clocks, the counters (R36), the markers (R37), the latency and the pin (R49, R55), and the action (R41). -/
theorem ttTick_eq (s : Hub) (i : TickIn) : s.ttTick i =
    ((s.clocksTick i).advance.markersDue.latPinTick i).formAction (s.clocksTick i).advance.markersDue.takeLat.tt.pin2 := rfl

/-- The registers that a frame tick changes in the Timetable, beside those of reporting. -/
def ttTickRegs : List Nat := [TT_FRATE, TT_SLIP_COUNT, TT_LAT, TT_STATUS, TT_SUPP0, TT_SUPP1]

/-- A frame tick leaves every other register alone. -/
theorem reg_ttTick (s : Hub) (i : TickIn) {a : Nat} (ha : a < 0x60000000) (hr : a ∉ reportRegs) (hw : a ∉ ttTickRegs) :
    (s.ttTick i).reg a = s.reg a := by
  simp only [ttTickRegs, List.mem_cons, List.not_mem_nil, or_false, not_or] at hw
  obtain ⟨hfrate, hslip, hlat, hstatus, hsupp0, hsupp1⟩ := hw
  obtain ⟨-, -, -, -, hclocks⟩ := clocksTick_keeps s i
  obtain ⟨-, -, hadvance⟩ := advance_keeps (s.clocksTick i)
  obtain ⟨-, -, hlatpin⟩ := latPinTick_keeps (s.clocksTick i).advance.markersDue i
  rw [ttTick_eq, reg_formAction _ _ _ hstatus, reg_countSuppressed_ne _ _ hsupp0 hsupp1, hlatpin a hlat hstatus,
    reg_markersDue _ ha hr hslip, reg_congr hadvance, hclocks a hfrate]

/-- A tick that no marker names advances the counters as R36 says. -/
theorem ttTick_advances (s : Hub) (i : TickIn) (h : ∀ m ∈ s.tt.markers, m.1 ≠ s.frame + 1) :
    (s.tt.crossing + 1 < s.turnLen → (s.ttTick i).tt.crossing = s.tt.crossing + 1 ∧ (s.ttTick i).tt.turn = s.tt.turn) ∧
    (s.turnLen ≤ s.tt.crossing + 1 → (s.ttTick i).tt.crossing = 0 ∧ (s.ttTick i).tt.turn = (s.tt.turn + 1) % 2 ^ 32) := by
  obtain ⟨hframe, hcrossing, hturn, hmarkers, hreg⟩ := clocksTick_keeps s i
  have hlen : (s.clocksTick i).turnLen = s.turnLen := by simp only [Hub.turnLen, Hub.fld]; rw [hreg _ (by decide)]
  obtain ⟨haframe, hamarkers, -⟩ := advance_keeps (s.clocksTick i)
  have hnone : ∀ m ∈ (s.clocksTick i).advance.tt.markers, m.1 ≠ (s.clocksTick i).advance.frame := by
    rwa [hamarkers, hmarkers, haframe, hframe]
  obtain ⟨hmc, hmt⟩ := markersDue_of_none _ hnone
  obtain ⟨hlc, hlt, -⟩ := latPinTick_keeps (s.clocksTick i).advance.markersDue i
  rw [ttTick_eq, formAction_tt, hlc, hlt, hmc, hmt, ← hcrossing, ← hturn, ← hlen]
  exact ⟨advance_within _, advance_end _⟩

/-! ### TT_CROSSING and TT_TURN_SNAP (R38) -/

theorem regValue_TT_CROSSING (s : Hub) (m : Nat) : s.regValue m TT_CROSSING = s.tt.crossing := rfl

/-- TT_TURN_SNAP is not one of the registers that the hub shows live. -/
theorem regValue_TT_TURN_SNAP (s : Hub) (m : Nat) : s.regValue m TT_TURN_SNAP = s.reg TT_TURN_SNAP := rfl

/-- Settles O9: the read is the one write that changes TT_TURN_SNAP, and a tick is none. -/
theorem crossingReadLatchesTurn : Obligations.CrossingReadLatchesTurn := by
  unfold Obligations.CrossingReadLatchesTurn
  refine ⟨fun s => runs_lift rfl ⟨?_, rfl, ?_⟩, fun s m => ⟨regValue_TT_CROSSING s m, regValue_TT_TURN_SNAP s m⟩, fun s i => ?_⟩
  · exact reg_setReg_same s.toHub TT_TURN_SNAP s.tt.turn
  · exact touches_setReg s.toHub TT_TURN_SNAP s.tt.turn (Or.inr (Or.inr (List.mem_singleton_self _)))
  · exact reg_ttTick s i (by decide) (by decide) (by decide)

/-! ### TURN_LEN (R36) -/

/-- TT_SET_TURN with a TURN_LEN of at least 64 sets it. -/
theorem ttSetTurnBody_sets (p : List Byte) (s : Hub) (hm : s.modeIn ttTurnModes = true) (hlen : p.length = 4) (hz : plZero p 2 2 = true)
    (h : 64 ≤ pl p 0 2) : ttSetTurnBody p s = (.now stOK [], s.setTurnLen (pl p 0 2)) := by
  unfold ttSetTurnBody
  exact guarded_pass (by simp [hm, hlen, hz, h])

/-- TT_SET_TURN with a shorter TURN_LEN is refused. -/
theorem ttSetTurnBody_refuses (p : List Byte) (s : Hub) (hlen : p.length = 4) (h : pl p 0 2 < 64) :
    ttSetTurnBody p s = (.now stBAD_ARG [], s) := by
  simp [ttSetTurnBody, guarded, checks, fail, hlen, h]

theorem fld_answer (s : Hub) (h : Hdr) (op st : Nat) (p : List Byte) {a hi lo : Nat} (ha : a < 0x60000000) (hr : a ∉ reportRegs) :
    (s.answer h op st p).fld a hi lo = s.fld a hi lo := by
  rw [Hub.fld, reg_answer _ _ _ _ _ ha hr, Hub.fld]

theorem fld_setTurnLen (s : Hub) {l : Nat} (h : l < 2 ^ 16) : (s.setTurnLen l).fld TT_TURN_LEN 15 0 = l := by
  change (s.setFld TT_TURN_LEN 15 0 l).fld TT_TURN_LEN 15 0 = l
  rw [fld_setFld_same _ _ _ _ _ (by decide), Nat.mod_eq_of_lt h]

/-- Settles O4: the two bodies of TT_SET_TURN, then the tick. -/
theorem frameTickAdvancesCounters : Obligations.FrameTickAdvancesCounters := by
  unfold Obligations.FrameTickAdvancesCounters
  refine ⟨by decide +kernel, fun s h p hA hAlone hmode hlen hz => ⟨fun hl => ?_, fun hl => ?_⟩, ttTick_advances⟩
  · have hbody := ttSetTurnBody_sets p (s.takeCmd h 0x0305) (by rw [modeIn_takeCmd, hmode]) hlen hz hl
    refine runs_now rfl hA hbody rfl (Or.inl hAlone) ⟨answered_answer _ _ _ _ _, ?_⟩
    exact (fld_answer _ _ _ _ _ (by decide) (by decide)).trans (fld_setTurnLen _ (pl_lt p 0 2))
  · have hbody := ttSetTurnBody_refuses p (s.takeCmd h 0x0305) hlen hl
    exact runs_now rfl hA hbody rfl (Or.inl hAlone) ⟨answered_answer _ _ _ _ _, (touches_takeCmd _ _ _).trans (touches_answer _ _ _ _ _)⟩

end Sys2Proof.Machine
